-- ==== Sys2Proof/Word.lean ====
section
/-! DEFINITION. The words of the part: bytes and 2-byte fields on the wires (R184 to R186), and counts of the
millisecond counter (R1). Quantities the manual computes with exactly (currents, levels, runs, squares) are `Nat` or `Int`. -/

namespace Sys2Proof

/-- One byte on the upstream link or on the bay bus. -/
abbrev Byte := BitVec 8

/-- A 2-byte word: a CRC-16 (R145) or a sample counter (R76). -/
abbrev Half := BitVec 16

/-- A count of the 32-bit millisecond counter (R1); addition wraps modulo 2^32. -/
abbrev Count := BitVec 32

end Sys2Proof
end

