-- ==== Sys2Proof/Config.lean ====
section
/-! DEFINITION. The part's fixed figures: intervals no table writes, the capacities of its queues and tables, the bay bus
addresses and frame kind codes (00_scope.md, R23, R127, R130, R131, R144, R145, R146, R179, R186). -/

namespace Sys2Proof.Config

/-- Bus settle interval, 200 ms (R23, R152). -/
def settleMs : Nat := 200

/-- Answer window of an attempt, 50 ms (R130). -/
def answerWindowMs : Nat := 50

/-- Resend interval, 2 ms (R131). -/
def resendMs : Nat := 2

/-- Frame gap limit of the upstream receiver, 5 ms (R145). -/
def frameGapMs : Nat := 5

/-- Start code of an upstream frame (R184). -/
def startCode : Byte := 0xA5

/-- Greatest payload length of a request frame (R145). -/
def maxPayload : Nat := 64

/-- Requests a bay queue holds (R30). -/
def bayQueuePlaces : Nat := 4

/-- Replies the reply queue holds (R146). -/
def replyPlaces : Nat := 128

/-- Notices the Notice Queue holds (R179). -/
def noticePlaces : Nat := 32

/-- Greatest PASS payload, and greatest payload of the bay's answer to it (R28, R125). -/
def maxPass : Nat := 32

/-- Height booked for an impact the part could not watch (R90). -/
def unknownHeight : Nat := 65535

/-- Bay bus address of the part (00_scope.md). -/
def partAddress : Byte := 0x01

/-- Bay bus broadcast address (00_scope.md). -/
def broadcastAddress : Byte := 0xFF

/-- Kind codes of bay bus frames (R186). -/
def kindDone : Byte := 0x30
def kindFault : Byte := 0x31
def kindPresence : Byte := 0x32
def kindSamples : Byte := 0x33
def kindAck : Byte := 0x40
def kindNak : Byte := 0x41

end Sys2Proof.Config
end

