-- ==== Sys2Proof/Syntax.lean ====
section
/-! DEFINITION. The commands the part takes: one constructor of `Instr` for each row of spec/opcode_table.json. A request
frame is given by its header bytes and its payload as they stand on the link (R184), so that every failing form of R28 and
R149 is a term; a station frame by its initiator, payload and check (R186). -/

namespace Sys2Proof

/-- A bay index 0..23 (00_scope.md, "Bays, rows, zones and sources"). -/
abbrev Bay := Fin 24

/-- A sensor index 0..3. -/
abbrev SensorId := Fin 4

/-- The header bytes of a request frame but its kind: target code, source field, tag (R184). -/
structure Header where
  target : Byte
  source : Byte
  tag : Byte
deriving DecidableEq, Repr

/-- A frame that a station begins, addressed to the part: initiator address, kind, payload and the two check bytes as one word
(R186). -/
structure StationFrame where
  initiator : Byte
  kind : Byte
  payload : List Byte
  check : Half
deriving DecidableEq, Repr

/-- An ACK of a station, addressed to the part (R186). -/
structure AnswerFrame where
  initiator : Byte
  payload : List Byte
  check : Half
deriving DecidableEq, Repr

/-- Why a request frame is dropped by the Upstream Port's own checks (R145). -/
inductive DropCause where
  | badLength
  | badCrc
deriving DecidableEq, Repr

/-- The commands. In a table write or a record read, `rest` is the payload after its first byte, the table or record ID,
which the command names; the other management requests and the requests to bays carry their whole payload. A DONE, FAULT or SAMPLES
frame carries its kind byte, so that a frame of unknown kind is a term (R141; log 29); a PRESENCE frame is given by initiator, payload
and check; a NAK by initiator, what its payload holds, and check: its reason, absent where the payload is empty, and the bytes after
it (R186; log 30). -/
inductive Instr where
  | powerOnReset
  | softReset (h : Header) (payload : List Byte)
  | spinUp (h : Header) (payload : List Byte)
  | spinDown (h : Header) (payload : List Byte)
  | load (h : Header) (payload : List Byte)
  | unload (h : Header) (payload : List Byte)
  | barrier (h : Header) (payload : List Byte)
  | status (h : Header) (payload : List Byte)
  | pass (h : Header) (payload : List Byte)
  | reserve (h : Header) (payload : List Byte)
  | release (h : Header) (payload : List Byte)
  | tableWriteProfile (h : Header) (rest : List Byte)
  | tableWriteBayAssignment (h : Header) (rest : List Byte)
  | tableWriteLevelMap (h : Header) (rest : List Byte)
  | tableWriteLevelAction (h : Header) (rest : List Byte)
  | tableWriteSensor (h : Header) (rest : List Byte)
  | tableWriteMotionThresholds (h : Header) (rest : List Byte)
  | tableWriteWindows (h : Header) (rest : List Byte)
  | tableWriteSources (h : Header) (rest : List Byte)
  | tableWriteNoticeRouting (h : Header) (rest : List Byte)
  | tableWriteTiming (h : Header) (rest : List Byte)
  | tableRead (h : Header) (payload : List Byte)
  | recordReadCaseStatus (h : Header) (rest : List Byte)
  | recordReadBayRecord (h : Header) (rest : List Byte)
  | recordReadSensorRecord (h : Header) (rest : List Byte)
  | recordReadFirstFaultRecord (h : Header) (rest : List Byte)
  | recordReadAdmissionQueue (h : Header) (rest : List Byte)
  | supplySet (h : Header) (payload : List Byte)
  | faultRelease (h : Header) (payload : List Byte)
  | counterClear (h : Header) (payload : List Byte)
  | reservationsClear (h : Header) (payload : List Byte)
  | motionResume (h : Header) (payload : List Byte)
  | badFrame (cause : DropCause)
  | frameGapExpiry
  | settleExpiry
  | operationDeadlineExpiry (b : Bay)
  | groupDeadlineExpiry (b : Bay)
  | waitDeadlineExpiry (b : Bay)
  | staggerExpiry
  | debounceExpiry (i : SensorId)
  | joltHoldExpiry (i : SensorId)
  | blindExpiry (i : SensorId)
  | answerWindowExpiry
  | resendExpiry
  | allBaysQuickparkEnd
  | transmissionEnd
  | done (f : StationFrame)
  | fault (f : StationFrame)
  | presenceInserted (initiator : Byte) (payload : List Byte) (check : Half)
  | presenceRemoved (initiator : Byte) (payload : List Byte) (check : Half)
  | samples (f : StationFrame)
  | ack (f : AnswerFrame)
  | nakFailure (initiator : Byte) (reason : Option Byte) (rest : List Byte) (check : Half)
  | nakRefused (initiator : Byte) (rest : List Byte) (check : Half)
  | millisecondCounterTick
  | linkByteReceipt (x : Byte)
  | badRequestKind (kind : Byte) (h : Header) (payload : List Byte)
deriving DecidableEq, Repr

end Sys2Proof
end

