-- ==== Sys2Proof/Decode.lean ====
section
/-! DEFINITION. spec/opcode_table.json gives no row any bits ("n_rows_with_fixed": 0, 98_reader.md): the part has no
instruction words. What bytes on the link and on the bay bus mean is in Machine/Link.lean and Machine/Stations.lean. -/

namespace Sys2Proof

/-- The command a word spells by the table's bits: none, for no row of the table has bits. -/
def decodeTableWord (_nbits _w : Nat) : Option Instr := none

end Sys2Proof
end

