-- ==== Sys2Proof/Machine/State.lean ====
section
/-! DEFINITION. The state of the part as plain data: what each of its nine blocks owns (00_scope.md, "Blocks"), and
`State.reset`, the part after power-on reset. INVENTORY.md, "State", lists every field with the rule that names it. -/

namespace Sys2Proof.Machine

/-- An alert level, 0..7 (R102). -/
abbrev Level := Fin 8

/-- A source ID, 0..7, once the check of R28 has passed it. -/
abbrev Source := Fin 8

/-- The twelve bay states (R5). -/
inductive BayState where
  | unknown | empty | off | spinning | idle | loading | loaded | unloading | parking | stopping | faulted | unreachable
deriving DecidableEq, Repr

/-- A zone: one sensor, or All (R105). -/
inductive Zone where
  | sensor (i : SensorId)
  | all
deriving DecidableEq, Repr

/-- The request kinds that enter a bay queue (R26, R29). -/
inductive ReqKind where
  | spinUp | spinDown | load | unload | barrier | status | pass
deriving DecidableEq, Repr

/-- Who a queue entry comes from: an upstream request standing alone or as a member of a group record, or the part itself
(a restore) (R29). -/
inductive Origin where
  | upstream (source : Source) (tag : Byte) (group : Option (Fin 8))
  | part
deriving DecidableEq, Repr

/-- The phases of a queue entry (R29). -/
inductive Phase where
  | queued | checking | deferred | admitting | issued
deriving DecidableEq, Repr

/-- An entry of a bay queue (R29). -/
structure Request where
  kind : ReqKind
  origin : Origin
  payload : List Byte
  phase : Phase
  wait : Option Count
deriving DecidableEq, Repr

/-- Completion and result codes (R44, R184). -/
inductive Code where
  | done | already | preempted | expired | refusedState | bayRefused | bayEmpty | bayFault | reserved | denied
  | queueFull | notReady | busy | badRequest
deriving DecidableEq, Repr

/-- A completion code with its secondary byte (R44). -/
structure Completion where
  code : Code
  secondary : Nat
deriving DecidableEq, Repr

/-- A member of a group record: its bay, and its result once it has one (R49). -/
structure Member where
  bay : Bay
  result : Option Completion
deriving DecidableEq, Repr

/-- A record of the Group Request Table in use (R49). -/
structure GroupRecord where
  tag : Byte
  members : List Member
  outstanding : Nat
deriving DecidableEq, Repr

/-- A reply in the reply queue (R147). `echo` is the source field "as received" of a BadRequest with secondary Source
(R28); the frame layout of R184 has no place for it (log 10). -/
structure Reply where
  tag : Byte
  completion : Completion
  payload : List Byte
  echo : Option Byte
deriving DecidableEq, Repr

/-- Kinds of protective operation (R111). -/
inductive ProtKind where
  | unload | park | stop
deriving DecidableEq, Repr

/-- The protective operation in a bay's slot (R111). `stopPhase` is the phase of a Stop (no: park, yes: stop); `fromLoaded`
is the first condition of R118, taken at the first placing of the chain. -/
structure ProtOp where
  kind : ProtKind
  level : Level
  started : Bool
  stopPhase : Bool
  fromLoaded : Bool
deriving DecidableEq, Repr

/-- Kinds of operation deadline (R11). -/
inductive OpKind where
  | spinUp | load | unload | park | stop
deriving DecidableEq, Repr

/-- An operation deadline; `group` marks a group deadline (R138). -/
structure OpDeadline where
  due : Count
  kind : OpKind
  group : Bool
deriving DecidableEq, Repr

/-- A status report: its three bytes, the first as yes or no (R186). With present no the other two are kept as received. -/
structure Report where
  present : Bool
  condition : Byte
  code : Byte
deriving DecidableEq, Repr

/-- The status cache: the last report and its capture time (R19). -/
structure Cache where
  report : Report
  time : Count
deriving DecidableEq, Repr

/-- Fault causes (R169). -/
inductive Cause where
  | bus | timeout | drive | sensor
deriving DecidableEq, Repr

/-- A bay's last fault (R170); the secondary is coded as in R184. -/
structure LastFault where
  cause : Cause
  secondary : Nat
  time : Count
deriving DecidableEq, Repr

/-- Sample rates in Hz (R77). -/
inductive Rate where
  | hz100 | hz200 | hz400 | hz800
deriving DecidableEq, Repr

/-- Kinds of exchange (R125). -/
inductive ExKind where
  | spin | stop | load | unload | quickPark | query | pass | rate
deriving DecidableEq, Repr

/-- The station or stations an exchange is addressed to (R125). -/
inductive Target where
  | bay (b : Bay)
  | allBays
  | node (i : SensorId)
deriving DecidableEq, Repr

/-- What an exchange was placed for (R126). -/
inductive Owner where
  | head | protective | survey | insertion | followUp | classifier
deriving DecidableEq, Repr

/-- An exchange record (R126). `before` is the bay's state before the start, or for SPIN and LOAD before the admission
(R9, R10); `bays` is the bay set of the all-bays QUICKPARK; `rate` the rate a RATE exchange carries. -/
structure Exchange where
  kind : ExKind
  target : Target
  owner : Owner
  payload : List Byte
  rate : Rate
  bays : List Bay
  before : BayState
deriving DecidableEq, Repr

/-- The current exchange (R128 to R131) and the marks of R135, R137 and R113. `answerBy` is present while an attempt awaits
its answer, `resendAt` while a resend is due. -/
structure Current where
  ex : Exchange
  resends : Nat
  answerBy : Option Count
  resendAt : Option Count
  disregarded : Bool
  cutShort : Bool
  replaced : Bool
deriving DecidableEq, Repr

/-- A Bay Record (R2), with the bay's waiting place (R136) and its marks in the survey (R24, R25). The class and zone fields
are the Bay Assignment table (R4, R151). The waiting place is a list, next to leave first: it holds one exchange, but where the
rules put a second one into it (log 46). -/
structure BayRecord where
  state : BayState
  cls : Fin 8
  zone : Zone
  reservation : Nat
  holder : Option Source
  queue : List Request
  slot : Option ProtOp
  sweepLevel : Level
  restoreIntent : Bool
  deadline : Option OpDeadline
  cache : Option Cache
  retry : Nat
  lastFault : Option LastFault
  waiting : List Exchange
  surveyed : Bool
  known : Bool
deriving DecidableEq, Repr

/-- The survey: whether it runs, and its settle deadline (R23). -/
structure Survey where
  running : Bool
  settle : Option Count
deriving DecidableEq, Repr

/-- A Profile Table entry: four currents in mA, five times in ms (R55). -/
structure Profile where
  peak : Nat
  idle : Nat
  active : Nat
  surge : Nat
  spinUpTime : Nat
  loadTime : Nat
  unloadTime : Nat
  parkTime : Nat
  stopTime : Nat
deriving DecidableEq, Repr

/-- The kinds an Admission Queue entry may have (R62). -/
inductive AdmKind where
  | spinUp | load
deriving DecidableEq, Repr

/-- An Admission Queue entry (R62). -/
structure AdmEntry where
  bay : Bay
  kind : AdmKind
deriving DecidableEq, Repr

/-- What the Admission Unit owns (R55, R58, R60, R62, R66, R72). -/
structure Admission where
  profiles : Vector Profile 8
  limit : Nat
  margin : Nat
  effLimit : Nat
  committed : Nat
  queue : List AdmEntry
  lastSpin : Option Count
  staggerDue : Option Count
  overBudget : Bool
deriving DecidableEq, Repr

/-- A sensor's five conditions (R76). -/
structure Conditions where
  rolling : Bool
  tilted : Bool
  jolt : Bool
  falling : Bool
  blind : Bool
deriving DecidableEq, Repr

/-- The last sample processed (R76). -/
structure Sample where
  counter : Half
  x : Int
  y : Int
  z : Int
deriving DecidableEq, Repr

/-- Outcomes of a fall (R88). -/
inductive FallResult where
  | dip | impact | lowGLong
deriving DecidableEq, Repr

/-- The outcome of the last fall that ended (R76). -/
structure LastFall where
  height : Nat
  result : FallResult
deriving DecidableEq, Repr

/-- A Sensor Record (R76); `enabled` is also the Sensor table's field (R77). `furtherRate`: a rate was written while a RATE
exchange for the node is on the bus, so a further one is owed (R98, R99). -/
structure SensorRecord where
  enabled : Bool
  rate : Rate
  requested : Option Rate
  furtherRate : Bool
  expected : Option Half
  conds : Conditions
  lowRun : Nat
  highRun : Nat
  tiltRun : Nat
  untiltRun : Nat
  fallStart : Option Half
  lastHigh : Option Count
  debounceDue : Option Count
  joltDue : Option Count
  window : List Nat
  vibSum : Nat
  blindDue : Option Count
  lastSample : Option Sample
  lastFall : Option LastFall
deriving DecidableEq, Repr

/-- The Motion Thresholds record (R79). -/
structure Thresholds where
  lowG : Nat
  nLow : Nat
  highG : Nat
  nHigh : Nat
  joltHold : Nat
  debounce : Nat
  fallMin : Nat
  fallMax : Nat
  vOn : Nat
  vOff : Nat
  tiltC : Nat
  nTilt : Nat
  blindTime : Nat
deriving DecidableEq, Repr

/-- The impact record, present while the impact latch is set (R89). -/
structure ImpactRecord where
  sensor : SensorId
  height : Nat
  time : Count
deriving DecidableEq, Repr

/-- Protective actions, weakest first (R107). -/
inductive Action where
  | none | unload | park | parkStop
deriving DecidableEq, Repr

/-- A Level Action Table entry (R107). -/
structure ActionEntry where
  action : Action
  loadPermit : Bool
  spinPermit : Bool
deriving DecidableEq, Repr

/-- A motion copy of a sensor (R101). -/
structure MotionCopy where
  enabled : Bool
  conds : Conditions
deriving DecidableEq, Repr

/-- The five zone levels (R104). -/
structure ZoneLevels where
  sensor : Vector Level 4
  all : Level
deriving DecidableEq, Repr

/-- What the Protection Unit owns besides its fields of the Bay Records (R101, R102, R104, R107). The Level Map is indexed
as R102 gives: Rolling, Tilted, Blind, Jolt, Falling, Impact. -/
structure Protection where
  map : Vector Level 6
  actions : Vector ActionEntry 8
  copies : Vector MotionCopy 4
  latchCopy : Bool
  levels : ZoneLevels
deriving DecidableEq, Repr

/-- The transaction on the bay bus (R129). A station frame and its answer are one event, so none stands between events. -/
inductive Transaction where
  | free | attempt | groupPark
deriving DecidableEq, Repr

/-- A frame the part put on the bay bus: destination, kind code, payload (R186). -/
structure BusFrame where
  destination : Byte
  kind : Byte
  payload : List Byte
deriving DecidableEq, Repr

/-- What the Bay Bus Controller owns besides the waiting places (R127 to R131). `sent` is the model's own: the frames the
part put on the bus in the last event, oldest first (log 26). -/
structure BusController where
  urgent : List Exchange
  normal : List Exchange
  current : Option Current
  transaction : Transaction
  sent : List BusFrame
deriving DecidableEq, Repr

/-- What a fault concerns (R169). -/
inductive Subject where
  | bay (b : Bay)
  | sensor (i : SensorId)
deriving DecidableEq, Repr

/-- The work a fault interrupted (R171). -/
inductive Work where
  | request (k : ReqKind)
  | protective
  | none
deriving DecidableEq, Repr

/-- The fields of a Locked First Fault Record (R173). -/
structure FirstFault where
  subject : Subject
  cause : Cause
  secondary : Nat
  work : Work
  time : Count
  later : Nat
deriving DecidableEq, Repr

/-- A notice with the fields of its kind (R178). -/
inductive Notice where
  | bay (b : Bay) (state : BayState) (reservation : Nat) (time : Count)
  | fault (subject : Subject) (cause : Cause) (secondary : Nat) (work : Work) (captured : Bool) (time : Count)
  | retry (b : Bay) (counter : Nat) (threshold : Nat) (time : Count)
  | level (z : Zone) (before after : Level) (time : Count)
  | impact (i : SensorId) (height : Nat) (time : Count)
  | lowGLong (i : SensorId) (height : Nat) (time : Count)
  | dip (i : SensorId) (height : Nat) (time : Count)
  | budget (exceeded : Bool) (committed : Nat) (effLimit : Nat) (time : Count)
  | survey (notEmpty : Nat) (time : Count)
deriving DecidableEq, Repr

/-- The Notice Queue, its dropped flag and the Notice Routing table (R179 to R181). -/
structure NoticeQueue where
  queue : List Notice
  dropped : Bool
  routing : Vector Bool 9
deriving DecidableEq, Repr

/-- The receiver of the Upstream Port: hunting, or inside a frame with the bytes taken after the start code (R145). -/
inductive Receiver where
  | hunting
  | inFrame (bytes : List Byte)
deriving DecidableEq, Repr

/-- A frame in transmission upstream (R148). -/
inductive TxFrame where
  | reply (r : Reply)
  | notice (n : Notice)
deriving DecidableEq, Repr

/-- What the Upstream Port owns (R145, R146, R148, R156). -/
structure UpstreamPort where
  rx : Receiver
  gap : Option Count
  drops : Nat
  replies : List Reply
  tx : Option TxFrame
  resetPending : Bool
deriving DecidableEq, Repr

/-- An access window (R158): the source set has bit n for source n; the permissions have bits Govern, Pass, Reserve,
Status (R187). -/
structure Window where
  enabled : Bool
  sources : BitVec 8
  base : Nat
  span : Nat
  perms : BitVec 8
deriving DecidableEq, Repr

/-- The eight stored fields of the Timing record (R152); the alert mask has bits level, fault, budget, impact (R187). -/
structure Timing where
  stagger : Nat
  waitLimit : Nat
  freshness : Nat
  retryLimit : Nat
  retryThreshold : Nat
  alertThreshold : Nat
  restoreCeiling : Nat
  alertMask : BitVec 4
deriving DecidableEq, Repr

/-- The part, and the commands that wait for it, first in first out. -/
structure State where
  now : Count
  pending : List Instr
  link : UpstreamPort
  groups : Vector (Option GroupRecord) 8
  windows : Vector Window 8
  sources : Vector Bool 8
  bays : Vector BayRecord 24
  survey : Survey
  adm : Admission
  sensors : Vector SensorRecord 4
  thresholds : Thresholds
  latch : Option ImpactRecord
  prot : Protection
  bus : BusController
  ffr : Option FirstFault
  notices : NoticeQueue
  timing : Timing
  alertLine : Bool
deriving DecidableEq, Repr

/-- Nothing stops the part: no rule names an outcome in which it does, so no reason exists (safe: nothing is refused). -/
inductive Fault where
deriving DecidableEq, Repr

/-- Why a command has no meaning. -/
inductive Refusal where
  /-- Raised by an arm of `exec` whose command is not modelled yet; no arm is left that raises it (safe). -/
  | notModelled (mnemonic : String)
deriving DecidableEq, Repr

/-- The defaults of a Profile Table entry (R55). -/
def Profile.default : Profile :=
  { peak := 2500, idle := 800, active := 1000, surge := 300, spinUpTime := 25000, loadTime := 3000, unloadTime := 2000,
    parkTime := 500, stopTime := 30000 }

/-- A Bay Record after power-on reset (R3). -/
def BayRecord.reset : BayRecord :=
  { state := .unknown, cls := 0, zone := .all, reservation := 2500, holder := none, queue := [], slot := none, sweepLevel := 0,
    restoreIntent := false, deadline := none, cache := none, retry := 0, lastFault := none, waiting := [],
    surveyed := false, known := false }

/-- All five conditions clear (R78). -/
def Conditions.clear : Conditions := { rolling := false, tilted := false, jolt := false, falling := false, blind := false }

/-- A Sensor Record after power-on reset at count 0 (R78). -/
def SensorRecord.reset : SensorRecord :=
  { enabled := true, rate := .hz400, requested := none, furtherRate := false, expected := none, conds := .clear, lowRun := 0,
    highRun := 0, tiltRun := 0, untiltRun := 0, fallStart := none, lastHigh := none, debounceDue := none, joltDue := none,
    window := List.replicate 16 0, vibSum := 0, blindDue := some 250, lastSample := none, lastFall := none }

/-- The defaults of the Motion Thresholds record (R79). -/
def Thresholds.default : Thresholds :=
  { lowG := 307, nLow := 6, highG := 3072, nHigh := 2, joltHold := 2000, debounce := 1000, fallMin := 100, fallMax := 1500,
    vOn := 40, vOff := 20, tiltC := 49152, nTilt := 200, blindTime := 50 }

/-- The defaults of the Level Action Table (R107). -/
def defaultActions : Vector ActionEntry 8 :=
  #v[⟨.none, true, true⟩, ⟨.none, true, true⟩, ⟨.none, false, true⟩, ⟨.none, false, true⟩, ⟨.unload, false, true⟩,
     ⟨.park, false, false⟩, ⟨.park, false, false⟩, ⟨.park, false, false⟩]

/-- The defaults of the Timing record (R152). -/
def Timing.default : Timing :=
  { stagger := 1500, waitLimit := 120000, freshness := 500, retryLimit := 3, retryThreshold := 16, alertThreshold := 5,
    restoreCeiling := 1, alertMask := 0xF }

/-- The default of a window: disabled and empty (R158). -/
def Window.default : Window := { enabled := false, sources := 0, base := 0, span := 0, perms := 0 }

/-- The part after power-on reset (R1, R3, R54, R75, R78, R124, R144, R157, R173, R180, R183). The survey runs, the part is
over-budget, and the entering BUDGET notice of R75 waits in the Notice Queue. -/
def State.reset : State :=
  { now := 0
    pending := []
    link := { rx := .hunting, gap := none, drops := 0, replies := [], tx := none, resetPending := false }
    groups := Vector.replicate 8 none
    windows := Vector.replicate 8 .default
    sources := Vector.replicate 8 true
    bays := Vector.replicate 24 .reset
    survey := { running := true, settle := some 200 }
    adm := { profiles := Vector.replicate 8 .default, limit := 0, margin := 10, effLimit := 0, committed := 60000, queue := [],
             lastSpin := none, staggerDue := none, overBudget := true }
    sensors := Vector.replicate 4 .reset
    thresholds := .default
    latch := none
    prot := { map := #v[2, 4, 4, 5, 7, 6], actions := defaultActions, copies := Vector.replicate 4 ⟨true, .clear⟩,
              latchCopy := false, levels := { sensor := Vector.replicate 4 0, all := 0 } }
    bus := { urgent := [], normal := [], current := none, transaction := .free, sent := [] }
    ffr := none
    notices := { queue := [.budget true 60000 0 0], dropped := false,
                 routing := #v[true, true, true, true, true, true, false, true, true] }
    timing := .default
    alertLine := true }

end Sys2Proof.Machine
end

