-- ==== Sys2Proof/Machine/Operands.lean ====
section
/-! DEFINITION. The code values and the operand forms of the two wires: little-endian fields (00_scope.md), the CRC-16 of
R145, target codes (00_scope.md, R26), request kind codes and result codes (R184), status reports and rate codes (R186),
bay bus addresses, and the fields of a written table entry (R187). -/

namespace Sys2Proof.Machine

/-- `v` as `n` little-endian bytes (00_scope.md, "Byte order"). -/
def leBytes : Nat → Nat → List Byte
  | 0, _ => []
  | n + 1, v => BitVec.ofNat 8 v :: leBytes n (v / 256)

/-- The number that little-endian bytes hold. -/
def leNat : List Byte → Nat
  | [] => 0
  | b :: bs => b.toNat + 256 * leNat bs

/-- The `n`-byte field at offset `at_` of an entry (R187). -/
def fieldAt (p : List Byte) (offset n : Nat) : Nat := leNat ((p.drop offset).take n)

/-- A yes/no byte (R184's chapter: 1 for yes, 0 for no). -/
def yesNo (b : Bool) : Byte := if b then 1 else 0

/-- A yes/no byte read leniently: 0 is no, any other value yes (chapter 11). -/
def lenient (x : Byte) : Bool := x ≠ 0

/-- One bit of the CRC-16 with polynomial 0x1021, most significant bit first (R145). -/
def crcBit (c : Half) : Half := if c.msb then (c <<< 1) ^^^ 0x1021 else c <<< 1

/-- One byte of the CRC-16 (R145). -/
def crcByte (c : Half) (x : Byte) : Half :=
  let c := c ^^^ (x.setWidth 16 <<< 8)
  crcBit (crcBit (crcBit (crcBit (crcBit (crcBit (crcBit (crcBit c)))))))

/-- The CRC-16 of R145: initial value 0xFFFF, no final inversion. -/
def crc16 (bytes : List Byte) : Half := bytes.foldl crcByte 0xFFFF

/-- The check of a bay bus frame that `initiator` sends to the part (R186). -/
def stationCheck (initiator kind : Byte) (payload : List Byte) : Half :=
  crc16 ([initiator, Config.partAddress, kind, BitVec.ofNat 8 payload.length] ++ payload)

/-- Targets of a request, from its target code (00_scope.md, "Upstream target codes"). -/
inductive ReqTarget where
  | bay (b : Bay)
  | row (r : Fin 6)
  | all
  | part
deriving DecidableEq, Repr

/-- The target a code names, if any (00_scope.md, "Upstream target codes"). -/
def targetOf (c : Byte) : Option ReqTarget :=
  if h : c.toNat < 24 then some (.bay ⟨c.toNat, h⟩)
  else if h : 0x40 ≤ c.toNat ∧ c.toNat < 0x46 then some (.row ⟨c.toNat - 0x40, by omega⟩)
  else if c = 0x4F then some .all
  else if c = 0x7F then some .part
  else none

/-- The source ID a source field names, if it lies in 0..7 (R28). -/
def sourceOf (c : Byte) : Option Source := if h : c.toNat < 8 then some ⟨c.toNat, h⟩ else none

/-- All bays in bay index order. -/
def allBays : List Bay := [0, 1, 2, 3, 4, 5, 6, 7, 8, 9, 10, 11, 12, 13, 14, 15, 16, 17, 18, 19, 20, 21, 22, 23]

/-- All sensors in index order. -/
def allSensors : List SensorId := [0, 1, 2, 3]

/-- The bay of a row and a slot: row × 4 + slot (00_scope.md). -/
def rowBay (r : Fin 6) (slot : Fin 4) : Bay := ⟨r.val * 4 + slot.val, by omega⟩

/-- The bays of a target, in bay index order (R50). -/
def targetBays : ReqTarget → List Bay
  | .bay b => [b]
  | .row r => [rowBay r 0, rowBay r 1, rowBay r 2, rowBay r 3]
  | .all => allBays
  | .part => []

/-- Management request kinds (R149). -/
inductive MgmtKind where
  | tableWrite | tableRead | recordRead | supplySet | faultRelease | counterClear | reservationsClear | motionResume
  | softReset
deriving DecidableEq, Repr

/-- The request kinds a kind code can name (R26). -/
inductive FrameKind where
  | queued (k : ReqKind)
  | reserve
  | release
  | management (m : MgmtKind)
deriving DecidableEq, Repr

/-- The request kind codes (R184). -/
def frameKindOf (c : Byte) : Option FrameKind :=
  match c.toNat with
  | 0x01 => some (.queued .spinUp)
  | 0x02 => some (.queued .spinDown)
  | 0x03 => some (.queued .load)
  | 0x04 => some (.queued .unload)
  | 0x05 => some (.queued .barrier)
  | 0x06 => some (.queued .status)
  | 0x07 => some (.queued .pass)
  | 0x08 => some .reserve
  | 0x09 => some .release
  | 0x20 => some (.management .tableWrite)
  | 0x21 => some (.management .tableRead)
  | 0x22 => some (.management .recordRead)
  | 0x23 => some (.management .supplySet)
  | 0x24 => some (.management .faultRelease)
  | 0x25 => some (.management .counterClear)
  | 0x26 => some (.management .reservationsClear)
  | 0x27 => some (.management .motionResume)
  | 0x28 => some (.management .softReset)
  | _ => none

/-- The kind code of a queued kind (R184). -/
def ReqKind.byte : ReqKind → Byte
  | .spinUp => 0x01 | .spinDown => 0x02 | .load => 0x03 | .unload => 0x04 | .barrier => 0x05 | .status => 0x06 | .pass => 0x07

/-- The governed kinds (R26). -/
def ReqKind.governed : ReqKind → Bool
  | .spinUp | .spinDown | .load | .unload | .barrier => true
  | .status | .pass => false

/-- Result codes (R184). -/
def Code.byte : Code → Byte
  | .done => 0x00 | .already => 0x01 | .preempted => 0x02 | .expired => 0x03 | .refusedState => 0x04 | .bayRefused => 0x05
  | .bayEmpty => 0x06 | .bayFault => 0x07 | .reserved => 0x08 | .denied => 0x09 | .queueFull => 0x0A | .notReady => 0x0B
  | .busy => 0x0C | .badRequest => 0x0D

/-- Done and Already, the success codes (R44). -/
def Code.success : Code → Bool
  | .done | .already => true
  | _ => false

/-- Secondaries of Expired (R184). -/
def expiredLevel : Nat := 1
def expiredBudget : Nat := 2
def expiredHeld : Nat := 3
def expiredBus : Nat := 4

/-- Secondaries of BadRequest (R184). -/
def badKind : Nat := 1
def badTarget : Nat := 2
def badSource : Nat := 3
def badLength : Nat := 4
def badTable : Nat := 5
def badIndex : Nat := 6
def badValue : Nat := 7

/-- Bay state codes (R184). -/
def BayState.code : BayState → Nat
  | .unknown => 0 | .empty => 1 | .off => 2 | .spinning => 3 | .idle => 4 | .loading => 5 | .loaded => 6 | .unloading => 7
  | .parking => 8 | .stopping => 9 | .faulted => 10 | .unreachable => 11

/-- Fault cause codes (R184). -/
def Cause.code : Cause → Nat
  | .bus => 1 | .timeout => 2 | .drive => 3 | .sensor => 4

/-- Secondaries of cause Bus (R184). -/
def busNoAnswer : Nat := 1
def busCheckExhausted : Nat := 2
def busBusyExhausted : Nat := 3
def busReplyCheckBad : Nat := 4

/-- Secondaries of cause Timeout, which are also the operation deadline kinds of the Bay Record (R184, R188). -/
def OpKind.code : OpKind → Nat
  | .spinUp => 1 | .load => 2 | .unload => 3 | .park => 4 | .stop => 5

/-- Secondaries of cause Sensor (R184). -/
def sensorBlind : Nat := 1
def sensorLowGLong : Nat := 2

/-- A request kind named by a record or notice: 0xFE Protective, 0x00 None (R184). -/
def Work.byte : Work → Byte
  | .request k => k.byte
  | .protective => 0xFE
  | .none => 0x00

/-- Zone codes (R184). -/
def Zone.code : Zone → Nat
  | .sensor i => i.val
  | .all => 4

/-- The zone a code names (R105, R184). -/
def zoneOf (c : Byte) : Option Zone :=
  if h : c.toNat < 4 then some (.sensor ⟨c.toNat, h⟩) else if c = 4 then some .all else none

/-- Rate codes (R186). -/
def Rate.code : Rate → Nat
  | .hz100 => 0 | .hz200 => 1 | .hz400 => 2 | .hz800 => 3

/-- The rate a code names (R77, R186). -/
def rateOf (c : Byte) : Option Rate :=
  match c.toNat with
  | 0 => some .hz100
  | 1 => some .hz200
  | 2 => some .hz400
  | 3 => some .hz800
  | _ => none

/-- A rate in Hz, fs of the fall arithmetic (R76). -/
def Rate.hertz : Rate → Nat
  | .hz100 => 100 | .hz200 => 200 | .hz400 => 400 | .hz800 => 800

/-- Action codes, also the order weakest to strongest (R107, R187). -/
def Action.code : Action → Nat
  | .none => 0 | .unload => 1 | .park => 2 | .parkStop => 3

/-- The action a code names (R187). -/
def actionOf (c : Byte) : Option Action :=
  match c.toNat with
  | 0 => some .none
  | 1 => some .unload
  | 2 => some .park
  | 3 => some .parkStop
  | _ => none

/-- Bay bus kind codes of the part's command frames (R186). -/
def ExKind.byte : ExKind → Byte
  | .spin => 0x10 | .stop => 0x11 | .load => 0x12 | .unload => 0x13 | .quickPark => 0x14 | .query => 0x15 | .pass => 0x16
  | .rate => 0x17

/-- The five state-changing exchange kinds (R6). -/
def ExKind.stateChanging : ExKind → Bool
  | .spin | .stop | .load | .unload | .quickPark => true
  | .query | .pass | .rate => false

/-- Bay bus address of a target (00_scope.md, R125). -/
def Target.address : Target → Byte
  | .bay b => BitVec.ofNat 8 (0x20 + b.val)
  | .allBays => Config.broadcastAddress
  | .node i => BitVec.ofNat 8 (0x08 + i.val)

/-- The bay whose controller has an address (00_scope.md). -/
def bayAt (a : Byte) : Option Bay :=
  if h : 0x20 ≤ a.toNat ∧ a.toNat < 0x38 then some ⟨a.toNat - 0x20, by omega⟩ else none

/-- The sensor whose node has an address (00_scope.md). -/
def sensorAt (a : Byte) : Option SensorId :=
  if h : 0x08 ≤ a.toNat ∧ a.toNat < 0x0C then some ⟨a.toNat - 0x08, by omega⟩ else none

/-- The eight conditions of a status report (R12's chapter, R186). -/
inductive Condition where
  | stopped | accelerating | atSpeed | headsLoading | headsLoaded | headsUnloading | headsParking | decelerating
deriving DecidableEq, Repr

/-- The condition a code names (R186). -/
def conditionOf (c : Byte) : Option Condition :=
  match c.toNat with
  | 0 => some .stopped
  | 1 => some .accelerating
  | 2 => some .atSpeed
  | 3 => some .headsLoading
  | 4 => some .headsLoaded
  | 5 => some .headsUnloading
  | 6 => some .headsParking
  | 7 => some .decelerating
  | _ => none

/-- The report three payload bytes hold, if they are a well-formed one (R186): a present byte of 0 or 1, and with present 1 a
condition of 0..7. -/
def reportOf : List Byte → Option Report
  | [p, c, k] =>
    if p = 0 then some { present := false, condition := c, code := k }
    else if p = 1 ∧ (conditionOf c).isSome then some { present := true, condition := c, code := k }
    else none
  | _ => none

/-- A report as its three bytes (R186). -/
def Report.bytes (r : Report) : List Byte := [yesNo r.present, r.condition, r.code]

/-- A sample component, a signed 2-byte field (R186). -/
def signed16 (lo hi : Byte) : Int := (hi ++ lo).toInt

/-- The samples (x, y, z) of a SAMPLES payload after its first counter (R186). -/
def samplesOf : List Byte → Option (List (Int × Int × Int))
  | [] => some []
  | x0 :: x1 :: y0 :: y1 :: z0 :: z1 :: rest =>
    (samplesOf rest).map ((signed16 x0 x1, signed16 y0 y1, signed16 z0 z1) :: ·)
  | _ => none

/-- The first counter and the 1..8 whole samples of a SAMPLES payload, if it is well formed (R186). -/
def sampleFrameOf : List Byte → Option (Half × List (Int × Int × Int))
  | c0 :: c1 :: rest =>
    match samplesOf rest with
    | some ss => if 1 ≤ ss.length ∧ ss.length ≤ 8 then some (c1 ++ c0, ss) else none
    | none => none
  | _ => none

end Sys2Proof.Machine
end

