-- ==== Sys2Proof/Machine/Ops.lean ====
section
/-! DEFINITION. The shared operations every block uses: deadlines on the millisecond counter (R1), Bay Records and their
reservation currents (R7, R8, R60), the Notice Queue (R179), replies and group records (R31, R51, R52), the First Fault
Record (R174). -/

namespace Sys2Proof.Machine

/-! ### Time -/

/-- The count `ms` milliseconds from now (R1). -/
def State.after (s : State) (ms : Nat) : Count := s.now + BitVec.ofNat 32 ms

/-- A deadline has been reached, compared across the wrap (00_scope.md, "Time and deadlines"). -/
def reached (now due : Count) : Bool := (now - due).toNat < 2 ^ 31

/-- An optional deadline is present and has been reached: its expiry can take place (R1). -/
def State.expires (s : State) (due : Option Count) : Bool :=
  match due with
  | some d => reached s.now d
  | none => false

/-- The age of an item captured at `t`: the count minus `t`, modulo 2^32 (00_scope.md). -/
def State.age (s : State) (t : Count) : Nat := (s.now - t).toNat

/-- A counter incremented with saturation. -/
def satSucc (n top : Nat) : Nat := if n < top then n + 1 else n

/-! ### Bay Records -/

/-- The Bay Record of a bay (R2). -/
def State.bay (s : State) (b : Bay) : BayRecord := s.bays[b]

/-- A change applied at one Bay Record. -/
def State.updBay (s : State) (b : Bay) (f : BayRecord → BayRecord) : State := { s with bays := s.bays.set b (f (s.bay b)) }

/-- A change applied at one Sensor Record. -/
def State.updSensor (s : State) (i : SensorId) (f : SensorRecord → SensorRecord) : State :=
  { s with sensors := s.sensors.set i (f s.sensors[i]) }

/-- A change applied at what the Admission Unit owns. -/
def State.updAdm (s : State) (f : Admission → Admission) : State := { s with adm := f s.adm }

/-- A change applied at what the Bay Bus Controller owns. -/
def State.updBus (s : State) (f : BusController → BusController) : State := { s with bus := f s.bus }

/-- A change applied at what the Upstream Port owns. -/
def State.updLink (s : State) (f : UpstreamPort → UpstreamPort) : State := { s with link := f s.link }

/-- A change applied at the Notice Queue. -/
def State.updNotices (s : State) (f : NoticeQueue → NoticeQueue) : State := { s with notices := f s.notices }

/-- The Profile Table entry of a bay's class (R55). -/
def State.profileOf (s : State) (b : Bay) : Profile := s.adm.profiles[(s.bay b).cls]

/-- The Loading reservation of a class (R55). -/
def Profile.loadingReservation (p : Profile) : Nat := max (p.idle + p.surge) p.active

/-- The reservation current of a state under a profile (R7). -/
def Profile.reservation (p : Profile) : BayState → Nat
  | .empty | .off => 0
  | .idle | .stopping => p.idle
  | .loading => p.loadingReservation
  | .loaded | .unloading | .parking => p.active
  | .unknown | .spinning | .faulted | .unreachable => p.peak

/-- The profile's time for an operation (R11). -/
def Profile.time (p : Profile) : OpKind → Nat
  | .spinUp => p.spinUpTime
  | .load => p.loadTime
  | .unload => p.unloadTime
  | .park => p.parkTime
  | .stop => p.stopTime

/-- Sets a bay's reservation current, and the committed current with it in the same event (R7, R60). -/
def setReservation (b : Bay) (res : Nat) (s : State) : State :=
  let old := (s.bay b).reservation
  (s.updAdm fun a => { a with committed := a.committed + res - old }).updBay b fun r => { r with reservation := res }

/-- Sets a bay's state and with it the reservation current of R7. -/
def putState (b : Bay) (st : BayState) (s : State) : State :=
  (setReservation b ((s.profileOf b).reservation st) s).updBay b fun r => { r with state := st }

/-! ### The Notice Queue -/

/-- The routing index of a notice's kind (R178). -/
def Notice.kind : Notice → Fin 9
  | .bay .. => 0
  | .fault .. => 1
  | .retry .. => 2
  | .level .. => 3
  | .impact .. => 4
  | .lowGLong .. => 5
  | .dip .. => 6
  | .budget .. => 7
  | .survey .. => 8

/-- Two notices have the same kind and subject (R178). -/
def Notice.sameSubject : Notice → Notice → Bool
  | .bay b .., .bay b' .. => b = b'
  | .fault x .., .fault x' .. => x = x'
  | .retry b .., .retry b' .. => b = b'
  | .level z .., .level z' .. => z = z'
  | .impact .., .impact .. => true
  | .lowGLong i .., .lowGLong i' .. => i = i'
  | .dip i .., .dip i' .. => i = i'
  | .budget .., .budget .. => true
  | .survey .., .survey .. => true
  | _, _ => false

/-- A notice handed to the Notice Queue: not routed, coalesced, appended or dropped (R179). -/
def NoticeQueue.hand (q : NoticeQueue) (n : Notice) : NoticeQueue :=
  if q.routing[n.kind] = false then q
  else if q.queue.any (n.sameSubject ·) then
    { q with queue := q.queue.map fun m => if n.sameSubject m then n else m }
  else if q.queue.length < Config.noticePlaces then { q with queue := q.queue ++ [n] }
  else { q with dropped := true }

/-- Hands a notice to the Notice Queue (R179). -/
def postNotice (n : Notice) (s : State) : State := s.updNotices (·.hand n)

/-- The BAY notice of a bay as it stands (R8). -/
def postBay (b : Bay) (s : State) : State := postNotice (.bay b (s.bay b).state (s.bay b).reservation s.now) s

/-- Changes a bay's state: reservation current, committed current and, when the state is another one, the BAY notice (R7,
R8). A change to the same state is no change. -/
def changeState (b : Bay) (st : BayState) (s : State) : State :=
  if (s.bay b).state = st then s else postBay b (putState b st s)

/-! ### Replies and group records -/

/-- A reply placed at the tail of the reply queue (R147). -/
def placeReply (r : Reply) (s : State) : State := s.updLink fun l => { l with replies := l.replies ++ [r] }

/-- The reply to a request that stands alone. -/
def replyTo (tag : Byte) (c : Completion) (payload : List Byte) : Reply :=
  { tag := tag, completion := c, payload := payload, echo := none }

/-- The members of a group record that are neither Done nor Already (R52). -/
def failedMembers (ms : List (Bay × Completion)) : List (Bay × Completion) := ms.filter fun m => !m.2.code.success

/-- The reply of a group request (R52, R168): result of the lowest-indexed member that failed, the number that failed, and one
entry per bay (R185). -/
def groupReply (tag : Byte) (ms : List (Bay × Completion)) : Reply :=
  { tag := tag
    completion :=
      { code := match failedMembers ms with | [] => .done | m :: _ => m.2.code
        secondary := (failedMembers ms).length }
    payload := ms.flatMap fun m => [BitVec.ofNat 8 m.1.val, m.2.code.byte, BitVec.ofNat 8 m.2.secondary]
    echo := none }

/-- The results of a group record whose members all have one. -/
def GroupRecord.results (g : GroupRecord) : List (Bay × Completion) :=
  g.members.filterMap fun m => m.result.map (m.bay, ·)

/-- A member's completion recorded in its group record; at an outstanding count of 0 the reply is placed and the record freed
(R51, R52). -/
def recordMember (g : Fin 8) (b : Bay) (c : Completion) (s : State) : State :=
  match s.groups[g] with
  | none => s
  | some rec =>
    let rec' : GroupRecord :=
      { rec with
        members := rec.members.map fun m => if m.bay = b then { m with result := some c } else m
        outstanding := rec.outstanding - 1 }
    if rec'.outstanding = 0 then placeReply (groupReply rec'.tag rec'.results) { s with groups := s.groups.set g none }
    else { s with groups := s.groups.set g (some rec') }

/-- What a completed queue entry produces: a reply, a member result, or nothing (R31). -/
def deliver (b : Bay) (r : Request) (c : Completion) (payload : List Byte) (s : State) : State :=
  match r.origin with
  | .part => s
  | .upstream _ tag none => placeReply (replyTo tag c payload) s
  | .upstream _ _ (some g) => recordMember g b c s

/-! ### The First Fault Record -/

/-- Fault Capture takes a fault: captured into an Empty record, counted in a Locked one (R174). -/
def captureFault (subject : Subject) (cause : Cause) (secondary : Nat) (work : Work) (s : State) : State :=
  { s with
    ffr := match s.ffr with
      | none => some { subject := subject, cause := cause, secondary := secondary, work := work, time := s.now, later := 0 }
      | some f => some { f with later := satSucc f.later 255 } }

/-! ### Heads -/

/-- A change applied at the head of a bay queue. -/
def updHead (b : Bay) (f : Request → Request) (s : State) : State :=
  s.updBay b fun r => { r with queue := match r.queue with | [] => [] | h :: t => f h :: t }

/-- Sets the phase of a bay's head (R29). -/
def setPhase (b : Bay) (p : Phase) (s : State) : State := updHead b (fun r => { r with phase := p }) s

/-- The wait deadline of a request that becomes head, or that returns to Checking afresh (R32). -/
def State.waitDeadline (s : State) : Option Count :=
  if s.timing.waitLimit = 0 then none else some (s.after s.timing.waitLimit)

/-- Sets a bay's protective operation slot (R111). -/
def setSlot (b : Bay) (op : Option ProtOp) (s : State) : State := s.updBay b fun r => { r with slot := op }

/-- Sets a bay's operation deadline (R11). -/
def setDeadline (b : Bay) (d : Option OpDeadline) (s : State) : State := s.updBay b fun r => { r with deadline := d }

end Sys2Proof.Machine
end

