-- ==== Sys2Proof/Machine/Flags.lean ====
section
/-! DEFINITION. The part's flags and its one output line: the over-budget condition (R72), the four alert sources, the alert
mask and the alert line (R182, R183), and the flag bytes of the records (R188). -/

namespace Sys2Proof.Machine

/-- The effective limit: floor(Limit × (100 − Margin) / 100) (R58). -/
def effectiveLimit (limit margin : Nat) : Nat := limit * (100 - margin) / 100

/-- The Admission Unit evaluates the over-budget condition; a change sets the flag and queues a BUDGET notice (R72). -/
def evaluateBudget (s : State) : State :=
  let exceeded : Bool := s.adm.committed > s.adm.effLimit
  if exceeded = s.adm.overBudget then s
  else postNotice (.budget exceeded s.adm.committed s.adm.effLimit s.now) (s.updAdm fun a => { a with overBudget := exceeded })

/-- The greater of two levels. -/
def maxLevel (a b : Level) : Level := if a.val < b.val then b else a

/-- The smaller of two levels. -/
def minLevel (a b : Level) : Level := if b.val < a.val then b else a

/-- The Case Alert Level: the greatest of the five zone levels (R104). -/
def ZoneLevels.case (z : ZoneLevels) : Level :=
  maxLevel (maxLevel (maxLevel z.sensor[0] z.sensor[1]) (maxLevel z.sensor[2] z.sensor[3])) z.all

/-- The Case Alert Level (R104). -/
def State.caseLevel (s : State) : Level := s.prot.levels.case

/-- The level source is active: the Case Alert Level is at or above the alert threshold (R182, R183). -/
def State.sourceLevel (s : State) : Bool := s.timing.alertThreshold ≤ s.caseLevel.val

/-- The fault source is active: the First Fault Record is Locked (R173, R182). -/
def State.sourceFault (s : State) : Bool := s.ffr.isSome

/-- The budget source is active: the part is over-budget (R72, R182). -/
def State.sourceBudget (s : State) : Bool := s.adm.overBudget

/-- The impact source is active: the impact latch is set (R89, R182). -/
def State.sourceImpact (s : State) : Bool := s.latch.isSome

/-- At least one source holds: it is active and its mask entry is yes (R182). -/
def State.alertHolds (s : State) : Bool :=
  (s.sourceLevel && s.timing.alertMask.getLsbD 0) || (s.sourceFault && s.timing.alertMask.getLsbD 1)
    || (s.sourceBudget && s.timing.alertMask.getLsbD 2) || (s.sourceImpact && s.timing.alertMask.getLsbD 3)

/-- The alert line follows the holding sources at the end of an event (R182). -/
def driveAlertLine (s : State) : State := { s with alertLine := s.alertHolds }

/-- A flags byte from its bits, bit 0 first. -/
def flagByte (bits : List Bool) : Byte := BitVec.ofNat 8 (bits.foldr (fun b n => (if b then 1 else 0) + 2 * n) 0)

/-- The condition bits of a Sensor Record (R188). -/
def Conditions.byte (c : Conditions) : Byte := flagByte [c.rolling, c.tilted, c.jolt, c.falling, c.blind]

/-- The sources-active byte of the Case Status record (R188). -/
def State.sourcesByte (s : State) : Byte := flagByte [s.sourceLevel, s.sourceFault, s.sourceBudget, s.sourceImpact]

end Sys2Proof.Machine
end

