-- ==== Sys2Proof/Machine/Levels.lean ====
section
/-! DEFINITION. Alert levels and what they allow: the level computation from the motion copies (R103, R104), a bay's effective
level (R104, R105), and the Level Action Table normalized at use (R108). -/

namespace Sys2Proof.Machine

/-- The Level Map entries (R102). -/
def Protection.rolling (p : Protection) : Level := p.map[0]
def Protection.tilted (p : Protection) : Level := p.map[1]
def Protection.blind (p : Protection) : Level := p.map[2]
def Protection.jolt (p : Protection) : Level := p.map[3]
def Protection.falling (p : Protection) : Level := p.map[4]
def Protection.impact (p : Protection) : Level := p.map[5]

/-- A term of a level: an entry where its condition holds, otherwise 0 (R103). -/
def levelTerm (holds : Bool) (entry : Level) : Level := if holds then entry else 0

/-- The sensor level: the greatest entry among Rolling, Tilted, Jolt and Blind asserted; 0 for a disabled sensor (R103). -/
def Protection.sensorLevel (p : Protection) (i : SensorId) : Level :=
  let c := p.copies[i]
  if c.enabled then
    maxLevel (maxLevel (levelTerm c.conds.rolling p.rolling) (levelTerm c.conds.tilted p.tilted))
      (maxLevel (levelTerm c.conds.jolt p.jolt) (levelTerm c.conds.blind p.blind))
  else 0

/-- Falling is asserted in the copy of some enabled sensor (R103). -/
def Protection.someFalling (p : Protection) : Bool := allSensors.any fun i => p.copies[i].enabled && p.copies[i].conds.falling

/-- The case-wide level (R103). -/
def Protection.caseWide (p : Protection) : Level :=
  maxLevel (levelTerm p.someFalling p.falling) (levelTerm p.latchCopy p.impact)

/-- The five zone levels from the motion copies, the latch copy and the Level Map (R104). A disabled sensor's level is 0, so
zone All takes the greatest over all four. -/
def Protection.computeLevels (p : Protection) : ZoneLevels :=
  { sensor := #v[maxLevel p.caseWide (p.sensorLevel 0), maxLevel p.caseWide (p.sensorLevel 1),
                 maxLevel p.caseWide (p.sensorLevel 2), maxLevel p.caseWide (p.sensorLevel 3)]
    all := maxLevel p.caseWide
      (maxLevel (maxLevel (p.sensorLevel 0) (p.sensorLevel 1)) (maxLevel (p.sensorLevel 2) (p.sensorLevel 3))) }

/-- The level of a zone (R104). -/
def ZoneLevels.of (z : ZoneLevels) : Zone → Level
  | .sensor i => z.sensor[i]
  | .all => z.all

/-- A bay's effective level: the level of its zone (R104, R105). -/
def State.level (s : State) (b : Bay) : Level := s.prot.levels.of (s.bay b).zone

/-- The stronger of two actions (R107). -/
def Action.stronger (a b : Action) : Action := if a.code < b.code then b else a

/-- The entries 0..L of the Level Action Table (R108). -/
def Protection.entriesTo (p : Protection) (l : Level) : List ActionEntry := p.actions.toList.take (l.val + 1)

/-- The effective action at a level: the strongest among entries 0..L (R108). -/
def Protection.action (p : Protection) (l : Level) : Action :=
  (p.entriesTo l).foldl (fun a e => a.stronger e.action) .none

/-- Whether an entry permits a kind: LoadPermit for LOAD, SpinPermit for SPIN-UP (R107, R108). -/
def ActionEntry.permits (e : ActionEntry) : AdmKind → Bool
  | .spinUp => e.spinPermit
  | .load => e.loadPermit

/-- A kind is permitted at a level when every entry 0..L permits it (R108). -/
def Protection.permits (p : Protection) (l : Level) (k : AdmKind) : Bool := (p.entriesTo l).all (·.permits k)

/-- The permission of a kind at a bay's effective level (R35). -/
def State.permits (s : State) (b : Bay) (k : AdmKind) : Bool := s.prot.permits (s.level b) k

end Sys2Proof.Machine
end

