-- ==== Sys2Proof/Machine/Exchanges.lean ====
section
/-! DEFINITION. Exchanges that have not started: which bay they stand for (R125, R126), the operation in flight (R6), the two
queues and the waiting places (R127, R136), placing into them and taking out of them. -/

namespace Sys2Proof.Machine

/-- A bay's transitional states (R5). -/
def BayState.transitional : BayState → Bool
  | .spinning | .loading | .unloading | .parking | .stopping => true
  | _ => false

/-- The states in which the part has no confirmed belief and no operation is in flight, with Empty (R6). -/
def BayState.neverInFlight : BayState → Bool
  | .unknown | .empty | .faulted | .unreachable => true
  | _ => false

/-- An exchange stands for a bay: it is addressed to it, or it is an all-bays QUICKPARK with the bay in its set (R127). -/
def Exchange.serves (x : Exchange) (b : Bay) : Bool :=
  match x.target with
  | .bay c => c = b
  | .allBays => b ∈ x.bays
  | .node _ => false

/-- An individual exchange for a bay. -/
def Exchange.individual (x : Exchange) (b : Bay) : Bool := x.target = .bay b

/-- Some queued exchange stands for the bay. -/
def State.queuedFor (s : State) (b : Bay) : Bool := s.bus.urgent.any (·.serves b) || s.bus.normal.any (·.serves b)

/-- The current exchange is for the bay. -/
def State.currentFor (s : State) (b : Bay) : Bool :=
  match s.bus.current with
  | some c => c.ex.serves b
  | none => false

/-- A state-changing exchange for the bay stands in an exchange queue or is on the bus (R6). -/
def State.stateChangingFor (s : State) (b : Bay) : Bool :=
  let p := fun x : Exchange => x.serves b && x.kind.stateChanging
  s.bus.urgent.any p || s.bus.normal.any p || (match s.bus.current with | some c => p c.ex | none => false)

/-- An operation is in flight for the bay (R6). -/
def State.inFlight (s : State) (b : Bay) : Bool :=
  let st := (s.bay b).state
  st.transitional || (!st.neverInFlight && s.stateChangingFor b)

/-- An exchange for one bay, with the bay's state kept as the state before it (R10, R126). -/
def State.exchangeFor (s : State) (b : Bay) (kind : ExKind) (owner : Owner) (payload : List Byte) : Exchange :=
  { kind := kind, target := .bay b, owner := owner, payload := payload, rate := .hz100, bays := [], before := (s.bay b).state }

/-- Exchanges of the protective operations and the park follow-ups go to the Urgent queue, all others to Normal (R126). -/
def Owner.urgent : Owner → Bool
  | .protective | .followUp => true
  | _ => false

/-- An exchange at the tail of its own queue (R127). -/
def enqueue (x : Exchange) (s : State) : State :=
  s.updBus fun u =>
    if x.owner.urgent then { u with urgent := u.urgent ++ [x] } else { u with normal := u.normal ++ [x] }

/-- A change applied at a bay's waiting place (R136). -/
def updWaiting (b : Bay) (f : List Exchange → List Exchange) (s : State) : State :=
  s.updBay b fun r => { r with waiting := f r.waiting }

/-- Places an exchange for a bay: in its queue, or in the bay's waiting place while another stands for the bay (R127, R136), behind
what waits there already (log 46). -/
def placeFor (b : Bay) (x : Exchange) (s : State) : State :=
  if s.queuedFor b || s.currentFor b then updWaiting b (· ++ [x]) s else enqueue x s

/-- The exchange in a bay's waiting place joins the tail of its own queue once nothing stands before it (R136). -/
def releaseWaiting (b : Bay) (s : State) : State :=
  match (s.bay b).waiting with
  | [] => s
  | x :: rest => if s.queuedFor b || s.currentFor b then s else enqueue x (updWaiting b (fun _ => rest) s)

/-- Drops the individual exchanges of a bay that satisfy `p` from the queues and from the waiting place; what then waits
alone moves up (R127, R136). -/
def takeOut (b : Bay) (p : Exchange → Bool) (s : State) : State :=
  let gone := fun x : Exchange => x.individual b && p x
  releaseWaiting b
    ((s.updBus fun u => { u with urgent := u.urgent.filter (!gone ·), normal := u.normal.filter (!gone ·) }).updBay b
      fun r => { r with waiting := r.waiting.filter (!gone ·) })

/-- A bay leaves the bay set of a queued all-bays QUICKPARK; a frame whose set becomes empty is taken out (R138). -/
def leaveBaySet (b : Bay) (s : State) : State :=
  releaseWaiting b (s.updBus fun u =>
    { u with
      urgent := (u.urgent.map fun x => if x.target = .allBays then { x with bays := x.bays.filter (· ≠ b) } else x).filter
        fun x => !(x.target = .allBays && x.bays.isEmpty) })

/-- A change applied at the current exchange. -/
def updCurrent (f : Current → Current) (s : State) : State := s.updBus fun u => { u with current := u.current.map f }

/-- A queued or waiting exchange of a bay that satisfies `p`, if there is one. -/
def State.standing (s : State) (b : Bay) (p : Exchange → Bool) : Option Exchange :=
  let q := fun x : Exchange => x.individual b && p x
  match (s.bay b).waiting.find? q with
  | some x => some x
  | none => match s.bus.urgent.find? q with
    | some x => some x
    | none => s.bus.normal.find? q

/-- The head's own exchange of a bay, queued or waiting (R37). -/
def State.headExchange (s : State) (b : Bay) : Option Exchange := s.standing b (·.owner = .head)

/-- The bay's entry leaves the Admission Queue (R64). -/
def leaveAdmission (b : Bay) (s : State) : State := s.updAdm fun a => { a with queue := a.queue.filter (·.bay ≠ b) }

/-- A survey QUERY's bay is counted done (R24). -/
def countBay (b : Bay) (s : State) : State := s.updBay b fun r => { r with surveyed := true }

/-- The current exchange ends: the bus is free of it, and what waited behind it moves up (R128, R136). Where its outcome is handed
over, this comes first, so that the exchange that moves up counts for R6 (log 42). -/
def endCurrent (s : State) : State :=
  match s.bus.current with
  | none => s
  | some c =>
    let s := s.updBus fun u =>
      { u with current := none, transaction := if u.transaction = .attempt then .free else u.transaction }
    match c.ex.target with
    | .bay b => releaseWaiting b s
    | _ => s

/-- The current exchange for the bay, if it satisfies `p`, is disregarded; in a resend gap it ends at once (R135). -/
def disregard (b : Bay) (p : Exchange → Bool) (s : State) : State :=
  match s.bus.current with
  | none => s
  | some c =>
    if c.ex.individual b && p c.ex && !c.disregarded then
      let s := if c.ex.owner = .survey then countBay b s else s
      if c.resendAt.isSome then endCurrent s else updCurrent (fun c => { c with disregarded := true }) s
    else s

/-- An admission is undone in booking: the bay returns to its state before admission (R9, R70). A bay that so enters Unreachable has
no exchange on the bus heeded any more (R17; log 47). -/
def undoAdmission (b : Bay) (x : Exchange) (s : State) : State :=
  if x.kind = .spin ∨ x.kind = .load then
    let s := changeState b x.before s
    if x.before = .unreachable then disregard b (fun _ => true) s else s
  else s

/-- The head's unstarted exchange leaves its queue, and an admitted SPIN or LOAD is undone (R38, R42, R70). -/
def withdrawHead (b : Bay) (s : State) : State :=
  match s.headExchange b with
  | none => s
  | some x => undoAdmission b x (takeOut b (·.owner = .head) s)

end Sys2Proof.Machine
end

