-- ==== Sys2Proof/Machine/Heads.lean ====
section
/-! DEFINITION. Bay queues: becoming head (R32), the head check and its table (R33, R34), the permission check (R35), the
checks at state and level changes (R33, R36, R117), completion (R31), and the restore (R119). -/

namespace Sys2Proof.Machine

/-- What the head check decides (R34). -/
inductive HeadOutcome where
  | permit (k : AdmKind)
  | issue (k : ExKind)
  | complete (c : Completion)
  | hold
deriving DecidableEq, Repr

/-- A completion with secondary 0. -/
def Completion.plain (c : Code) : Completion := { code := c, secondary := 0 }

/-- Refused-State, with the bay's state at the check (R44). -/
def refusedState (st : BayState) : HeadOutcome := .complete { code := .refusedState, secondary := st.code }

/-- Already (R34). -/
def already : HeadOutcome := .complete (.plain .already)

/-- The head check of a governed head (R34); BARRIER completes (R43), STATUS and PASS are issued (R46, R47). The columns
Unknown and Empty, which no head meets, hold (log 19). -/
def headCheck : ReqKind → BayState → HeadOutcome
  | .barrier, _ => .complete (.plain .done)
  | .status, _ => .issue .query
  | .pass, _ => .issue .pass
  | _, .unknown => .hold
  | _, .empty => .hold
  | .spinUp, .off => .permit .spinUp
  | .spinUp, .unreachable => .permit .spinUp
  | .spinUp, .stopping => refusedState .stopping
  | .spinUp, .faulted => refusedState .faulted
  | .spinUp, _ => already
  | .load, .idle => .permit .load
  | .load, .spinning => .hold
  | .load, .unloading => .hold
  | .load, .parking => .hold
  | .load, .loading => already
  | .load, .loaded => already
  | .load, st => refusedState st
  | .unload, .loading => .issue .unload
  | .unload, .loaded => .issue .unload
  | .unload, .unreachable => .issue .unload
  | .unload, .faulted => refusedState .faulted
  | .unload, _ => already
  | .spinDown, .off => already
  | .spinDown, .stopping => already
  | .spinDown, .unloading => .hold
  | .spinDown, .parking => .hold
  | .spinDown, _ => .issue .stop

/-- The head of a bay queue. -/
def State.head (s : State) (b : Bay) : Option Request := (s.bay b).queue.head?

/-- The first entry becomes head: phase Checking and a wait deadline (R32). -/
def becomeHead (b : Bay) (s : State) : State := updHead b (fun r => { r with phase := .checking, wait := s.waitDeadline }) s

/-- An Issued head returns to Checking with a fresh wait deadline (R10, R41). -/
def returnToChecking (b : Bay) (s : State) : State := becomeHead b s

/-- The restore, a part-originated LOAD (R119). -/
def restoreRequest : Request := { kind := .load, origin := .part, payload := [], phase := .queued, wait := none }

/-- What the restore check asks (R119). It asks nothing of the survey: a restore that falls due while the survey runs is placed and may
be admitted then, the model's choice against what R25 infers (log 57). -/
def State.restoreDue (s : State) (b : Bay) : Bool :=
  let r := s.bay b
  r.restoreIntent && (s.level b).val ≤ s.timing.restoreCeiling && s.permits b .load && r.queue.isEmpty && r.slot.isNone

/-- The restore check: when due, the intent is spent and a LOAD of the part becomes head (R119). -/
def restoreCheck (b : Bay) (s : State) : State :=
  if s.restoreDue b then becomeHead b (s.updBay b fun r => { r with restoreIntent := false, queue := [restoreRequest] }) else s

/-- The head completes: it leaves, the next entry becomes head, the result is delivered, and at an empty queue the restore
check is made (R31, R119). A head that ends without its answer has no payload, STATUS and PASS too (log 52). -/
def popHead (b : Bay) (c : Completion) (payload : List Byte) (s : State) : State :=
  match (s.bay b).queue with
  | [] => s
  | r :: [] => restoreCheck b (deliver b r c payload (s.updBay b fun e => { e with queue := [] }))
  | r :: next :: rest => deliver b r c payload (becomeHead b (s.updBay b fun e => { e with queue := next :: rest }))

/-- The permission check: Admitting with an Admission Queue entry, or Deferred (R35, R63). -/
def permissionCheck (b : Bay) (k : AdmKind) (s : State) : State :=
  if s.permits b k then
    setPhase b .admitting (s.updAdm fun a => { a with queue := a.queue ++ [{ bay := b, kind := k }] })
  else setPhase b .deferred s

/-- The head's exchange is placed and its phase becomes Issued (R37, R46, R47). -/
def issueHead (b : Bay) (k : ExKind) (payload : List Byte) (s : State) : State :=
  setPhase b .issued (placeFor b (s.exchangeFor b k .head payload) s)

/-- A head in Checking that is not held is checked, and each head that a completion exposes after it, for at most `fuel`
heads (R32, R33, R34). -/
def checkHeads : Nat → Bay → State → State
  | 0, _, s => s
  | fuel + 1, b, s =>
    match s.head b with
    | none => s
    | some r =>
      if r.phase ≠ .checking ∨ (s.bay b).slot.isSome then s
      else match headCheck r.kind (s.bay b).state with
        | .hold => s
        | .permit k => permissionCheck b k s
        | .issue k => issueHead b k r.payload s
        | .complete c => checkHeads fuel b (popHead b c [] s)

/-- Checks a bay's head. A bay queue holds at most 4 requests and a restore follows an empty one, so 6 suffices. -/
def checkHead (b : Bay) (s : State) : State := checkHeads 6 b s

/-- Completes the head and checks what follows it (R31, R33). -/
def completeHead (b : Bay) (c : Completion) (payload : List Byte) (s : State) : State := checkHead b (popHead b c payload s)

/-- The outcome of the head check applied to a head that was Deferred or Admitting (R35, R36, R42, R117). -/
def applyOutcome (b : Bay) (r : Request) (o : HeadOutcome) (s : State) : State :=
  match o with
  | .hold => setPhase b .checking s
  | .permit k => if (s.bay b).slot.isSome then setPhase b .checking s else permissionCheck b k s
  | .issue k => issueHead b k r.payload s
  | .complete c => completeHead b c [] s

/-- A Deferred head is checked again (R35, R117). -/
def recheckDeferred (b : Bay) (s : State) : State :=
  match s.head b with
  | some r => if r.phase = .deferred then applyOutcome b r (headCheck r.kind (s.bay b).state) s else s
  | none => s

/-- The restore check and the check of the head it makes (R119). -/
def restoreNow (b : Bay) (s : State) : State := if s.restoreDue b then checkHead b (restoreCheck b s) else s

/-- The head check at a change of the bay's state: a head in Checking or Deferred is checked; one in Admitting keeps its
entry on Permit for the same kind and otherwise leaves with the new outcome (R33, R35, R36). -/
def recheckHead (b : Bay) (s : State) : State :=
  match s.head b with
  | none => s
  | some r =>
    match r.phase with
    | .queued | .issued => s
    | .checking => checkHead b s
    | .deferred => recheckDeferred b s
    | .admitting =>
      let o := headCheck r.kind (s.bay b).state
      if o = .permit .spinUp ∧ r.kind = .spinUp ∨ o = .permit .load ∧ r.kind = .load then s
      else applyOutcome b r o (leaveAdmission b s)

/-- The head is Issued and its exchange is neither queued nor waiting: it has started (R37). -/
def State.headStarted (s : State) (b : Bay) : Bool :=
  match s.head b with
  | some r => r.phase = .issued && (s.headExchange b).isNone
  | none => false

/-- A request appended at the tail of a bay queue; into an empty queue it becomes head and is checked (R29, R32). -/
def appendRequest (b : Bay) (r : Request) (s : State) : State :=
  let s' := s.updBay b fun e => { e with queue := e.queue ++ [r] }
  if (s.bay b).queue.isEmpty then checkHead b (becomeHead b s') else s'

end Sys2Proof.Machine
end

