-- ==== Sys2Proof/Machine/Admission.lean ====
section
/-! DEFINITION. The Admission Unit's work: the required increase (R65), the examination (R67), admission (R68), and when an
event ends in one (R61, R64, R67). -/

namespace Sys2Proof.Machine

/-- The state an admission gives (R9). -/
def AdmKind.state : AdmKind → BayState
  | .spinUp => .spinning
  | .load => .loading

/-- The exchange an admission places (R9). -/
def AdmKind.exchange : AdmKind → ExKind
  | .spinUp => .spin
  | .load => .load

/-- The target reservation of an entry (R65). -/
def State.targetReservation (s : State) (e : AdmEntry) : Nat := (s.profileOf e.bay).reservation e.kind.state

/-- The required increase of an entry (R65). It is never negative, since Peak and the Loading reservation are at least the
present reservation (R56). -/
def State.required (s : State) (e : AdmEntry) : Nat := s.targetReservation e - (s.bay e.bay).reservation

/-- The stagger is open (R66). -/
def State.staggerOpen (s : State) : Bool := s.adm.staggerDue.isNone

/-- The entry fits the effective limit (R67, condition 1). -/
def State.fits (s : State) (e : AdmEntry) : Bool := s.adm.committed + s.required e ≤ s.adm.effLimit

/-- The head of the Admission Queue may be admitted (R67). -/
def State.admits (s : State) (e : AdmEntry) : Bool := s.fits e && (e.kind = .load || s.staggerOpen)

/-- The stagger state at the admission of a SPIN-UP (R66). -/
def startStagger (s : State) : State :=
  s.updAdm fun a =>
    { a with
      lastSpin := some s.now
      staggerDue := if s.timing.stagger = 0 then none else some (s.after s.timing.stagger) }

/-- Admission of the entry `e` at the head of the Admission Queue, steps 1 to 4 of R68. Step 5 finds the part within budget; it is
made with the event's evaluation, on the final sum (R61; log 39). -/
def grant (e : AdmEntry) (s : State) : State :=
  let x := s.exchangeFor e.bay e.kind.exchange .head []
  let s := s.updAdm fun a => { a with queue := a.queue.tail }
  let s := changeState e.bay e.kind.state s
  let s := setPhase e.bay .issued (placeFor e.bay x s)
  if e.kind = .spinUp then startStagger s else s

/-- The examination, repeated after each admission (R67, R68 step 6), for at most `fuel` admissions. -/
def examineLoop : Nat → State → State
  | 0, s => s
  | fuel + 1, s =>
    match s.adm.queue with
    | [] => s
    | e :: _ => if s.admits e then examineLoop fuel (grant e s) else s

/-- An examination: each admission takes one entry out, so the queue's length bounds it (R67). -/
def examine (s : State) : State := examineLoop s.adm.queue.length s

/-- The budget work of an event that began in `s0`, once all its changes of reservations are applied: the over-budget condition on
the final sum, and an examination when the committed current fell, the Admission Queue changed or a bay has another class (R4, R61, R63,
R64; log 39). -/
def settleBudget (s0 s : State) : State :=
  let s := evaluateBudget s
  if s.adm.committed < s0.adm.committed ∨ s.adm.queue ≠ s0.adm.queue ∨ s.bays.map (·.cls) ≠ s0.bays.map (·.cls) then examine s else s

/-- The budget work of a write of the budget's own settings, which examines whatever the direction (R57, R59, R66). -/
def settleForced (s : State) : State := examine (evaluateBudget s)

end Sys2Proof.Machine
end

