-- ==== Sys2Proof/Machine/Protection.lean ====
section
/-! DEFINITION. Protective operations: what they find (R112), their exchanges and the current exchange they meet (R113, R136,
R137), their placing and its effect on the head (R111, R42), their end (R116, R118), and the park exchanges (R114). -/

namespace Sys2Proof.Machine

/-! ### The current exchange, ended from outside -/

/-- The owner of a cut-short exchange that failed (R137). -/
def endCutShortOwner (x : Exchange) (s : State) : State :=
  match x.target, x.owner with
  | .bay b, .head =>
    if (x.kind = .query ∨ x.kind = .pass) ∧ s.headStarted b then
      completeHead b { code := .bayFault, secondary := Cause.bus.code } [] s
    else s
  | .bay b, .survey => countBay b s
  | _, _ => s

/-- The current exchange is cut short; in a resend gap it ends at once, its owner as for a Failure (R137). -/
def cutShortCurrent (s : State) : State :=
  match s.bus.current with
  | none => s
  | some c =>
    if c.disregarded then s
    else if c.resendAt.isSome then endCutShortOwner c.ex (endCurrent s)
    else updCurrent (fun c => { c with cutShort := true }) s

/-- The current exchange of the bay is a protective one that still serves its operation (R113). -/
def State.currentProtective (s : State) (b : Bay) : Option Current :=
  s.bus.current.filter fun c => c.ex.individual b && c.ex.owner = .protective && !c.disregarded

/-- A current protective exchange of another kind than `k` is replaced; in a resend gap it ends at once (R113; log 13). -/
def replaceCurrent (b : Bay) (k : ExKind) (s : State) : State :=
  match s.currentProtective b with
  | none => s
  | some c =>
    if c.ex.kind = k then s
    else if c.resendAt.isSome then endCurrent s
    else updCurrent (fun c => { c with replaced := true }) s

/-- A survey or insertion QUERY of the bay that is queued goes to the waiting place (R136), before what waits there (log 46). -/
def yieldQuery (b : Bay) (s : State) : State :=
  let q := fun x : Exchange => x.individual b && (x.owner = .survey || x.owner = .insertion)
  updWaiting b (s.bus.normal.filter q ++ ·) (s.updBus fun u => { u with normal := u.normal.filter (!q ·) })

/-- A protective exchange for the bay is placed: at the Urgent tail, or in the waiting place behind a non-protective current
exchange, which is cut short, or behind an exchange that still stands in a queue (R113, R126, R136, R137; log 46). -/
def placeUrgent (b : Bay) (k : ExKind) (s : State) : State :=
  let s := yieldQuery b s
  let x := s.exchangeFor b k .protective []
  let wait := updWaiting b (x :: ·)
  if s.queuedFor b then wait s
  else
    match s.bus.current with
    | none => enqueue x s
    | some c =>
      if c.ex.individual b = false ∨ (s.currentProtective b).isSome then enqueue x s else cutShortCurrent (wait s)

/-! ### What an operation finds -/

/-- What the table of R112 names. "QUICKPARK, then STOP" and "adopt, then STOP" are the park phase of a Stop. -/
inductive ProtEntry where
  | exchange (k : ExKind)
  | adopt
  | none
deriving DecidableEq, Repr

/-- The table of R112. -/
def protEntry : ProtKind → BayState → ProtEntry
  | .unload, .loaded => .exchange .unload
  | .unload, .loading => .exchange .unload
  | .unload, .unloading => .adopt
  | .unload, .parking => .adopt
  | .park, .loaded => .exchange .quickPark
  | .park, .loading => .exchange .quickPark
  | .park, .unloading => .exchange .quickPark
  | .park, .parking => .adopt
  | .stop, .loaded => .exchange .quickPark
  | .stop, .loading => .exchange .quickPark
  | .stop, .unloading => .exchange .quickPark
  | .stop, .parking => .adopt
  | .stop, .idle => .exchange .stop
  | .stop, .spinning => .exchange .stop
  | .stop, .stopping => .adopt
  | _, _ => .none

/-- The kind an action places (R111). -/
def Action.kind : Action → Option ProtKind
  | .none => Option.none
  | .unload => some .unload
  | .park => some .park
  | .parkStop => some .stop

/-- The order of the kinds, Unload, Park, Stop (R113); also their codes in the Bay Record (R188). -/
def ProtKind.code : ProtKind → Nat
  | .unload => 1 | .park => 2 | .stop => 3

/-- The stronger of two kinds (R113). -/
def ProtKind.stronger (a b : ProtKind) : ProtKind := if a.code < b.code then b else a

/-- The bay is Loaded or Loading, the first condition of R118. -/
def BayState.loadedOrLoading : BayState → Bool
  | .loaded | .loading => true
  | _ => false

/-- A bay at risk: Loaded, Loading or Unloading (R114). -/
def BayState.atRisk : BayState → Bool
  | .loaded | .loading | .unloading => true
  | _ => false

/-! ### The end of an operation -/

/-- Some governed request stands in the bay queue (R118). -/
def BayRecord.governedQueued (r : BayRecord) : Bool := r.queue.any (·.kind.governed)

/-- The unstarted exchanges that serve the bay's protective operation leave their places; a park follow-up stays (R113, R138, R139;
log 15). -/
def dropProtective (b : Bay) (s : State) : State := leaveBaySet b (takeOut b (·.owner = .protective) s)

/-- The protective operation ends: the slot becomes absent, restore intent may be set and the restore check made, and the head
is checked (R116, R118, R119). -/
def endProtective (b : Bay) (goalMet : Bool) (s : State) : State :=
  match (s.bay b).slot with
  | none => s
  | some op =>
    let s := disregard b (·.owner = .protective) (dropProtective b (setSlot b none s))
    let s :=
      if goalMet && op.kind ≠ .stop && op.fromLoaded && !(s.bay b).governedQueued then
        restoreCheck b (s.updBay b fun r => { r with restoreIntent := true })
      else s
    checkHead b s

/-! ### Placing -/

/-- The head at the placing of an operation (R42). A head in Queued or Checking is held by the slot; a Deferred one stays. -/
def preemptHead (b : Bay) (op : ProtOp) (s : State) : State :=
  match s.head b with
  | none => s
  | some r =>
    match r.phase with
    | .queued | .checking | .deferred => s
    | .admitting => setPhase b .checking (leaveAdmission b s)
    | .issued =>
      if (s.headExchange b).isSome then setPhase b .checking (withdrawHead b s)
      else if r.kind = .load ∨ r.kind = .spinUp ∧ op.kind = .stop then
        completeHead b { code := .preempted, secondary := op.level.val } [] s
      else s

/-- The bay's operation has an unstarted exchange of kind `k`: queued, waiting, or as part of an all-bays QUICKPARK. -/
def State.protectiveStanding (s : State) (b : Bay) (k : ExKind) : Bool :=
  (s.standing b fun x => x.owner = .protective && x.kind = k).isSome
    || (k = .quickPark && s.bus.urgent.any fun x => x.target = .allBays && b ∈ x.bays)

/-- The operation in the slot is settled by the state found: it keeps, adopts or places an exchange, or its goal is already
met (R111 step 4, R112, R113). A QUICKPARK is left to step 3 of R106. -/
def settleOperation (b : Bay) (s : State) : State :=
  match (s.bay b).slot with
  | none => s
  | some op =>
    match protEntry op.kind (s.bay b).state with
    | .none => endProtective b true s
    | .adopt =>
      setSlot b (some { op with started := true, stopPhase := (s.bay b).state = .stopping }) (dropProtective b s)
    | .exchange k =>
      let s := setSlot b (some { op with started := false, stopPhase := k = .stop }) s
      if s.protectiveStanding b k then s
      else
        match s.currentProtective b with
        | some c =>
          if c.ex.kind = k then setSlot b (some { op with started := true, stopPhase := k = .stop }) s
          else
            let s := replaceCurrent b k (dropProtective b s)
            if k = .quickPark then s else placeUrgent b k s
        | none =>
          let s := dropProtective b s
          if k = .quickPark then s else placeUrgent b k s

/-- An action applied to a bay at a level (R111, R113). -/
def applyAction (b : Bay) (a : Action) (l : Level) (s : State) : State :=
  match a.kind with
  | none => s
  | some k =>
    if protEntry k (s.bay b).state = .none then s
    else
      match (s.bay b).slot with
      | some old =>
        if l.val ≤ old.level.val then s
        else
          let op : ProtOp := { old with kind := k.stronger old.kind, level := l, started := false }
          settleOperation b (preemptHead b op (setSlot b (some op) s))
      | none =>
        let op : ProtOp := { kind := k, level := l, started := false, stopPhase := false, fromLoaded := false }
        let s := preemptHead b op (setSlot b (some op) s)
        settleOperation b (setSlot b (some { op with fromLoaded := (s.bay b).state.loadedOrLoading }) s)

/-! ### Park exchanges -/

/-- The bay holds an operation whose QUICKPARK has not started (R114). -/
def State.parkUnstarted (s : State) (b : Bay) : Bool :=
  match (s.bay b).slot with
  | some op => !op.started && protEntry op.kind (s.bay b).state = .exchange .quickPark
  | none => false

/-- The bay's operation calls for a QUICKPARK that has not been placed (R106 step 3). -/
def State.callsForPark (s : State) (b : Bay) : Bool := s.parkUnstarted b && !s.protectiveStanding b .quickPark

/-- The bays at risk (R114). -/
def State.baysAtRisk (s : State) : List Bay := allBays.filter fun b => (s.bay b).state.atRisk

/-- A new all-bays QUICKPARK (R114, R138). -/
def allBaysPark (bays : List Bay) : Exchange :=
  { kind := .quickPark, target := .allBays, owner := .protective, payload := [], rate := .hz100, bays := bays, before := .unknown }

/-- The all-bays QUICKPARK takes the place of the bays' individual ones; a frame that still stands takes the bays into its set
(R114). A survey or insertion QUERY of such a bay goes to its waiting place (R136; log 16). -/
def placeGroupPark (bays : List Bay) (s : State) : State :=
  let s := bays.foldl (fun s b => yieldQuery b (takeOut b (fun x => x.owner = .protective && x.kind = .quickPark) s)) s
  s.updBus fun u =>
    if u.urgent.any (·.target = .allBays) then
      { u with urgent := u.urgent.map fun x =>
          if x.target = .allBays then { x with bays := allBays.filter fun b => b ∈ x.bays || b ∈ bays } else x }
    else { u with urgent := u.urgent ++ [allBaysPark bays] }

/-- The bay's QUICKPARK is placed individually where its operation calls for one. -/
def placePark (b : Bay) (s : State) : State := if s.callsForPark b then placeUrgent b .quickPark s else s

/-- The park exchanges of a sweep: one all-bays frame, or individual frames in bay index order (R106 step 3, R114). A sweep whose
operations all keep QUICKPARKs that stand queued calls for none, and leaves them individual (log 45). -/
def placeParks (s : State) : State :=
  if allBays.any s.callsForPark then
    let risk := s.baysAtRisk
    if 2 ≤ risk.length ∧ risk.all s.parkUnstarted then placeGroupPark risk s
    else allBays.foldl (fun s b => placePark b s) s
  else s

end Sys2Proof.Machine
end

