-- ==== Sys2Proof/Machine/Sweeps.lean ====
section
/-! DEFINITION. Changes of level: the sweep rule (R110), the two passes of R106 with their park exchanges and examination, the
recomputation of the zone levels (R101, R121), and rises that do not come from motion (R105, R120). -/

namespace Sys2Proof.Machine

/-- A head in Admitting whose kind the new level forbids becomes Deferred (R36, R106). -/
def forbidAdmitting (b : Bay) (s : State) : State :=
  match s.head b with
  | some r =>
    if r.phase = .admitting ∧ (r.kind = .load ∧ s.permits b .load = false ∨ r.kind = .spinUp ∧ s.permits b .spinUp = false)
    then setPhase b .deferred (leaveAdmission b s)
    else s
  | none => s

/-- The visit of pass 1 to a bay whose effective level changed from `o` to its present one (R106, R110); a Level Map write
does not sweep (R121). -/
def visitSweep (sweeping : Bool) (b : Bay) (o : Level) (s : State) : State :=
  let z := s.level b
  let s := s.updBay b fun r => { r with sweepLevel := minLevel r.sweepLevel z }
  let a := s.prot.action z
  let s :=
    if sweeping ∧ o.val < z.val ∧ a ≠ .none ∧ (s.bay b).sweepLevel.val < z.val then
      applyAction b a z (s.updBay b fun r => { r with sweepLevel := z })
    else s
  if o.val < z.val then forbidAdmitting b s else s

/-- The visit of pass 2 (R106, R117, R119). -/
def visitRecheck (b : Bay) (s : State) : State := restoreNow b (recheckDeferred b s)

/-- Steps 2 to 5 of R106 for the bays given, each with the level it came from. What pass 2 appends is examined, and the over-budget
condition evaluated, at the end of the event (R61; log 39). -/
def carryOut (sweeping : Bool) (bays : List (Bay × Level)) (s : State) : State :=
  let s := bays.foldl (fun s v => visitSweep sweeping v.1 v.2 s) s
  let s := examine (placeParks s)
  bays.foldl (fun s v => visitRecheck v.1 s) s

/-- The zones in the order of R106 step 1. -/
def zoneOrder : List Zone := [.sensor 0, .sensor 1, .sensor 2, .sensor 3, .all]

/-- The LEVEL notice of a zone whose level changed (R106 step 1). -/
def postLevel (old : ZoneLevels) (z : Zone) (s : State) : State :=
  if old.of z = s.prot.levels.of z then s else postNotice (.level z (old.of z) (s.prot.levels.of z) s.now) s

/-- The bays that are not Empty and whose effective level changed, with the level before (R106, R110). -/
def State.baysMoved (s : State) (old : ZoneLevels) : List (Bay × Level) :=
  (allBays.filter fun b => (s.bay b).state ≠ .empty ∧ old.of (s.bay b).zone ≠ s.level b).map
    fun b => (b, old.of (s.bay b).zone)

/-- A change of zone levels carried out (R106). -/
def levelChange (sweeping : Bool) (old : ZoneLevels) (s : State) : State :=
  let s := zoneOrder.foldl (fun s z => postLevel old z s) s
  carryOut sweeping (s.baysMoved old) s

/-- The zone levels are recomputed, and a change is carried out (R101, R121). -/
def recomputeLevels (sweeping : Bool) (s : State) : State :=
  let new := s.prot.computeLevels
  if new = s.prot.levels then s
  else levelChange sweeping s.prot.levels { s with prot := { s.prot with levels := new } }

/-- A hand-off from the Motion Classifier: the sensor's copy, the latch copy, the levels (R100, R101). -/
def handOff (i : SensorId) (s : State) : State :=
  let r := s.sensors[i]
  recomputeLevels true
    { s with prot := { s.prot with copies := s.prot.copies.set i { enabled := r.enabled, conds := r.conds },
                                   latchCopy := s.latch.isSome } }

/-- A rise of each bay's effective level from 0 to its zone's level (R120). -/
def riseFromZero (bays : List Bay) (s : State) : State :=
  carryOut true ((bays.filter fun b => (s.bay b).state ≠ .empty).map (·, 0)) s

end Sys2Proof.Machine
end

