-- ==== Sys2Proof/Machine/Reports.lean ====
section
/-! DEFINITION. What befalls a bay: faults and the end of its work (R14 to R17, R171), removal and insertion (R21, R22), status
reports as completions, progress or reconciliation (R12, R13, R18 to R20), refusals (R16), and the survey's counts (R24, R25). -/

namespace Sys2Proof.Machine

/-! ### Deadlines -/

/-- The operation a transitional state awaits (R18). -/
def BayState.opKind : BayState → Option OpKind
  | .spinning => some .spinUp
  | .loading => some .load
  | .unloading => some .unload
  | .parking => some .park
  | .stopping => some .stop
  | _ => none

/-- A deadline from now of the class's time for an operation (R11, R18). -/
def State.opDeadline (s : State) (b : Bay) (k : OpKind) (group : Bool) : OpDeadline :=
  { due := s.after ((s.profileOf b).time k), kind := k, group := group }

/-- A fresh deadline where the state is transitional, absent otherwise (R18). -/
def freshDeadline (b : Bay) (s : State) : State :=
  setDeadline b ((s.bay b).state.opKind.map fun k => s.opDeadline b k false) s

/-! ### Faults -/

/-- The request kind of a bay fault (R171). -/
def State.workOf (s : State) (b : Bay) : Work :=
  if (s.bay b).slot.isSome then .protective
  else match s.head b with
    | some r => if r.phase = .issued then .request r.kind else .none
    | none => .none

/-- R17 ends the bay's head: it is Issued, and its exchange has started or is a state-changing one still queued. -/
def State.headEnded (s : State) (b : Bay) : Bool :=
  match s.head b with
  | some r => r.phase = .issued && (match s.headExchange b with | some x => x.kind.stateChanging | none => true)
  | none => false

/-- What a STATUS head gets when its own answer carries the report (R46): Done with this payload. -/
abbrev OwnAnswer := Option (List Byte)

/-- What R17 ends whatever becomes of the head: the deadline, the slot, the state-changing exchanges that have not started and the
heeding of the current one. A queued QUERY or PASS stays, a park follow-up among them (log 55). -/
def endStanding (b : Bay) (s : State) : State :=
  let s := setSlot b none (setDeadline b none s)
  let s := leaveBaySet b (takeOut b (·.kind.stateChanging) s)
  disregard b (fun _ => true) s

/-- The work standing against a bay ends (R17). `own` is present where the report came in the head STATUS's own answer. -/
def endWork (b : Bay) (cause : Cause) (own : OwnAnswer) (s : State) : State :=
  let ended := s.headEnded b
  let s := endStanding b s
  if ended then
    match own with
    | some payload => completeHead b (.plain .done) payload s
    | none => completeHead b { code := .bayFault, secondary := cause.code } [] s
  else recheckHead b s

/-- A fault of a bay, in the order of R171. The over-budget condition is evaluated at the end of the event (R61; logs 18, 39). -/
def faultBay (b : Bay) (st : BayState) (cause : Cause) (secondary : Nat) (own : OwnAnswer) (s : State) : State :=
  let work := s.workOf b
  let changed := (s.bay b).state ≠ st
  let s := s.updBay b fun r => { r with lastFault := some { cause := cause, secondary := secondary, time := s.now } }
  let s := endWork b cause own (putState b st s)
  let captured := s.ffr.isNone
  let s := captureFault (.bay b) cause secondary work s
  let s := if changed then postBay b s else s
  postNotice (.fault (.bay b) cause secondary work captured s.now) s

/-- The bay is already Faulted with this drive code: a repeat (R15). -/
def State.driveRepeat (s : State) (b : Bay) (code : Byte) : Bool :=
  (s.bay b).state = .faulted && (match (s.bay b).lastFault with
    | some f => f.cause = .drive && f.secondary = code.toNat
    | none => false)

/-- A drive fault code reported by the bay (R15). -/
def driveFault (b : Bay) (code : Byte) (own : OwnAnswer) (s : State) : State :=
  if s.driveRepeat b code then s else faultBay b .faulted .drive code.toNat own s

/-! ### Removal and insertion -/

/-- Every request of a removed bay's queue completes BayEmpty, the head first; a STATUS head whose own answer reported present
no completes Done (R22). -/
def completeRemoved (b : Bay) (own : OwnAnswer) (s : State) : State :=
  match (s.bay b).queue with
  | [] => s
  | r :: rest =>
    let s := match own with
      | some payload => deliver b r (.plain .done) payload s
      | none => deliver b r (.plain .bayEmpty) [] s
    rest.foldl (fun s r => deliver b r (.plain .bayEmpty) [] s) s

/-- The Bay Record of a removed drive; the last fault stays (R22). -/
def BayRecord.removed (r : BayRecord) : BayRecord :=
  { r with queue := [], slot := none, deadline := none, holder := none, restoreIntent := false, sweepLevel := 0, retry := 0,
           cache := none }

/-- During the survey a removal counts the bay done and makes its state known, once the QUERYs are placed (R22, R24). -/
def surveyKnown (b : Bay) (s : State) : State :=
  if s.survey.running ∧ s.survey.settle = none then s.updBay b fun r => { r with surveyed := true, known := true } else s

/-- The drive is removed (R22). -/
def removeDrive (b : Bay) (own : OwnAnswer) (s : State) : State :=
  let s := completeRemoved b own s
  let s := leaveAdmission b (s.updBay b (·.removed))
  let s := leaveBaySet b (takeOut b (fun _ => true) s)
  let s := surveyKnown b (disregard b (fun _ => true) s)
  changeState b .empty s

/-- A QUERY of the insertion (R21). -/
def placeInsertionQuery (b : Bay) (s : State) : State := placeFor b (s.exchangeFor b .query .insertion []) s

/-- An Inserted presence notice (R21). -/
def presenceInserted (b : Bay) (s : State) : State :=
  match (s.bay b).state with
  | .empty => placeInsertionQuery b (changeState b .off s)
  | .unknown => changeState b .off s
  | _ => s

/-- A Removed presence notice (R22). -/
def presenceRemoved (b : Bay) (s : State) : State := if (s.bay b).state = .empty then s else removeDrive b none s

/-! ### Completions -/

/-- The state a completion gives, where the condition is the awaited one (R12). -/
def completionState : BayState → Condition → Option BayState
  | .spinning, .atSpeed => some .idle
  | .loading, .headsLoaded => some .loaded
  | .unloading, .atSpeed => some .idle
  | .parking, .atSpeed => some .idle
  | .stopping, .stopped => some .off
  | _, _ => none

/-- The state whose completion is the goal of a governed kind (R39). -/
def ReqKind.goalOf : ReqKind → BayState → Bool
  | .spinUp, .spinning => true
  | .load, .loading => true
  | .unload, .unloading => true
  | .unload, .parking => true
  | .spinDown, .stopping => true
  | _, _ => false

/-- The head that a completion from state `from_` serves completes Done; an exchange of it that had not started is taken out
(R39; log 14). -/
def completeServedHead (b : Bay) (origin : BayState) (s : State) : State :=
  match s.head b with
  | some r =>
    if r.phase = .issued ∧ r.kind.goalOf origin then
      completeHead b (.plain .done) [] (takeOut b (·.owner = .head) s)
    else s
  | none => s

/-- The park phase of a Stop ends: the STOP is placed (R116). -/
def startStopPhase (b : Bay) (op : ProtOp) (s : State) : State :=
  placeUrgent b .stop (setSlot b (some { op with stopPhase := true, started := false }) (dropProtective b s))

/-- The protective operation that a completion from state `from_` serves is settled (R116). -/
def completeServedOperation (b : Bay) (origin : BayState) (s : State) : State :=
  match (s.bay b).slot with
  | none => s
  | some op =>
    match op.kind, origin with
    | .unload, .unloading | .unload, .parking | .park, .unloading | .park, .parking => endProtective b true s
    | .stop, .unloading | .stop, .parking => if op.stopPhase then s else startStopPhase b op s
    | .stop, .stopping => endProtective b true s
    | _, _ => s

/-- The operation in flight completes: the state, the deadline, a park follow-up, an exchange of it still on the bus, the head and
the slot (R12, R39, R116, R135, R139). -/
def completeOperation (b : Bay) (st : BayState) (s : State) : State :=
  let origin := (s.bay b).state
  let s := changeState b st (setDeadline b none s)
  let s := takeOut b (·.owner = .followUp) s
  let s := disregard b (fun x => x.kind.stateChanging || x.owner = .followUp) s
  recheckHead b (completeServedOperation b origin (completeServedHead b origin s))

/-! ### Reconciliation -/

/-- The state a condition reconciles the bay to (R18). -/
def Condition.state : Condition → BayState
  | .stopped => .off
  | .accelerating => .spinning
  | .atSpeed => .idle
  | .headsLoading => .loading
  | .headsLoaded => .loaded
  | .headsUnloading => .unloading
  | .headsParking => .unloading
  | .decelerating => .stopping

/-- The head whose exchange was started on a Faulted or Unreachable bay ends by the reconciliation (R41). R41 names no case
for Hold, a SPIN-DOWN whose bay reconciles to Unloading: it returns to Checking with a fresh wait deadline and is held there (DEDUCED,
log 51). -/
def reconcileHead (b : Bay) (s : State) : State :=
  match s.head b with
  | some r =>
    if s.headStarted b && (r.kind = .spinDown || r.kind = .unload) then
      match headCheck r.kind (s.bay b).state with
      | .complete c => completeHead b (if c.code = .already then .plain .done else c) [] s
      | _ => checkHead b (returnToChecking b s)
    else recheckHead b s
  | none => s

/-- What follows a reconciliation that changed the state, the head's check or end among it (log 53): the sweep level is 0, and the level rises from 0 for the bay, at once or,
while the survey runs, at its completion (R18, R25, R120; log 20). -/
def afterReconciliation (b : Bay) (s : State) : State :=
  let s := s.updBay b fun r => { r with sweepLevel := 0 }
  if s.survey.running then s.updBay b fun r => { r with known := true } else riseFromZero [b] s

/-- A report maps a bay with no operation in flight to a state (R18). The head is checked or ended at the new state (R33, R36, R41)
before the rise of R120: the spec gives no order, and this one is the model's choice (log 53). -/
def reconcile (b : Bay) (st : BayState) (s : State) : State :=
  if (s.bay b).state = st then s
  else
    let s := freshDeadline b (changeState b st s)
    let s := disregard b (·.kind.stateChanging) s
    afterReconciliation b (reconcileHead b s)

/-! ### Reports -/

/-- A report stored in the status cache (R19). -/
def storeReport (b : Bay) (rep : Report) (s : State) : State :=
  s.updBay b fun r => { r with cache := some { report := rep, time := s.now } }

/-- A STATUS head whose own answer carried the report completes Done, unless the report's effects have ended it (R46). -/
def finishOwn (b : Bay) (own : OwnAnswer) (s : State) : State :=
  match own, s.head b with
  | some payload, some r =>
    if r.kind = .status ∧ s.headStarted b then completeHead b (.plain .done) payload s else s
  | _, _ => s

/-- A report repeats the drive fault of a Faulted bay: no new fault, but a head whose STOP or UNLOAD was started on the bay ends
BayFault, Drive, and its operation with it (R15, R41; log 48). -/
def repeatedFault (b : Bay) (s : State) : State :=
  match s.head b with
  | some r =>
    if s.headStarted b && (r.kind = .spinDown || r.kind = .unload) then
      completeHead b { code := .bayFault, secondary := Cause.drive.code } []
        (disregard b (·.kind.stateChanging) (setDeadline b none s))
    else s
  | none => s

/-- A report with a drive fault code: a repeat, the failure of the operation in flight, or a reconciliation to Faulted (R13, R15,
R18), the fault's work before the rise of R120 (log 53). -/
def takeDriveCode (b : Bay) (code : Byte) (own : OwnAnswer) (s : State) : State :=
  if s.driveRepeat b code then finishOwn b own (repeatedFault b s)
  else if s.inFlight b || (s.bay b).state = .faulted then driveFault b code own s
  else afterReconciliation b (driveFault b code own s)

/-- A status report with present yes and fault code 0: completion, progress or reconciliation (R12, R13, R18). -/
def takeCondition (b : Bay) (c : Condition) (s : State) : State :=
  if s.inFlight b then
    match completionState (s.bay b).state c with
    | some st => completeOperation b st s
    | none => s
  else reconcile b c.state s

/-- A status report taken by the Bay Table (R12, R13, R18, R19). A well-formed report with present yes has a condition. -/
def takeReport (b : Bay) (rep : Report) (own : OwnAnswer) (s : State) : State :=
  let s := storeReport b rep s
  if rep.present = false then
    if (s.bay b).state = .empty then s else removeDrive b own s
  else if rep.code ≠ 0 then
    takeDriveCode b rep.code own s
  else match conditionOf rep.condition with
    | some c => finishOwn b own (takeCondition b c s)
    | none => finishOwn b own s

/-- A survey QUERY answered with a report: the bay's state became known and the bay is counted (R24). -/
def surveyReport (b : Bay) (rep : Report) (s : State) : State :=
  let s := takeReport b rep none s
  s.updBay b fun r => { r with surveyed := true, known := true }

/-- A FAULT frame from a bay (R15). -/
def faultFrame (b : Bay) (code : Byte) (s : State) : State :=
  if (s.bay b).state = .empty then s
  else
    let s := s.updBay b fun r =>
      { r with cache := r.cache.map fun c => { report := { c.report with code := code }, time := s.now } }
    driveFault b code none s

/-! ### Refusals and expiries -/

/-- The bay returns to its state before the exchange; a transitional state is given a fresh deadline (R16, R116; log 40). A bay that
so enters Unreachable has its work ended by R17; its head completes as R40 gives (log 47). -/
def refusedReturn (b : Bay) (before : BayState) (s : State) : State :=
  if (s.bay b).state = before then s
  else
    let s := changeState b before s
    if before = .unreachable then endStanding b s else freshDeadline b s

/-- A Timeout fault of a bay (R14). -/
def timeoutFault (b : Bay) (k : OpKind) (s : State) : State := faultBay b .faulted .timeout k.code none s

/-- The park that a follow-up settles still runs: no fault, removal or completion has ended it (R140; log 55). -/
def State.parkRuns (s : State) (b : Bay) : Bool := (s.bay b).state = .parking

/-- A park follow-up that finds the park not ended: a report other than at speed, or a refusal (R140). -/
def followUpFault (b : Bay) (s : State) : State := timeoutFault b .park s

/-- The report of a park follow-up settles the park (R140). Where a fault has ended the park meanwhile, it is taken as any other
report (R18, R20; log 55). -/
def followUpReport (b : Bay) (rep : Report) (s : State) : State :=
  if s.parkRuns b = true ∧ rep.present = true ∧ rep.code = 0 ∧ conditionOf rep.condition ≠ some .atSpeed then
    followUpFault b (storeReport b rep s)
  else takeReport b rep none s

/-! ### The survey's completion -/

/-- The bays that are not Empty, for the SURVEY notice (R178). -/
def State.baysNotEmpty (s : State) : Nat := (allBays.filter fun b => (s.bay b).state ≠ .empty).length

/-- The survey completes in the event that counts its last bay (R25, R120). -/
def completeSurvey (s : State) : State :=
  if s.survey.running ∧ s.survey.settle = none ∧ allBays.all (fun b => (s.bay b).surveyed) then
    let s := postNotice (.survey s.baysNotEmpty s.now) { s with survey := { s.survey with running := false } }
    riseFromZero (allBays.filter fun b => (s.bay b).known) s
  else s

end Sys2Proof.Machine
end

