-- ==== Sys2Proof/Machine/Motion.lean ====
section
/-! DEFINITION. The Motion Classifier: taking a SAMPLES frame (R81 to R83), the tests and the five conditions (R84 to R87, R91,
R93, R94), the outcomes of a fall (R88 to R90), its deadlines (R85, R92, R95), enabling, disabling and rates (R96 to R99). -/

namespace Sys2Proof.Machine

/-! ### Outcomes of a fall -/

/-- Fault Capture takes a sensor fault (R172). -/
def sensorFault (i : SensorId) (secondary : Nat) (s : State) : State := captureFault (.sensor i) .sensor secondary .none s

/-- The impact latch is set, unless it stands, and an IMPACT notice is queued (R88, R89). -/
def setImpact (i : SensorId) (height : Nat) (s : State) : State :=
  postNotice (.impact i height s.now)
    { s with latch := match s.latch with
        | some r => some r
        | none => some { sensor := i, height := height, time := s.now } }

/-- The last fall of a sensor (R76). -/
def setLastFall (i : SensorId) (height : Nat) (r : FallResult) (s : State) : State :=
  s.updSensor i fun e => { e with lastFall := some { height := height, result := r } }

/-- The classification of a height (R88). -/
def Thresholds.classify (t : Thresholds) (h : Nat) : FallResult :=
  if h < t.fallMin then .dip else if h ≤ t.fallMax then .impact else .lowGLong

/-- A fall that ended with height `h` is classified and its outcome delivered (R88). -/
def deliverFall (i : SensorId) (h : Nat) (s : State) : State :=
  let r := s.thresholds.classify h
  let s := setLastFall i h r s
  match r with
  | .dip => postNotice (.dip i h s.now) s
  | .impact => setImpact i h s
  | .lowGLong => sensorFault i sensorLowGLong (postNotice (.lowGLong i h s.now) s)

/-- A change applied at a sensor's conditions. -/
def SensorRecord.withConds (r : SensorRecord) (f : Conditions → Conditions) : SensorRecord := { r with conds := f r.conds }

/-- A fall that can no longer be watched ends without an exit (R90). -/
def endFallUnseen (i : SensorId) (s : State) : State :=
  if s.sensors[i].conds.falling then
    setImpact i Config.unknownHeight (setLastFall i Config.unknownHeight .impact
      (s.updSensor i fun r => { r.withConds ({ · with falling := false }) with fallStart := none }))
  else s

/-! ### One sample -/

/-- The squared magnitude m² (R84). -/
def squaredMagnitude (x y z : Int) : Nat := (x * x + y * y + z * z).toNat

/-- The sample is high-g (R84). -/
def Thresholds.high (t : Thresholds) (m2 : Nat) : Bool := t.highG * t.highG < m2

/-- The sample is low-g for a sensor (R84). -/
def Thresholds.low (t : Thresholds) (m2 : Nat) (debounce : Option Count) : Bool := m2 < t.lowG * t.lowG && debounce.isNone

/-- The vibration value v (R93). -/
def vibration (m2 : Nat) : Nat := ((m2 : Int) - 1048576).natAbs / 1024

/-- The sample is tilted (R94). -/
def Thresholds.tilts (t : Thresholds) (m2 : Nat) (z : Int) : Bool := z ≤ 0 || 65536 * (z * z).toNat < t.tiltC * m2

/-- A run counter after a sample: one more, saturating, or 0 (R76). -/
def runAfter (more : Bool) (n : Nat) : Nat := if more then satSucc n 65535 else 0

/-- The high-g bookkeeping (R85): `due ms` is the sample time plus `ms`. -/
def SensorRecord.noteHigh (r : SensorRecord) (t : Thresholds) (now : Count) (due : Nat → Count) : SensorRecord :=
  { r with lastHigh := some now
           debounceDue := if t.debounce = 0 then none else some (due t.debounce)
           joltDue := some (due t.joltHold) }

/-- The duration n of a fall at its exit (R87). -/
def SensorRecord.duration (r : SensorRecord) (exit : Half) : Nat :=
  if 4095 ≤ r.lowRun then 4095 else min (exit - r.fallStart.getD exit).toNat 4095

/-- The height of a fall of `n` samples at `fs` Hz, in mm (R87). -/
def fallHeight (n fs : Nat) : Nat := min (4903 * (n * n) / (fs * fs)) 65535

/-- The Falling rules short of the exit's outcome: the low-g run, the assertion and the clearing (R86, R87). -/
def SensorRecord.fallStep (r : SensorRecord) (t : Thresholds) (low : Bool) (counter : Half) : SensorRecord :=
  let run := runAfter low r.lowRun
  if r.conds.falling then
    if low then { r with lowRun := run }
    else { r.withConds ({ · with falling := false }) with lowRun := run, fallStart := none }
  else if low && t.nLow ≤ run then
    { r.withConds ({ · with falling := true }) with lowRun := run, fallStart := some (counter - BitVec.ofNat 16 (run - 1)) }
  else { r with lowRun := run }

/-- The high-g run and Jolt (R91). -/
def SensorRecord.joltStep (r : SensorRecord) (t : Thresholds) (high : Bool) : SensorRecord :=
  let run := runAfter high r.highRun
  { r.withConds (fun c => { c with jolt := c.jolt || (high && t.nHigh ≤ run) }) with highRun := run }

/-- The vibration window and Rolling (R93). -/
def SensorRecord.rollStep (r : SensorRecord) (t : Thresholds) (v : Nat) : SensorRecord :=
  let sum := r.vibSum - r.window.headD 0 + v
  let mean := sum / 16
  { r.withConds (fun c => { c with rolling := if c.rolling then !(mean < t.vOff) else t.vOn ≤ mean }) with
    window := r.window.tail ++ [v], vibSum := sum }

/-- The tilt runs and Tilted (R94). -/
def SensorRecord.tiltStep (r : SensorRecord) (t : Thresholds) (tilted : Bool) : SensorRecord :=
  let tilt := runAfter tilted r.tiltRun
  let untilt := runAfter (!tilted) r.untiltRun
  { r.withConds (fun c => { c with tilted := if c.tilted then !(t.nTilt ≤ untilt) else t.nTilt ≤ tilt }) with
    tiltRun := tilt, untiltRun := untilt }

/-- One sample of an accepted frame, in the order of R82. -/
def takeSample (i : SensorId) (counter : Half) (x y z : Int) (s : State) : State :=
  let t := s.thresholds
  let m2 := squaredMagnitude x y z
  let high := t.high m2
  let low := t.low m2 s.sensors[i].debounceDue
  let s := if high then s.updSensor i (·.noteHigh t s.now s.after) else s
  let r := s.sensors[i]
  let s := s.updSensor i (·.fallStep t low counter)
  let s := if r.conds.falling && !low then deliverFall i (fallHeight (r.duration counter) r.rate.hertz) s else s
  s.updSensor i fun r =>
    { ((r.joltStep t high).rollStep t (vibration m2)).tiltStep t (t.tilts m2 z) with
      lastSample := some { counter := counter, x := x, y := y, z := z } }

/-- The samples of a frame, in counter order (R82). -/
def takeSamples (i : SensorId) : Half → List (Int × Int × Int) → State → State
  | _, [], s => s
  | c, (x, y, z) :: rest, s => takeSamples i (c + 1) rest (takeSample i c x y z s)

/-! ### A frame -/

/-- The blind deadline from now (R81, R97). -/
def State.blindDeadline (s : State) : Count := s.after s.thresholds.blindTime

/-- A frame that is discarded unclassified restarts the blind deadline and leaves Blind as it is (R81, R95). -/
def restartBlind (i : SensorId) (s : State) : State := s.updSensor i fun r => { r with blindDue := some s.blindDeadline }

/-- The four runs at 0 (R83). -/
def SensorRecord.noRuns (r : SensorRecord) : SensorRecord := { r with lowRun := 0, highRun := 0, tiltRun := 0, untiltRun := 0 }

/-- An accepted frame (R81, R82, R83, R100). -/
def acceptFrame (i : SensorId) (gap : Bool) (first : Half) (samples : List (Int × Int × Int)) (s : State) : State :=
  let s := s.updSensor i fun r =>
    { (if gap then r.noRuns else r).withConds ({ · with blind := false }) with
      expected := some (first + BitVec.ofNat 16 samples.length), blindDue := some s.blindDeadline }
  handOff i (takeSamples i first samples s)

/-- A SAMPLES frame from a sensor (R81). -/
def samplesFrame (i : SensorId) (first : Half) (samples : List (Int × Int × Int)) (s : State) : State :=
  let r := s.sensors[i]
  if r.enabled = false then s
  else if r.requested.isSome then restartBlind i s
  else match r.expected with
    | none => acceptFrame i false first samples s
    | some e =>
      let diff := (first - e).toNat
      if 32768 ≤ diff then restartBlind i s else acceptFrame i (diff ≠ 0) first samples s

/-! ### Deadlines -/

/-- The debounce deadline expires (R85). -/
def debounceExpired (i : SensorId) (s : State) : State := s.updSensor i fun r => { r with debounceDue := none }

/-- The jolt hold deadline expires (R92). -/
def joltHoldExpired (i : SensorId) (s : State) : State :=
  let was := s.sensors[i].conds.jolt
  let s := s.updSensor i fun r => { r.withConds ({ · with jolt := false }) with joltDue := none }
  if was then handOff i s else s

/-- The blind deadline expires (R95). -/
def blindExpired (i : SensorId) (s : State) : State :=
  if s.sensors[i].conds.blind then s.updSensor i fun r => { r with blindDue := none }
  else
    let s := endFallUnseen i s
    let s := s.updSensor i fun r => { r.noRuns.withConds ({ · with blind := true }) with blindDue := none }
    let captured := s.ffr.isNone
    let s := sensorFault i sensorBlind s
    handOff i (postNotice (.fault (.sensor i) .sensor sensorBlind .none captured s.now) s)

/-! ### Enabling, disabling, rates -/

/-- A sensor is disabled (R96). -/
def disableSensor (i : SensorId) (s : State) : State :=
  let s := endFallUnseen i s
  handOff i (s.updSensor i fun r =>
    { r.noRuns with enabled := false, conds := .clear, fallStart := none, lastHigh := none, debounceDue := none,
                    joltDue := none, blindDue := none, window := List.replicate 16 0, vibSum := 0, expected := none })

/-- A sensor is enabled (R97). -/
def enableSensor (i : SensorId) (s : State) : State :=
  s.updSensor i fun r => { r with enabled := true, blindDue := some s.blindDeadline }

/-- The enabled field as a write gives it (R96, R97). -/
def writeEnabled (i : SensorId) (enabled : Bool) (s : State) : State :=
  if enabled = s.sensors[i].enabled then s else if enabled then enableSensor i s else disableSensor i s

/-- The rate the Sensor table reads: the requested one when present (R77). -/
def SensorRecord.tableRate (r : SensorRecord) : Rate := r.requested.getD r.rate

/-- A RATE exchange for a node (R125). -/
def rateExchange (i : SensorId) (rate : Rate) : Exchange :=
  { kind := .rate, target := .node i, owner := .classifier, payload := [BitVec.ofNat 8 rate.code], rate := rate, bays := [],
    before := .unknown }

/-- A RATE exchange for the node is on the bus and its outcome will be taken (R98; log 22). -/
def State.rateOnBus (s : State) (i : SensorId) : Bool :=
  match s.bus.current with
  | some c => c.ex.target = .node i && !c.disregarded
  | none => false

/-- The RATE exchange of a rate write: into the queued one in place, owed after the current one, or at the Normal tail (R98). -/
def readyRate (i : SensorId) (rate : Rate) (s : State) : State :=
  if s.bus.normal.any (·.target = .node i) then
    s.updBus fun u => { u with normal := u.normal.map fun x => if x.target = .node i then rateExchange i rate else x }
  else if s.rateOnBus i then
    s.updSensor i fun r => { r with furtherRate := true }
  else enqueue (rateExchange i rate) s

/-- The rate field as a write gives it (R98; log 21). -/
def writeRate (i : SensorId) (rate : Rate) (s : State) : State :=
  if rate = s.sensors[i].tableRate then s
  else readyRate i rate (s.updSensor i fun r => { r.noRuns with requested := some rate, expected := none })

/-- A RATE exchange's outcome is taken (R99): `taken` is the rate the node confirmed, if it did. -/
def rateOutcome (i : SensorId) (taken : Option Rate) (s : State) : State :=
  let r := s.sensors[i]
  let s := s.updSensor i fun r => { r with rate := taken.getD r.rate, expected := none, furtherRate := false }
  match r.furtherRate, r.requested with
  | true, some next => enqueue (rateExchange i next) s
  | _, _ => s.updSensor i fun r => { r with requested := none }

/-- Some enabled sensor is Falling: the lowest one (R123). -/
def State.fallingSensor (s : State) : Option SensorId :=
  allSensors.find? fun i => s.sensors[i].enabled && s.sensors[i].conds.falling

/-- MOTION-RESUME clears the latch and hands it over (R100, R123). -/
def clearLatch (s : State) : State :=
  recomputeLevels true { s with latch := none, prot := { s.prot with latchCopy := false } }

end Sys2Proof.Machine
end

