-- ==== Sys2Proof/Machine/Bus.lean ====
section
/-! DEFINITION. The Bay Bus Controller: taking an exchange and its start (R10, R109, R128), attempts and resends (R130, R131),
outcomes (R132 to R135, R137, R113), the all-bays park (R138), and what ends every event: the survey's completion, the budget, the
choice of R128, the transmit arbiter (R148) and the alert line (R182). -/

namespace Sys2Proof.Machine

/-! ### Starting -/

/-- The state a state-changing exchange's start gives the bay, or none where R10 has no row. SPIN and LOAD changed the state at
their admission (R9). -/
def startState : ExKind → BayState → Option BayState
  | .unload, .loaded => some .unloading
  | .unload, .loading => some .unloading
  | .unload, .unreachable => some .unreachable
  | .quickPark, .loaded => some .parking
  | .quickPark, .loading => some .parking
  | .quickPark, .unloading => some .parking
  | .stop, .spinning => some .stopping
  | .stop, .idle => some .stopping
  | .stop, .loading => some .stopping
  | .stop, .loaded => some .stopping
  | .stop, .faulted => some .faulted
  | .stop, .unreachable => some .unreachable
  | .unload, _ => none
  | .quickPark, _ => none
  | .stop, _ => none
  | _, st => some st

/-- The frame of an exchange (R186). -/
def Exchange.frame (x : Exchange) : BusFrame :=
  { destination := x.target.address, kind := x.kind.byte, payload := x.payload }

/-- The current exchange's next attempt is sent (R130). -/
def sendAttempt (s : State) : State :=
  s.updBus fun u =>
    { u with
      current := u.current.map fun c => { c with answerBy := some (s.after Config.answerWindowMs), resendAt := none }
      transaction := .attempt
      sent := u.sent ++ (match u.current with | some c => [c.ex.frame] | none => []) }

/-- A taken exchange becomes current (R128). -/
def makeCurrent (x : Exchange) (s : State) : State :=
  s.updBus fun u =>
    { u with current := some { ex := x, resends := 0, answerBy := none, resendAt := none, disregarded := false,
                               cutShort := false, replaced := false } }

/-- The head's wait deadline becomes absent (R32). -/
def clearWait (b : Bay) (s : State) : State := updHead b (fun r => { r with wait := none }) s

/-- The protective operation takes started yes (R115). -/
def markStarted (b : Bay) (s : State) : State := setSlot b ((s.bay b).slot.map fun op => { op with started := true }) s

/-- A state-changing exchange of a bay starts: the deadline goes, the state before is kept, the state changes, and the owner is
marked (R10, R32, R115). SPIN and LOAD keep the state before their admission. -/
def startBay (b : Bay) (x : Exchange) (st : BayState) (s : State) : State :=
  let x' := if x.kind = .spin ∨ x.kind = .load then x else { x with before := (s.bay b).state }
  let s := sendAttempt (makeCurrent x' s)
  let s := changeState b st (setDeadline b none s)
  match x.owner with
  | .head => clearWait b s
  | .protective => recheckHead b (markStarted b s)
  | _ => s

/-- An exchange that changes no state starts (R32, R128). -/
def startPlain (x : Exchange) (s : State) : State :=
  let s := sendAttempt (makeCurrent x s)
  match x.target, x.owner with
  | .bay b, .head => clearWait b s
  | _, _ => s

/-- An exchange ends unstarted, for want of a row in R10: its owner settles it against the state found (R10). -/
def endUnstarted (b : Bay) (x : Exchange) (s : State) : State :=
  let s := releaseWaiting b s
  match x.owner with
  | .head =>
    match s.head b with
    | none => s
    | some r =>
      if r.phase ≠ .issued then s
      else match headCheck r.kind (s.bay b).state with
        | .complete c => completeHead b (if c.code = .already then .plain .done else c) [] s
        | _ => checkHead b (returnToChecking b s)
  | .protective => placePark b (settleOperation b s)
  | _ => s

/-- A bay of the set of an all-bays QUICKPARK at its send (R138). -/
def parkByGroup (b : Bay) (s : State) : State :=
  if (s.bay b).state.atRisk then
    let s := markStarted b (changeState b .parking s)
    recheckHead b (setDeadline b (some (s.opDeadline b .park true)) s)
  else placePark b (settleOperation b s)

/-- The all-bays QUICKPARK is sent as one transaction; it ends at its send, and what waited behind it moves up (R136, R138).
R138 gives the bays of the set no order; the model starts them in bay index order, and so orders their BAY notices (log 54). -/
def sendGroupPark (x : Exchange) (s : State) : State :=
  let s := s.updBus fun u => { u with transaction := .groupPark, sent := u.sent ++ [x.frame] }
  x.bays.foldl (fun s b => releaseWaiting b (parkByGroup b s)) s

/-- An exchange that has left its queue to be started (R128). The answer tells whether the bus is still free for another. -/
def startTaken (x : Exchange) (s : State) : State :=
  match x.target with
  | .allBays => sendGroupPark x s
  | .node _ => startPlain x s
  | .bay b =>
    if x.kind.stateChanging then
      match startState x.kind (s.bay b).state with
      | some st => startBay b x st s
      | none => endUnstarted b x s
    else startPlain x s

/-- A LOAD or SPIN exchange is blocked while its kind is not permitted at the bay's level (R109). -/
def State.blocked (s : State) (x : Exchange) : Bool :=
  match x.target, x.kind with
  | .bay b, .load => !s.permits b .load
  | .bay b, .spin => !s.permits b .spinUp
  | _, _ => false

/-- Takes the first exchange that may be taken out of a queue. -/
def takeFirst (ok : Exchange → Bool) : List Exchange → Option (Exchange × List Exchange)
  | [] => none
  | x :: xs => if ok x then some (x, xs) else (takeFirst ok xs).map fun p => (p.1, x :: p.2)

/-- The choice of R128: the oldest Urgent exchange, otherwise the oldest Normal one that is not blocked; with the state in which
it has left its queue. -/
def State.choose (s : State) : Option (Exchange × State) :=
  match s.bus.urgent with
  | x :: rest => some (x, s.updBus fun u => { u with urgent := rest })
  | [] => (takeFirst (!s.blocked ·) s.bus.normal).map fun p => (p.1, s.updBus fun u => { u with normal := p.2 })

/-- The bus is free and no exchange is current (R128). -/
def State.mayTake (s : State) : Bool := s.bus.transaction = .free && s.bus.current.isNone

/-- The controller's choice, made again while a taken exchange ends unstarted, at most `fuel` times (R10, R128; log 24). -/
def takeLoop : Nat → State → State
  | 0, s => s
  | fuel + 1, s =>
    if s.mayTake then
      match s.choose with
      | none => s
      | some (x, s) => takeLoop fuel (startTaken x s)
    else s

/-- Waiting exchanges with nothing left before them move up, and the controller makes its choice (R128, R136). The bound counts
every exchange and request that stands, each of which can end unstarted once, and the bays a settled operation can serve. -/
def busChoice (s : State) : State :=
  let s := allBays.foldl (fun s b => releaseWaiting b s) s
  takeLoop (256 + s.bus.urgent.length + s.bus.normal.length) s

/-! ### The end of an event -/

/-- The transmitter takes the next frame when it is free: the oldest reply, otherwise the oldest notice (R148). -/
def transmit (s : State) : State :=
  match s.link.tx with
  | some _ => s
  | none =>
    match s.link.replies with
    | r :: rest => s.updLink fun l => { l with tx := some (.reply r), replies := rest }
    | [] =>
      match s.notices.queue with
      | n :: rest =>
        (s.updLink fun l => { l with tx := some (.notice n) }).updNotices fun q => { q with queue := rest }
      | [] => s

/-- The end of an event that moves neither bays nor budget: the transmit arbiter and the alert line (R148, R182; log 3). -/
def close (s : State) : State := driveAlertLine (transmit s)

/-- The end of an event that began in `s0`: the survey's completion, whose SURVEY notice so comes before the event's BUDGET notice (R25;
log 56); the choice of R128, whose start is the last change of a reservation in the event (R10); the budget, once, on the final sum
(R61); the choice again, for the exchanges that admissions have placed, which change no reservation at their start, and the evaluation of
R68 step 5; the arbiter and the alert line (R148, R182; logs 2, 3, 39). -/
def conclude (s0 s : State) : State :=
  close (evaluateBudget (busChoice (settleBudget s0 (busChoice (completeSurvey s)))))

/-- An event that takes place: the bus frames of the event before it are no longer shown (log 26). -/
def State.begin (s : State) : State := s.updBus fun u => { u with sent := [] }

/-! ### Failures -/

/-- The classes of a Failure (R130). -/
inductive FailClass where
  | noAnswer | check | busy | replyCheckBad
deriving DecidableEq, Repr

/-- The secondary of cause Bus that exhaustion on a class gives (R134, R184). -/
def FailClass.secondary : FailClass → Nat
  | .noAnswer => busNoAnswer
  | .check => busCheckExhausted
  | .busy => busBusyExhausted
  | .replyCheckBad => busReplyCheckBad

/-- The state exhaustion on a class gives the bay (R16, R134). -/
def FailClass.state : FailClass → BayState
  | .noAnswer => .unreachable
  | _ => .faulted

/-- A resend to a bay is counted; a crossing of the threshold queues a RETRY notice (R131, R176, R177). -/
def countRetry (b : Bay) (s : State) : State :=
  let old := (s.bay b).retry
  let new := satSucc old 255
  let s := s.updBay b fun r => { r with retry := new }
  let t := s.timing.retryThreshold
  if old < t ∧ t ≤ new then postNotice (.retry b new t s.now) s else s

/-- The exchange will be resent: its attempt is over and the resend deadline set (R131). -/
def scheduleResend (c : Current) (s : State) : State :=
  let s := s.updBus fun u =>
    { u with transaction := .free
             current := some { c with resends := c.resends + 1, answerBy := none, resendAt := some (s.after Config.resendMs) } }
  match c.ex.target with
  | .bay b => countRetry b s
  | _ => s

/-- An exhausted exchange to a bay: the fault of R16 and the owner's end (R134); a survey QUERY counts its bay (R24). -/
def exhaustBay (b : Bay) (x : Exchange) (f : FailClass) (s : State) : State :=
  let s := faultBay b f.state .bus f.secondary none s
  if x.owner = .survey then countBay b s else s

/-- An attempt of the current exchange ended in Failure (R113, R131, R134, R135, R137). R113 names a NAK and no answer for a replaced
exchange; the model ends it the same way on an answer whose check is bad or whose form is wrong (log 59). -/
def failAttempt (c : Current) (f : FailClass) (s : State) : State :=
  if c.disregarded || c.replaced then endCurrent s
  else if c.cutShort then endCutShortOwner c.ex (endCurrent s)
  else if c.resends < s.timing.retryLimit then scheduleResend c s
  else
    match c.ex.target with
    | .bay b => exhaustBay b c.ex f (endCurrent s)
    | .node i => rateOutcome i none (endCurrent s)
    | .allBays => endCurrent s

/-! ### Answers -/

/-- The operation an exchange's acknowledgement awaits (R11). -/
def ExKind.opKind : ExKind → Option OpKind
  | .spin => some .spinUp
  | .load => some .load
  | .unload => some .unload
  | .quickPark => some .park
  | .stop => some .stop
  | _ => none

/-- An acknowledged state-changing exchange sets the operation deadline (R11). -/
def acknowledge (b : Bay) (k : ExKind) (s : State) : State :=
  match k.opKind with
  | some o => setDeadline b (some (s.opDeadline b o false)) s
  | none => s

/-- The STATUS reply payload of a report taken now (R46, R185). -/
def ownPayload (rep : Report) : List Byte := rep.bytes ++ [yesNo false] ++ leBytes 4 0

/-- A QUERY's report is handed to its owner (R132). -/
def queryReport (b : Bay) (x : Exchange) (rep : Report) (s : State) : State :=
  match x.owner with
  | .head => takeReport b rep (some (ownPayload rep)) s
  | .survey => surveyReport b rep s
  | .followUp => followUpReport b rep s
  | _ => takeReport b rep none s

/-- The payload of an ACK in the form its kind calls for (R130). -/
def ackWellFormed : ExKind → List Byte → Bool
  | .query, p => (reportOf p).isSome
  | .pass, p => p.length ≤ Config.maxPass
  | _, p => p.isEmpty

/-- A Success ends the exchange and is handed to its owner (R132). -/
def succeed (c : Current) (payload : List Byte) (s : State) : State :=
  let s := endCurrent s
  if c.disregarded then s
  else
    match c.ex.target, c.ex.kind with
    | .node i, _ => rateOutcome i (some c.ex.rate) s
    | .allBays, _ => s
    | .bay b, .query =>
      match reportOf payload with
      | some rep => queryReport b c.ex rep s
      | none => s
    | .bay b, .pass => if s.headStarted b then completeHead b (.plain .done) payload s else s
    | .bay b, k => acknowledge b k s

/-- A protective operation that adopted the operation of a head's UNLOAD or STOP ends when the bay refuses that exchange (R112,
R116). -/
def endAdopted (b : Bay) (x : Exchange) (s : State) : State :=
  match (s.bay b).slot with
  | some op => if op.started && (x.kind = .unload || x.kind = .stop) then endProtective b false s else s
  | none => s

/-- A refused head request (R40, R133). -/
def refuseHead (b : Bay) (x : Exchange) (reason : Nat) (s : State) : State :=
  let s := if x.kind.stateChanging then endAdopted b x (refusedReturn b x.before s) else s
  if s.headStarted b then completeHead b { code := .bayRefused, secondary := reason } [] s else recheckHead b s

/-- A survey QUERY refused: Unreachable without a fault, with the effects of R17 (R24; log 23). -/
def refuseSurvey (b : Bay) (s : State) : State :=
  countBay b (endWork b .bus none (changeState b .unreachable s))

/-- A Refused attempt ends the exchange and is handed to its owner (R133). A refused park follow-up faults the bay while the park runs
(R140), and otherwise leaves the state as it was (R16; log 55). -/
def refuse (c : Current) (reason : Nat) (s : State) : State :=
  let s := endCurrent s
  if c.disregarded || c.replaced then s
  else
    match c.ex.target with
    | .node i => rateOutcome i none s
    | .allBays => s
    | .bay b =>
      match c.ex.owner with
      | .head => refuseHead b c.ex reason s
      | .protective => recheckHead b (endProtective b false (refusedReturn b c.ex.before s))
      | .survey => refuseSurvey b s
      | .followUp => if s.parkRuns b then followUpFault b s else s
      | .insertion | .classifier => s

/-- The current exchange, while an attempt of it awaits an answer from this station (R130). -/
def State.awaiting (s : State) (initiator : Byte) : Option Current :=
  s.bus.current.filter fun c => c.answerBy.isSome && c.ex.target.address = initiator

/-- The current exchange's resend deadline is reached and the bus is free (R131). -/
def State.resendDue (s : State) : Bool :=
  match s.bus.current with
  | some c => s.expires c.resendAt && s.bus.transaction = .free
  | none => false

end Sys2Proof.Machine
end

