-- ==== Sys2Proof/Machine/Layout.lean ====
section
/-! DEFINITION. The byte layouts the two wires carry: replies and notices (R184, R185), the part's bay bus frames (R186), the
records of RECORD-READ (R188). A field takes as many little-endian bytes as the layout gives it. -/

namespace Sys2Proof.Machine

/-- One byte of a number. -/
def byte (n : Nat) : Byte := BitVec.ofNat 8 n

/-- Two little-endian bytes. -/
def word2 (n : Nat) : List Byte := leBytes 2 n

/-- Four little-endian bytes. -/
def word4 (n : Nat) : List Byte := leBytes 4 n

/-- A count as four bytes. -/
def countBytes (c : Count) : List Byte := word4 c.toNat

/-- An optional count: 0 when absent (R188). -/
def optCount (c : Option Count) : List Byte := countBytes (c.getD 0)

/-! ### Frames -/

/-- The subject type and index of a fault (R185, R188). -/
def Subject.bytes : Subject → List Byte
  | .bay b => [0, byte b.val]
  | .sensor i => [1, byte i.val]

/-- The fields of a notice after its kind byte (R185). -/
def Notice.fields : Notice → List Byte
  | .bay b st res t => [byte b.val, byte st.code] ++ word2 res ++ countBytes t
  | .fault sub cause sec work captured t =>
    sub.bytes ++ [byte cause.code, byte sec, work.byte, yesNo captured] ++ countBytes t
  | .retry b n th t => [byte b.val, byte n, byte th] ++ countBytes t
  | .level z o n t => [byte z.code, byte o.val, byte n.val] ++ countBytes t
  | .impact i h t => [byte i.val] ++ word2 h ++ countBytes t
  | .lowGLong i h t => [byte i.val] ++ word2 h ++ countBytes t
  | .dip i h t => [byte i.val] ++ word2 h ++ countBytes t
  | .budget over_ c l t => [yesNo over_] ++ word4 c ++ word2 l ++ countBytes t
  | .survey n t => [byte n] ++ countBytes t

/-- The two CRC bytes over the bytes from the length byte on, low byte first (R145, R184). -/
def crcBytes (body : List Byte) : List Byte := word2 (crc16 body).toNat

/-- A frame of the upstream link from its length byte on, with start code and CRC (R184). -/
def linkFrame (body : List Byte) : List Byte := Config.startCode :: body ++ crcBytes body

/-- The bytes of a reply frame (R184). -/
def Reply.frame (r : Reply) : List Byte :=
  linkFrame ([byte r.payload.length, 0x81, r.tag, r.completion.code.byte, byte r.completion.secondary] ++ r.payload)

/-- The bytes of a notice frame (R184, R185). -/
def Notice.frame (n : Notice) : List Byte := linkFrame ([byte n.fields.length, 0x82, byte n.kind.val] ++ n.fields)

/-- The bytes of the frame in transmission (R148). -/
def TxFrame.bytes : TxFrame → List Byte
  | .reply r => r.frame
  | .notice n => n.frame

/-- The bytes of a frame of the part on the bay bus (R186). -/
def BusFrame.bytes (f : BusFrame) : List Byte :=
  let body := [Config.partAddress, f.destination, f.kind, byte f.payload.length] ++ f.payload
  body ++ crcBytes body

/-! ### Case Status -/

/-- The flags byte of the Case Status record (R188). -/
def State.flagsByte (s : State) : Byte :=
  flagByte [s.survey.running, s.adm.overBudget, s.adm.staggerDue.isSome, s.latch.isSome, s.ffr.isSome, s.notices.dropped,
            s.alertLine]

/-- The impact record (R188). -/
def impactBytes : Option ImpactRecord → List Byte
  | some r => [byte r.sensor.val] ++ word2 r.height ++ countBytes r.time
  | none => [0, 0, 0, 0, 0, 0, 0]

/-- Group records in use (R49). -/
def State.groupsInUse (s : State) : Nat := (s.groups.toList.filter (·.isSome)).length

/-- The five zone levels and the Case Alert Level (R188). -/
def ZoneLevels.bytes (z : ZoneLevels) : List Byte :=
  [byte z.sensor[0].val, byte z.sensor[1].val, byte z.sensor[2].val, byte z.sensor[3].val, byte z.all.val, byte z.case.val]

/-- The Case Status record (R153, R188). -/
def State.caseStatus (s : State) : List Byte :=
  countBytes s.now ++ [s.flagsByte, s.sourcesByte] ++ word2 s.adm.limit ++ [byte s.adm.margin] ++ word2 s.adm.effLimit
    ++ word4 s.adm.committed ++ optCount s.adm.staggerDue ++ [byte s.adm.queue.length] ++ s.prot.levels.bytes
    ++ impactBytes s.latch
    ++ [byte s.bus.urgent.length, byte s.bus.normal.length, byte s.groupsInUse, byte s.notices.queue.length]
    ++ word2 s.link.drops

/-! ### Bay Record -/

/-- Phase codes (R188). -/
def Phase.code : Phase → Nat
  | .queued => 0 | .checking => 1 | .deferred => 2 | .admitting => 3 | .issued => 4

/-- Source, tag and group-member mark of a queue entry (R188). A part-originated entry has no tag, which is
sent as 0 (R29, R188). -/
def Origin.fields : Origin → Byte × Byte × Bool
  | .upstream src tag g => (byte src.val, tag, g.isSome)
  | .part => (0xFF, 0, false)

/-- A queue entry, 8 bytes (R188). -/
def Request.bytes (r : Request) : List Byte :=
  [r.kind.byte, r.origin.fields.1, r.origin.fields.2.1,
   byte (r.phase.code + (if r.origin.fields.2.2 then 64 else 0) + (if r.wait.isSome then 128 else 0))] ++ optCount r.wait

/-- The four queue entries, absent ones as 0 (R188). -/
def queueBytes (q : List Request) : List Byte := (q.flatMap Request.bytes ++ List.replicate 32 0).take 32

/-- The protective operation (R188). -/
def slotBytes : Option ProtOp → List Byte
  | some op => [byte op.kind.code, byte op.level.val, flagByte [op.started, op.stopPhase]]
  | none => [0, 0, 0]

/-- The operation deadline (R188). -/
def deadlineBytes : Option OpDeadline → List Byte
  | some d => [byte (d.kind.code + if d.group then 128 else 0)] ++ countBytes d.due
  | none => [0, 0, 0, 0, 0]

/-- The last fault (R188). -/
def lastFaultBytes : Option LastFault → List Byte
  | some f => [byte f.cause.code, byte f.secondary] ++ countBytes f.time
  | none => [0, 0, 0, 0, 0, 0]

/-- The status cache (R188). -/
def cacheBytes : Option Cache → List Byte
  | some c => [1] ++ c.report.bytes ++ countBytes c.time
  | none => [0, 0, 0, 0, 0, 0, 0, 0]

/-- The reservation holder (R188). -/
def holderByte : Option Source → Byte
  | some h => byte h.val
  | none => 0xFF

/-- The Bay Record (R188). -/
def BayRecord.bytes (r : BayRecord) : List Byte :=
  [byte r.state.code, byte r.cls.val, byte r.zone.code] ++ word2 r.reservation ++ [holderByte r.holder]
    ++ [byte r.sweepLevel.val, yesNo r.restoreIntent, byte r.retry] ++ slotBytes r.slot ++ deadlineBytes r.deadline
    ++ lastFaultBytes r.lastFault ++ cacheBytes r.cache ++ [byte r.queue.length] ++ queueBytes r.queue

/-! ### Sensor Record -/

/-- The presence bits of a Sensor Record (R188). -/
def SensorRecord.presence (r : SensorRecord) : Byte :=
  flagByte [r.expected.isSome, r.fallStart.isSome, r.lastHigh.isSome, r.debounceDue.isSome, r.joltDue.isSome, r.blindDue.isSome,
            r.lastSample.isSome, r.lastFall.isSome]

/-- An optional sample counter: 0 when absent (R188). -/
def optHalf (h : Option Half) : List Byte := word2 (h.getD 0).toNat

/-- A signed 2-byte field (R186, R188). -/
def signedBytes (v : Int) : List Byte := word2 (v % 65536).toNat

/-- The last sample (R188). -/
def sampleBytes : Option Sample → List Byte
  | some p => word2 p.counter.toNat ++ signedBytes p.x ++ signedBytes p.y ++ signedBytes p.z
  | none => [0, 0, 0, 0, 0, 0, 0, 0]

/-- Codes of the results of a fall (R188). -/
def FallResult.code : FallResult → Nat
  | .dip => 1 | .impact => 2 | .lowGLong => 3

/-- The last fall (R188). -/
def lastFallBytes : Option LastFall → List Byte
  | some f => word2 f.height ++ [byte f.result.code]
  | none => [0, 0, 0]

/-- The requested rate (R188). -/
def requestedByte : Option Rate → Byte
  | some r => byte r.code
  | none => 0xFF

/-- The Sensor Record (R188). -/
def SensorRecord.bytes (r : SensorRecord) : List Byte :=
  [yesNo r.enabled, byte r.rate.code, requestedByte r.requested, r.presence, r.conds.byte] ++ optHalf r.expected
    ++ word2 r.lowRun ++ word2 r.highRun ++ word2 r.tiltRun ++ word2 r.untiltRun ++ optHalf r.fallStart
    ++ optCount r.lastHigh ++ optCount r.debounceDue ++ optCount r.joltDue ++ optCount r.blindDue
    ++ sampleBytes r.lastSample ++ lastFallBytes r.lastFall ++ word4 r.vibSum ++ r.window.flatMap word4

/-! ### First Fault Record and Admission Queue -/

/-- The First Fault Record (R188). -/
def firstFaultBytes : Option FirstFault → List Byte
  | some f =>
    [1] ++ f.subject.bytes ++ [byte f.cause.code, byte f.secondary, f.work.byte] ++ countBytes f.time ++ [byte f.later]
  | none => [0, 0, 0, 0, 0, 0, 0, 0, 0, 0, 0]

/-- The Admission Queue record (R62, R188). -/
def State.admissionBytes (s : State) : List Byte := byte s.adm.queue.length :: s.adm.queue.map fun e => byte e.bay.val

/-! ### Table entries -/

/-- A Profile Table entry (R187). -/
def Profile.bytes (p : Profile) : List Byte :=
  word2 p.peak ++ word2 p.idle ++ word2 p.active ++ word2 p.surge ++ word2 p.spinUpTime ++ word2 p.loadTime
    ++ word2 p.unloadTime ++ word2 p.parkTime ++ word2 p.stopTime

/-- The Motion Thresholds record; a stored TiltC of 65,536 reads 65,535 (R187). -/
def Thresholds.bytes (t : Thresholds) : List Byte :=
  word2 t.lowG ++ word2 t.nLow ++ word2 t.highG ++ word2 t.nHigh ++ word2 t.joltHold ++ word2 t.debounce ++ word2 t.fallMin
    ++ word2 t.fallMax ++ word2 t.vOn ++ word2 t.vOff ++ word2 (min t.tiltC 65535) ++ word2 t.nTilt ++ word2 t.blindTime

/-- A Level Action entry (R187). -/
def ActionEntry.bytes (e : ActionEntry) : List Byte := [byte e.action.code, yesNo e.loadPermit, yesNo e.spinPermit]

/-- A window (R187). -/
def Window.bytes (w : Window) : List Byte := [yesNo w.enabled, w.sources, byte w.base, byte w.span, w.perms]

/-- The Timing record (R187); the bus settle interval reads 200 ms (R151, R152). -/
def Timing.bytes (t : Timing) : List Byte :=
  word2 t.stagger ++ word4 t.waitLimit ++ word2 t.freshness
    ++ [byte t.retryLimit, byte t.retryThreshold, byte t.alertThreshold, byte t.restoreCeiling, t.alertMask.setWidth 8]
    ++ word2 Config.settleMs

end Sys2Proof.Machine
end

