-- ==== Sys2Proof/Machine/Resets.lean ====
section
/-! DEFINITION. The soft reset taking place (R156, R157), with the state each chapter gives for it (R3, R54, R75, R78, R124, R144,
R173, R180). -/

namespace Sys2Proof.Machine

/-- A Bay Record after a soft reset: class and zone kept, Unknown at the Peak of its class (R3). -/
def BayRecord.softReset (p : Profile) (r : BayRecord) : BayRecord :=
  { BayRecord.reset with cls := r.cls, zone := r.zone, reservation := p.reservation .unknown }

/-- A Sensor Record after a soft reset: enabled field and rate in force kept (R78). -/
def SensorRecord.softReset (blindDue : Count) (r : SensorRecord) : SensorRecord :=
  { SensorRecord.reset with
    enabled := r.enabled, rate := r.rate, blindDue := if r.enabled then some blindDue else none }

/-- The Bay Bus Controller after a soft reset: a current exchange is disregarded, and one in a resend gap ends (R144). -/
def BusController.softReset (u : BusController) : BusController :=
  { u with
    urgent := [], normal := []
    current := (u.current.filter fun c => c.resendAt.isNone).map fun c => { c with disregarded := true } }

/-- The Bay Records after a soft reset. -/
def State.softBays (s : State) : Vector BayRecord 24 := s.bays.map fun r => r.softReset s.adm.profiles[r.cls]

/-- The sum of the reservation currents of Bay Records (R60). -/
def sumReservations (bays : Vector BayRecord 24) : Nat := (bays.toList.map (·.reservation)).sum

/-- The Protection Unit after a soft reset (R124). -/
def Protection.softReset (p : Protection) (sensors : Vector SensorRecord 4) : Protection :=
  { p with
    copies := sensors.map fun r => { enabled := r.enabled, conds := .clear }
    latchCopy := false
    levels := { sensor := Vector.replicate 4 0, all := 0 } }

/-- The soft reset takes place (R156). The over-budget condition is first set to within budget, then evaluated (R72, R75). -/
def softReset (s : State) : State :=
  evaluateBudget
    { s with
      groups := Vector.replicate 8 none
      bays := s.softBays
      survey := { running := true, settle := some (s.after Config.settleMs) }
      adm := { s.adm with effLimit := effectiveLimit s.adm.limit s.adm.margin, committed := sumReservations s.softBays,
                          queue := [], lastSpin := none, staggerDue := none, overBudget := false }
      sensors := s.sensors.map (·.softReset (s.after (Config.settleMs + s.thresholds.blindTime)))
      latch := none
      prot := s.prot.softReset s.sensors
      bus := s.bus.softReset
      ffr := none
      notices := { s.notices with queue := [], dropped := false }
      link := { s.link with resetPending := false } }

end Sys2Proof.Machine
end

