-- ==== Sys2Proof/Machine/Acceptance.lean ====
section
/-! DEFINITION. Request Acceptance for requests to bays: access windows and reservations (R158, R159, R163 to R165), the checks of
R27 on one bay, STATUS from the cache (R45), and group requests (R49, R50, R52, R168). -/

namespace Sys2Proof.Machine

/-! ### Access -/

/-- A window contains a bay (R159). -/
def Window.contains (w : Window) (b : Bay) : Bool := w.base ≤ b.val && b.val ≤ w.base + w.span

/-- The permissions of a window, by bit (R187). -/
def permGovern : Nat := 0
def permPass : Nat := 1
def permReserve : Nat := 2
def permStatus : Nat := 3

/-- The permission a queued kind needs (R159). -/
def ReqKind.permission : ReqKind → Nat
  | .pass => permPass
  | .status => permStatus
  | _ => permGovern

/-- The window check: whether the source may send a kind that needs permission `perm` to the bay (R159). -/
def State.windowAllows (s : State) (src : Source) (perm : Nat) (b : Bay) : Bool :=
  !s.windows.toList.any (·.enabled)
    || s.windows.toList.any fun w => w.enabled && w.contains b && w.sources.getLsbD src.val && w.perms.getLsbD perm

/-- Reserved, with the holder's source ID (R44). -/
def reservedBy (t : Source) : Completion := { code := .reserved, secondary := t.val }

/-- Check 4 for governed requests and PASS: the holder that stands in the way (R27, R165). -/
def State.otherHolder (s : State) (k : ReqKind) (src : Source) (b : Bay) : Option Source :=
  if k = .status then none else (s.bay b).holder.filter (· ≠ src)

/-- Checks 3, 4 and 5 on one bay: the first that fails decides (R27). -/
def State.accessFailure (s : State) (k : ReqKind) (src : Source) (b : Bay) : Option Completion :=
  if s.windowAllows src k.permission b = false then some (.plain .denied)
  else match s.otherHolder k src b with
    | some t => some (reservedBy t)
    | none => if (s.bay b).state = .empty then some (.plain .bayEmpty) else none

/-- Check 7 (R27). -/
def State.queueFull (s : State) (b : Bay) : Bool := Config.bayQueuePlaces ≤ (s.bay b).queue.length

/-- Checks 3, 4, 5 and 7 on one bay (R27, R50). -/
def State.memberFailure (s : State) (k : ReqKind) (src : Source) (b : Bay) : Option Completion :=
  match s.accessFailure k src b with
  | some c => some c
  | none => if s.queueFull b then some (.plain .queueFull) else none

/-! ### One bay -/

/-- The queue entry of an accepted request (R29). -/
def entryOf (k : ReqKind) (src : Source) (tag : Byte) (group : Option (Fin 8)) (payload : List Byte) : Request :=
  { kind := k, origin := .upstream src tag group, payload := payload, phase := .queued, wait := none }

/-- An accepted request joins its bay queue; a governed one sets restore intent to no (R29). -/
def acceptRequest (b : Bay) (r : Request) (s : State) : State :=
  appendRequest b r (if r.kind.governed then s.updBay b fun e => { e with restoreIntent := false } else s)

/-- The report a STATUS is served with from the cache, and its age (R45). -/
def State.freshCache (s : State) (b : Bay) : Option (Report × Nat) :=
  let r := s.bay b
  match r.cache with
  | some c =>
    if s.timing.freshness ≠ 0 ∧ s.age c.time ≤ s.timing.freshness ∧ r.queue.isEmpty ∧ r.slot.isNone then
      some (c.report, s.age c.time)
    else none
  | none => none

/-- The payload of a STATUS reply served from the cache (R45, R185). -/
def cachePayload (rep : Report) (age : Nat) : List Byte := rep.bytes ++ [yesNo true] ++ leBytes 4 age

/-- A queued kind to one bay, checks 3 to 7 (R27, R45). A refused STATUS or PASS carries no payload (log 52). -/
def requestOne (k : ReqKind) (src : Source) (tag : Byte) (payload : List Byte) (b : Bay) (s : State) : State :=
  match s.accessFailure k src b with
  | some c => placeReply (replyTo tag c []) s
  | none =>
    match (if k = .status then s.freshCache b else none) with
    | some (rep, age) => placeReply (replyTo tag (.plain .done) (cachePayload rep age)) s
    | none =>
      if s.queueFull b then placeReply (replyTo tag (.plain .queueFull) []) s
      else acceptRequest b (entryOf k src tag none payload) s

/-! ### Groups -/

/-- A free group record. A group request takes any (R49), here the lowest-indexed one (DESIGN CHOICE, log 50). -/
def State.freeGroup (s : State) : Option (Fin 8) :=
  [(0 : Fin 8), 1, 2, 3, 4, 5, 6, 7].find? fun g => s.groups[g].isNone

/-- The members of a group request, each with the check it fails (R50). -/
def State.groupMembers (s : State) (k : ReqKind) (src : Source) (bays : List Bay) : List Member :=
  bays.map fun b => { bay := b, result := s.memberFailure k src b }

/-- Members with no result take one. -/
def fillResults (c : Completion) (ms : List Member) : List (Bay × Completion) := ms.map fun m => (m.bay, m.result.getD c)

/-- A governed kind to a row or to all bays (R50, R52). -/
def requestGroup (k : ReqKind) (src : Source) (tag : Byte) (bays : List Bay) (s : State) : State :=
  let ms := s.groupMembers k src bays
  let queued := ms.filter (·.result.isNone)
  if queued.isEmpty then placeReply (groupReply tag (fillResults (.plain .busy) ms)) s
  else match s.freeGroup with
    | none => placeReply (groupReply tag (fillResults (.plain .busy) ms)) s
    | some g =>
      let s := { s with groups := s.groups.set g (some { tag := tag, members := ms, outstanding := queued.length }) }
      queued.foldl (fun s m => acceptRequest m.bay (entryOf k src tag (some g) []) s) s

/-- A queued kind to its target (R27, R50). -/
def requestBays (k : ReqKind) (src : Source) (tag : Byte) (payload : List Byte) (t : ReqTarget) (s : State) : State :=
  match t with
  | .bay b => requestOne k src tag payload b s
  | .row r => requestGroup k src tag (targetBays (.row r)) s
  | .all => requestGroup k src tag allBays s
  | .part => s

/-! ### RESERVE and RELEASE -/

/-- What a RESERVE is decided to on one bay, checks 3 and 5 included (R163). -/
def State.reserveResult (s : State) (src : Source) (b : Bay) : Completion :=
  if s.windowAllows src permReserve b = false then .plain .denied
  else if (s.bay b).state = .empty then .plain .bayEmpty
  else match (s.bay b).holder with
    | none => .plain .done
    | some t => if t = src then .plain .already else reservedBy t

/-- What a RELEASE is decided to on one bay, check 3 included (R164). -/
def State.releaseResult (s : State) (src : Source) (b : Bay) : Completion :=
  if s.windowAllows src permReserve b = false then .plain .denied
  else match (s.bay b).holder with
    | none => .plain .already
    | some t => if t = src then .plain .done else reservedBy t

/-- Sets a bay's reservation holder (R162). -/
def setHolder (b : Bay) (h : Option Source) (s : State) : State := s.updBay b fun r => { r with holder := h }

/-- A RESERVE applied at one bay (R163). -/
def reserveOne (src : Source) (b : Bay) (s : State) : State :=
  if s.reserveResult src b = .plain .done then setHolder b (some src) s else s

/-- A RELEASE applied at one bay (R164). -/
def releaseOne (src : Source) (b : Bay) (s : State) : State :=
  if s.releaseResult src b = .plain .done then setHolder b none s else s

/-- The reply to a request decided member by member at acceptance: plain for one bay, in the group form otherwise (R48, R52,
R168). -/
def decidedReply (tag : Byte) (t : ReqTarget) (ms : List (Bay × Completion)) : Reply :=
  match t, ms with
  | .bay _, [m] => replyTo tag m.2 []
  | _, _ => groupReply tag ms

/-- A RESERVE to its target; no member's decision touches another bay (R48, R163, R168). -/
def reserveBays (src : Source) (tag : Byte) (t : ReqTarget) (s : State) : State :=
  placeReply (decidedReply tag t ((targetBays t).map fun b => (b, s.reserveResult src b)))
    ((targetBays t).foldl (fun s b => reserveOne src b s) s)

/-- A RELEASE to its target (R48, R164, R168). -/
def releaseBays (src : Source) (tag : Byte) (t : ReqTarget) (s : State) : State :=
  placeReply (decidedReply tag t ((targetBays t).map fun b => (b, s.releaseResult src b)))
    ((targetBays t).foldl (fun s b => releaseOne src b s) s)

end Sys2Proof.Machine
end

