-- ==== Sys2Proof/Machine/Management.lean ====
section
/-! DEFINITION. Management requests after their form has been checked: the manage flag (R149, R161), the ten tables (R150 to R152
and the rules they name), the five records (R153), and the short requests (R59, R123, R154 to R156, R167). -/

namespace Sys2Proof.Machine

/-! ### Replies -/

/-- A management request refused with a code and secondary, and an empty payload, whatever its kind (R185; DEDUCED, log 52). -/
def refuseWith (tag : Byte) (c : Code) (secondary : Nat) (s : State) : State :=
  placeReply (replyTo tag { code := c, secondary := secondary } []) s

/-- A management request answered Done with a payload. -/
def answerDone (tag : Byte) (payload : List Byte) (s : State) : State := placeReply (replyTo tag (.plain .done) payload) s

/-- Answers a request whose content names a value no rule takes (R149 step 3). -/
def refuseValue (tag : Byte) (s : State) : State := refuseWith tag .badRequest badValue s

/-- The source's manage flag (R161). -/
def State.manages (s : State) (src : Source) : Bool := s.sources[src]

/-! ### Table entries as written -/

/-- The time fields of a Profile Table entry: 0 is stored as 1, above 60,000 as 60,000 (R56). -/
def clampTime (n : Nat) : Nat := max 1 (min n 60000)

/-- The currents of a Profile Table entry normalized (R56). -/
def normalizeProfile (p : Profile) : Profile :=
  let idle := min p.idle p.peak
  { p with idle := idle, active := min (max p.active idle) p.peak, surge := min p.surge (p.peak - idle) }

/-- A Profile Table entry as stored from its 18 bytes (R56, R187). -/
def profileFrom (e : List Byte) : Profile :=
  normalizeProfile
    { peak := fieldAt e 0 2, idle := fieldAt e 2 2, active := fieldAt e 4 2, surge := fieldAt e 6 2,
      spinUpTime := clampTime (fieldAt e 8 2), loadTime := clampTime (fieldAt e 10 2), unloadTime := clampTime (fieldAt e 12 2),
      parkTime := clampTime (fieldAt e 14 2), stopTime := clampTime (fieldAt e 16 2) }

/-- A value clamped into a range (R79). -/
def clampTo (lo hi n : Nat) : Nat := max lo (min n hi)

/-- The TiltC a field stands for (R187). -/
def tiltFrom (n : Nat) : Nat := if n = 65535 then 65536 else n

/-- The Motion Thresholds record as stored from its 26 bytes (R79, R187). -/
def thresholdsFrom (e : List Byte) : Thresholds :=
  let fallMin := fieldAt e 12 2
  let vOn := fieldAt e 16 2
  { lowG := clampTo 1 1023 (fieldAt e 0 2), nLow := clampTo 1 32 (fieldAt e 2 2), highG := clampTo 1024 32767 (fieldAt e 4 2),
    nHigh := clampTo 1 8 (fieldAt e 6 2), joltHold := min (fieldAt e 8 2) 10000, debounce := min (fieldAt e 10 2) 3000,
    fallMin := fallMin, fallMax := max (fieldAt e 14 2) fallMin, vOn := vOn, vOff := min (fieldAt e 18 2) vOn,
    tiltC := tiltFrom (fieldAt e 20 2), nTilt := clampTo 1 1000 (fieldAt e 22 2), blindTime := clampTo 10 1000 (fieldAt e 24 2) }

/-- A Span rounded down to 2^k − 1, after the clamp to 31 (R158). -/
def spanFrom (n : Nat) : Nat :=
  if 31 ≤ n then 31 else if 15 ≤ n then 15 else if 7 ≤ n then 7 else if 3 ≤ n then 3 else if 1 ≤ n then 1 else 0

/-- A Base with its k lowest places cleared (R158). -/
def baseFrom (base span : Nat) : Nat := base / (span + 1) * (span + 1)

/-- A window as stored, or none where a field fails with Value (R158, R187). -/
def windowFrom (e : List Byte) : Option Window :=
  match e with
  | [en, src, base, span, perms] =>
    if 1 < en.toNat ∨ 31 < base.toNat ∨ 15 < perms.toNat then none
    else some { enabled := en = 1, sources := src, base := baseFrom base.toNat (spanFrom span.toNat),
                span := spanFrom span.toNat, perms := perms }
  | _ => none

/-- The Timing record as stored from its 15 bytes (R152, R187). -/
def timingFrom (e : List Byte) : Timing :=
  { stagger := min (fieldAt e 0 2) 10000, waitLimit := min (fieldAt e 2 4) 600000, freshness := min (fieldAt e 6 2) 60000,
    retryLimit := min (fieldAt e 8 1) 7, retryThreshold := max 1 (fieldAt e 9 1), alertThreshold := clampTo 1 7 (fieldAt e 10 1),
    restoreCeiling := min (fieldAt e 11 1) 7, alertMask := BitVec.ofNat 4 (fieldAt e 12 1) }

/-! ### Tables -/

/-- The entry length of a table (R150). -/
def tableLength (id : Byte) : Option Nat :=
  match id.toNat with
  | 1 => some 18
  | 2 => some 2
  | 3 => some 1
  | 4 => some 3
  | 5 => some 2
  | 6 => some 26
  | 7 => some 5
  | 8 => some 1
  | 9 => some 1
  | 10 => some 15
  | _ => none

/-- The number of entries of a table (R150). -/
def tableEntries (id : Byte) : Nat :=
  match id.toNat with
  | 1 => 8
  | 2 => 24
  | 3 => 6
  | 4 => 8
  | 5 => 4
  | 6 => 1
  | 7 => 8
  | 8 => 8
  | 9 => 9
  | 10 => 1
  | _ => 0

/-- An entry as TABLE-READ returns it (R151, R187), for a table and an index in its range. -/
def State.tableEntry (s : State) (id : Byte) (index : Nat) : List Byte :=
  match id.toNat with
  | 1 => if h : index < 8 then (s.adm.profiles[index]).bytes else []
  | 2 => if h : index < 24 then [byte (s.bays[index]).cls.val, byte (s.bays[index]).zone.code] else []
  | 3 => if h : index < 6 then [byte (s.prot.map[index]).val] else []
  | 4 => if h : index < 8 then (s.prot.actions[index]).bytes else []
  | 5 => if h : index < 4 then [yesNo (s.sensors[index]).enabled, byte (s.sensors[index]).tableRate.code] else []
  | 6 => s.thresholds.bytes
  | 7 => if h : index < 8 then (s.windows[index]).bytes else []
  | 8 => if h : index < 8 then [yesNo s.sources[index]] else []
  | 9 => if h : index < 9 then [yesNo s.notices.routing[index]] else []
  | 10 => s.timing.bytes
  | _ => []

/-- The reply to a TABLE-WRITE or TABLE-READ: table ID, index, the entry as it stands (R185). -/
def answerEntry (tag id index : Byte) (s : State) : State :=
  answerDone tag ([id, index] ++ s.tableEntry id index.toNat) s

/-- The reservation current of a bay recomputed from its state and its class's profile (R7, R57). -/
def recomputeReservation (b : Bay) (s : State) : State :=
  setReservation b ((s.profileOf b).reservation (s.bay b).state) s

/-- A Profile Table entry is stored and its effects carried out (R56, R57). -/
def writeProfile (i : Fin 8) (p : Profile) (s : State) : State :=
  let s := s.updAdm fun a => { a with profiles := a.profiles.set i p }
  settleForced (allBays.foldl (fun s b => if (s.bay b).cls = i then recomputeReservation b s else s) s)

/-- A bay's class as a write gives it (R4). The event's end evaluates and examines, whatever the direction (`settleBudget`). -/
def writeClass (b : Bay) (c : Fin 8) (s : State) : State :=
  if (s.bay b).cls = c then s
  else recomputeReservation b (s.updBay b fun r => { r with cls := c })

/-- A bay's zone as a write gives it (R4, R105). -/
def writeZone (b : Bay) (z : Zone) (s : State) : State :=
  let old := s.level b
  let s := s.updBay b fun r => { r with zone := z }
  if s.level b = old ∨ (s.bay b).state = .empty then s else carryOut true [(b, old)] s

/-- A Level Map entry as a write gives it (R102, R121). -/
def writeLevelMap (i : Fin 6) (l : Level) (s : State) : State :=
  recomputeLevels false { s with prot := { s.prot with map := s.prot.map.set i l } }

/-- A Level Action entry as a write gives it (R107, R122). R122 gives the re-checks and the restore checks no order between them; the
model makes all re-checks first (log 58). -/
def writeLevelAction (i : Fin 8) (e : ActionEntry) (s : State) : State :=
  let s := { s with prot := { s.prot with actions := s.prot.actions.set i e } }
  let s := allBays.foldl (fun s b => recheckDeferred b s) s
  allBays.foldl (fun s b => restoreNow b s) s

/-- A closed stagger under a new interval (R66). -/
def restagger (s : State) : State :=
  match s.adm.staggerDue, s.adm.lastSpin with
  | some _, some t =>
    if s.timing.stagger ≤ s.age t then settleForced (s.updAdm fun a => { a with staggerDue := none })
    else s.updAdm fun a => { a with staggerDue := some (t + BitVec.ofNat 32 s.timing.stagger) }
  | _, _ => s

/-- The Timing record as a write gives it (R66, R122, R152). -/
def writeTiming (t : Timing) (s : State) : State :=
  let old := s.timing
  let s := { s with timing := t }
  let s := if t.stagger = old.stagger then s else restagger s
  if t.restoreCeiling = old.restoreCeiling then s else allBays.foldl (fun s b => restoreNow b s) s

/-- A sensor's entry written: refused while it falls and the rate would change, otherwise taken, the enabled field before the rate
(R96 to R98; log 44). -/
def writeSensor (tag id index : Byte) (i : SensorId) (enabled : Bool) (rate : Rate) (s : State) : State :=
  if rate ≠ s.sensors[i].tableRate ∧ s.sensors[i].conds.falling then refuseWith tag .refusedState i.val s
  else answerEntry tag id index (writeRate i rate (writeEnabled i enabled s))

/-- A source's manage flag written: the last manager stays (R161). -/
def writeSource (tag id index : Byte) (i : Source) (flag : Bool) (s : State) : State :=
  if (s.sources.set i flag).toList.any (·) then answerEntry tag id index { s with sources := s.sources.set i flag }
  else refuseWith tag .refusedState 0 s

/-- The entry bytes of a write carried out, for an index in the table's range: steps 3 to 5 of R149 (R150). -/
def writeEntry (tag id index : Byte) (e : List Byte) (s : State) : State :=
  let n := index.toNat
  match id.toNat with
  | 1 => if h : n < 8 then answerEntry tag id index (writeProfile ⟨n, h⟩ (profileFrom e) s) else s
  | 2 =>
    if h : n < 24 then
      match (if hc : (e.headD 0).toNat < 8 then some (⟨(e.headD 0).toNat, hc⟩ : Fin 8) else none),
            zoneOf (e.getD 1 0) with
      | some c, some z => answerEntry tag id index (writeZone ⟨n, h⟩ z (writeClass ⟨n, h⟩ c s))
      | _, _ => refuseValue tag s
    else s
  | 3 =>
    if h : n < 6 then answerEntry tag id index (writeLevelMap ⟨n, h⟩ ⟨min (e.headD 0).toNat 7, by omega⟩ s) else s
  | 4 =>
    if h : n < 8 then
      match actionOf (e.headD 0) with
      | some a =>
        answerEntry tag id index (writeLevelAction ⟨n, h⟩ ⟨a, lenient (e.getD 1 0), lenient (e.getD 2 0)⟩ s)
      | none => refuseValue tag s
    else s
  | 5 =>
    if h : n < 4 then
      match rateOf (e.getD 1 0) with
      | some r => writeSensor tag id index ⟨n, h⟩ (lenient (e.headD 0)) r s
      | none => refuseValue tag s
    else s
  | 6 => answerEntry tag id index { s with thresholds := thresholdsFrom e }
  | 7 =>
    if h : n < 8 then
      match windowFrom e with
      | some w => answerEntry tag id index { s with windows := s.windows.set n w }
      | none => refuseValue tag s
    else s
  | 8 => if h : n < 8 then writeSource tag id index ⟨n, h⟩ (lenient (e.headD 0)) s else s
  | 9 =>
    if h : n < 9 then
      answerEntry tag id index (s.updNotices fun q => { q with routing := q.routing.set n (lenient (e.headD 0)) })
    else s
  | 10 => answerEntry tag id index (writeTiming (timingFrom e) s)
  | _ => s

/-- TABLE-WRITE after steps 1 and 2: the index, then the entry (R149, R150). -/
def serveTableWrite (tag : Byte) (payload : List Byte) (s : State) : State :=
  let id := payload.headD 0
  let index := payload.getD 1 0
  if tableEntries id ≤ index.toNat then refuseWith tag .badRequest badIndex s
  else writeEntry tag id index (payload.drop 2) s

/-- TABLE-READ after steps 1 and 2 (R149, R151). -/
def serveTableRead (tag : Byte) (payload : List Byte) (s : State) : State :=
  let id := payload.headD 0
  let index := payload.getD 1 0
  if tableEntries id ≤ index.toNat then refuseWith tag .badRequest badIndex s else answerEntry tag id index s

/-! ### Records -/

/-- The number of records under an ID, 0 where it names none (R153). -/
def recordCount (id : Byte) : Nat :=
  match id.toNat with
  | 0 => 1
  | 1 => 24
  | 2 => 4
  | 3 => 1
  | 4 => 1
  | _ => 0

/-- A record as it stands (R153, R188). -/
def State.record (s : State) (id : Byte) (index : Nat) : List Byte :=
  match id.toNat with
  | 0 => s.caseStatus
  | 1 => if h : index < 24 then (s.bays[index]).bytes else []
  | 2 => if h : index < 4 then (s.sensors[index]).bytes else []
  | 3 => firstFaultBytes s.ffr
  | 4 => s.admissionBytes
  | _ => []

/-- A read of the Case Status record clears the notices-dropped flag and the link drop count (R153, R180). -/
def clearAfterRead (id : Byte) (s : State) : State :=
  if id = 0 then (s.updNotices fun q => { q with dropped := false }).updLink fun l => { l with drops := 0 } else s

/-- RECORD-READ after steps 1 and 2 (R149, R153). -/
def serveRecordRead (tag : Byte) (payload : List Byte) (s : State) : State :=
  let id := payload.headD 0
  let index := payload.getD 1 0
  if recordCount id ≤ index.toNat then refuseWith tag .badRequest badIndex s
  else clearAfterRead id (answerDone tag ([id, index] ++ s.record id index.toNat) s)

/-! ### The short requests -/

/-- The supply settings as SUPPLY-SET gives them (R58, R59). -/
def setSupply (limit margin : Nat) (s : State) : State :=
  settleForced (s.updAdm fun a =>
    { a with limit := min limit 60000, margin := min margin 50, effLimit := effectiveLimit (min limit 60000) (min margin 50) })

/-- SUPPLY-SET (R59, R155). -/
def serveSupplySet (tag : Byte) (payload : List Byte) (s : State) : State :=
  let s := setSupply (fieldAt payload 0 2) (fieldAt payload 2 1) s
  answerDone tag (word2 s.adm.limit ++ [byte s.adm.margin] ++ word2 s.adm.effLimit) s

/-- FAULT-RELEASE (R154, R175). -/
def serveFaultRelease (tag : Byte) (s : State) : State :=
  placeReply (replyTo tag (.plain (if s.ffr.isSome then .done else .already)) (firstFaultBytes s.ffr)) { s with ffr := none }

/-- A retry counter cleared (R154, R176). -/
def clearRetry (b : Bay) (s : State) : State := s.updBay b fun r => { r with retry := 0 }

/-- COUNTER-CLEAR (R154). -/
def serveCounterClear (tag : Byte) (payload : List Byte) (s : State) : State :=
  let n := (payload.headD 0).toNat
  if h : n < 24 then answerDone tag [] (clearRetry ⟨n, h⟩ s)
  else if n = 255 then answerDone tag [] (allBays.foldl (fun s b => clearRetry b s) s)
  else refuseValue tag s

/-- RESERVATIONS-CLEAR (R155, R167). -/
def serveReservationsClear (tag : Byte) (s : State) : State :=
  let held := allBays.any fun b => (s.bay b).holder.isSome
  placeReply (replyTo tag (.plain (if held then .done else .already)) []) (allBays.foldl (fun s b => setHolder b none s) s)

/-- MOTION-RESUME (R123, R155). -/
def serveMotionResume (tag : Byte) (s : State) : State :=
  match s.fallingSensor with
  | some i => refuseWith tag .refusedState i.val s
  | none =>
    if s.latch.isNone then placeReply (replyTo tag (.plain .already) []) s else answerDone tag [] (clearLatch s)

/-- SOFT-RESET: answered Done, and a reset is pending (R156). -/
def serveSoftReset (tag : Byte) (s : State) : State :=
  (answerDone tag [] s).updLink fun l => { l with resetPending := true }

/-! ### All of them -/

/-- The form of a management request's payload: step 1 of R149 after kind, target and source. The answer is the secondary of the
BadRequest it gets. -/
def mgmtForm (m : MgmtKind) (payload : List Byte) : Option Nat :=
  let exactly (n : Nat) : Option Nat := if payload.length = n then none else some badLength
  match m with
  | .tableWrite =>
    if payload.length < 2 then some badLength
    else match tableLength (payload.headD 0) with
      | none => some badTable
      | some n => exactly (2 + n)
  | .tableRead =>
    if payload.length ≠ 2 then some badLength
    else if (tableLength (payload.headD 0)).isNone then some badTable else none
  | .recordRead =>
    if payload.length ≠ 2 then some badLength else if recordCount (payload.headD 0) = 0 then some badTable else none
  | .supplySet => exactly 3
  | .counterClear => exactly 1
  | .faultRelease | .reservationsClear | .motionResume | .softReset => exactly 0

/-- A management request of good form: the manage flag, then its own steps (R149, R161). -/
def serveManagement (m : MgmtKind) (src : Source) (tag : Byte) (payload : List Byte) (s : State) : State :=
  if s.manages src = false then refuseWith tag .denied 0 s
  else match m with
    | .tableWrite => serveTableWrite tag payload s
    | .tableRead => serveTableRead tag payload s
    | .recordRead => serveRecordRead tag payload s
    | .supplySet => serveSupplySet tag payload s
    | .faultRelease => serveFaultRelease tag s
    | .counterClear => serveCounterClear tag payload s
    | .reservationsClear => serveReservationsClear tag s
    | .motionResume => serveMotionResume tag s
    | .softReset => serveSoftReset tag s

end Sys2Proof.Machine
end

