-- ==== Sys2Proof/Machine/Link.lean ====
section
/-! DEFINITION. The Upstream Port: held places and dropped frames (R145, R146), the arrival of a request frame with checks 1 and 2
(R26 to R28, R149), the byte receiver (R145), and the end of a transmission (R148, R156). -/

namespace Sys2Proof.Machine

/-! ### Places and drops -/

/-- A queue entry holds a place in the reply queue: an upstream request that stands alone (R146). -/
def Request.holdsPlace (r : Request) : Bool :=
  match r.origin with
  | .upstream _ _ none => true
  | _ => false

/-- Places held in the reply queue (R146). -/
def State.heldPlaces (s : State) : Nat :=
  (s.bays.toList.map fun r => (r.queue.filter (·.holdsPlace)).length).sum + s.groupsInUse

/-- A place is neither filled nor held (R146). -/
def State.placeFree (s : State) : Bool := s.link.replies.length + s.heldPlaces < Config.replyPlaces

/-- A dropped frame is counted (R145). -/
def dropFrame (s : State) : State := s.updLink fun l => { l with drops := satSucc l.drops 65535 }

/-- The receiver hunts again, without a gap deadline (R145). -/
def hunt (s : State) : State := s.updLink fun l => { l with rx := .hunting, gap := none }

/-! ### The form of a request -/

/-- The targets a kind allows (R26). -/
def FrameKind.allows : FrameKind → ReqTarget → Bool
  | .management _, .part => true
  | .management _, _ => false
  | _, .part => false
  | .queued .status, .bay _ => true
  | .queued .status, _ => false
  | .queued .pass, .bay _ => true
  | .queued .pass, _ => false
  | _, _ => true

/-- The payload length fits the kind (R28, R149): the secondary of the BadRequest it gets otherwise. -/
def FrameKind.lengthFault (k : FrameKind) (payload : List Byte) : Option Nat :=
  match k with
  | .management m => mgmtForm m payload
  | .queued .pass => if payload.length ≤ Config.maxPass then none else some badLength
  | _ => if payload.isEmpty then none else some badLength

/-- A request that has passed check 2: its kind, target and source. -/
structure WellFormedRequest where
  kind : FrameKind
  target : ReqTarget
  source : Source
deriving DecidableEq, Repr

/-- Check 2 (R28) and step 1 of R149, in the order Kind, Target, Source, Length: the secondary of the BadRequest, or the request. -/
def checkForm (kind : Option FrameKind) (h : Header) (payload : List Byte) : Except Nat WellFormedRequest :=
  match kind with
  | none => .error badKind
  | some k =>
    match (targetOf h.target).filter (k.allows ·) with
    | none => .error badTarget
    | some t =>
      match sourceOf h.source with
      | none => .error badSource
      | some src =>
        match k.lengthFault payload with
        | some e => .error e
        | none => .ok { kind := k, target := t, source := src }

/-- The reply to a request that fails check 2, whatever its target; with secondary Source it carries the source field as received
(R28, R50; logs 10, 49). -/
def badRequestReply (h : Header) (secondary : Nat) : Reply :=
  { replyTo h.tag { code := .badRequest, secondary := secondary } [] with
    echo := if secondary = badSource then some h.source else none }

/-- A management request for check 1: a request addressed to the part (00_scope.md, R23; log 9). -/
def managementClass (h : Header) : Bool := targetOf h.target = some .part

/-! ### Arrival -/

/-- Management requests that touch neither bays, levels, bus nor budget: reads, clears, and writes of the Motion Thresholds,
Windows, Sources and Notice Routing tables. -/
def MgmtKind.quiet (m : MgmtKind) (payload : List Byte) : Bool :=
  match m with
  | .tableRead | .recordRead | .faultRelease | .counterClear | .reservationsClear | .softReset => true
  | .tableWrite => 6 ≤ (payload.headD 0).toNat && (payload.headD 0).toNat ≤ 9
  | .supplySet | .motionResume => false

/-- A request of good form is served, and its event ends (R27, R149). -/
def serveRequest (q : WellFormedRequest) (h : Header) (payload : List Byte) (s : State) : State :=
  match q.kind with
  | .queued k => conclude s (requestBays k q.source h.tag payload q.target s)
  | .reserve => close (reserveBays q.source h.tag q.target s)
  | .release => close (releaseBays q.source h.tag q.target s)
  | .management m =>
    if m.quiet payload then close (serveManagement m q.source h.tag payload s)
    else conclude s (serveManagement m q.source h.tag payload s)

/-- A passed frame that is an arrival: checks 1 and 2, then the request itself (R27, R149). -/
def acceptFrameAt (kind : Option FrameKind) (h : Header) (payload : List Byte) (s : State) : State :=
  if s.survey.running && !managementClass h then close (placeReply (replyTo h.tag (.plain .notReady) []) s)
  else match checkForm kind h payload with
    | .error e => close (placeReply (badRequestReply h e) s)
    | .ok q => serveRequest q h payload s

/-- A whole request frame that passed its length and CRC checks: it is dropped while a reset is pending or no place is free, and
is an arrival otherwise (R145, R146, R156). -/
def passedFrame (kind : Option FrameKind) (h : Header) (payload : List Byte) (s : State) : State :=
  if s.link.resetPending || !s.placeFree then dropFrame s else acceptFrameAt kind h payload s.begin

/-- A whole request frame as a command: the receiver is left hunting, a bad length is dropped (R145; log 8). -/
def arrive (kind : Option FrameKind) (h : Header) (payload : List Byte) (s : State) : State :=
  if Config.maxPayload < payload.length then dropFrame (hunt s) else passedFrame kind h payload (hunt s)

/-! ### The receiver -/

/-- The frame gap deadline from now (R145). -/
def State.gapDeadline (s : State) : Option Count := some (s.after Config.frameGapMs)

/-- A frame in progress takes a byte that is not its last (R145). -/
def growFrame (bytes : List Byte) (s : State) : State :=
  s.updLink fun l => { l with rx := .inFrame bytes, gap := s.gapDeadline }

/-- The last byte of a frame has arrived: `bytes` are those after the start code, CRC included (R145, R184). -/
def finishFrame (bytes : List Byte) (s : State) : State :=
  let s := hunt s
  let body := bytes.take (bytes.length - 2)
  if leNat (bytes.drop (bytes.length - 2)) = (crc16 body).toNat then
    passedFrame (frameKindOf (body.getD 3 0)) { target := body.getD 1 0, source := body.getD 2 0, tag := body.getD 4 0 }
      (body.drop 5) s
  else dropFrame s

/-- A byte arrives on the upstream link (R145). -/
def receiveByte (x : Byte) (s : State) : State :=
  match s.link.rx with
  | .hunting => if x = Config.startCode then growFrame [] s else s
  | .inFrame [] => if Config.maxPayload < x.toNat then dropFrame (hunt s) else growFrame [x] s
  | .inFrame (len :: rest) =>
    let bytes := len :: rest ++ [x]
    if bytes.length = len.toNat + 7 then finishFrame bytes s else growFrame bytes s

/-! ### Transmission -/

/-- A transmission ends; a pending reset takes place when a reply's end leaves the reply queue empty (R148, R156, R157). -/
def endTransmission (s : State) : State :=
  match s.link.tx with
  | none => s
  | some f =>
    let s := s.begin.updLink fun l => { l with tx := none }
    match f with
    | .reply _ => close (if s.link.resetPending && s.link.replies.isEmpty then softReset s else s)
    | .notice _ => close s

end Sys2Proof.Machine
end

