-- ==== Sys2Proof/Machine/Answers.lean ====
section
/-! DEFINITION. The commands that are answers to an attempt of the current exchange: ACK and NAK (R125, R130 to R135). An answer that no attempt
awaits is a late answer, and a frame from another station is noise: neither has an effect (R130, R142). -/

namespace Sys2Proof.Machine

/-- An answer from a station: without effect unless an attempt awaits it; with a bad check a Failure, ReplyCheckBad (R130). -/
def answerFrame (initiator kind : Byte) (payload : List Byte) (check : Half) (take : Current → State → State) (s : State) :
    State :=
  match s.awaiting initiator with
  | none => s
  | some c =>
    conclude s.begin
      ((if check = stationCheck initiator kind payload then take c else failAttempt c .replyCheckBad) s.begin)

/-- An ACK: a Success in the form its kind calls for, otherwise a Failure, ReplyCheckBad (R130, R132). -/
def execAck (f : AnswerFrame) (s : State) : Host.Outcome State Fault Refusal :=
  .next (answerFrame f.initiator Config.kindAck f.payload f.check
    (fun c s => if ackWellFormed c.ex.kind f.payload then succeed c f.payload s else failAttempt c .replyCheckBad s) s)

/-- A NAK taken by its reason: Check and Busy are Failures, Refused carries the target's reason byte; a NAK not in one of these
forms is a Failure, ReplyCheckBad, as an ACK not in its form is (R130, R131, R133, R186; log 30). -/
def takeNak (payload : List Byte) (c : Current) (s : State) : State :=
  match payload with
  | [code, reason] =>
    if code = 1 then failAttempt c .check s
    else if code = 2 then failAttempt c .busy s
    else if code = 3 then refuse c reason.toNat s
    else failAttempt c .replyCheckBad s
  | _ => failAttempt c .replyCheckBad s

/-- A NAK with this payload (R130). -/
def nakAnswer (initiator : Byte) (payload : List Byte) (check : Half) (s : State) : State :=
  answerFrame initiator Config.kindNak payload check (takeNak payload) s

/-- A NAK Check or NAK Busy: a Failure (R130, R131). -/
def execNakFailure (initiator : Byte) (reason : Option Byte) (rest : List Byte) (check : Half) (s : State) :
    Host.Outcome State Fault Refusal := .next (nakAnswer initiator (reason.toList ++ rest) check s)

/-- A NAK Refused with the target's reason byte (R130, R133). -/
def execNakRefused (initiator : Byte) (rest : List Byte) (check : Half) (s : State) : Host.Outcome State Fault Refusal :=
  .next (nakAnswer initiator (3 :: rest) check s)

end Sys2Proof.Machine
end

