-- ==== Sys2Proof/Machine/Expiries.lean ====
section
/-! DEFINITION. The commands that are expiries of the deadlines of the Bay Table, the Admission Unit, the Motion Classifier and the Bay Bus
Controller. An expiry takes place only while its deadline is present and reached (R1; log 6). -/

namespace Sys2Proof.Machine

/-- An event of the part on its own account, from `s` as it begins. -/
def partEvent (f : State → State) (s : State) : State := conclude s.begin (f s.begin)

/-- The survey's QUERY for a bay (R23). -/
def placeSurveyQuery (b : Bay) (s : State) : State := placeFor b (s.exchangeFor b .query .survey []) s

/-- The bus settle interval ends: the survey's QUERYs are placed (R23). -/
def placeSurvey (s : State) : State :=
  allBays.foldl (fun s b => placeSurveyQuery b s) { s with survey := { s.survey with settle := none } }

/-- The bus settle deadline expires (R23). -/
def execSettleExpiry (s : State) : Host.Outcome State Fault Refusal :=
  .next (if s.expires s.survey.settle then partEvent placeSurvey s else s)

/-- A bay's operation deadline of one mark (individual or group) is present and reached. -/
def State.operationDue (s : State) (b : Bay) (group : Bool) : Option OpKind :=
  match (s.bay b).deadline with
  | some d => if d.group = group ∧ s.expires (some d.due) then some d.kind else none
  | none => none

/-- An operation deadline expires: Timeout (R14). -/
def execOperationDeadlineExpiry (b : Bay) (s : State) : Host.Outcome State Fault Refusal :=
  .next (match s.operationDue b false with | some k => partEvent (timeoutFault b k) s | none => s)

/-- A park follow-up is placed (R139). -/
def placeFollowUp (b : Bay) (s : State) : State := placeFor b (s.exchangeFor b .query .followUp []) s

/-- A group deadline expires: no fault, but a follow-up QUERY (R139). -/
def execGroupDeadlineExpiry (b : Bay) (s : State) : Host.Outcome State Fault Refusal :=
  .next (match s.operationDue b true with
    | some _ => partEvent (fun s => placeFollowUp b (setDeadline b none s)) s
    | none => s)

/-- What a head was waiting for, as the secondary of Expired (R38). A head in Checking that both the slot and a transitional state
hold gives Level (log 43). -/
def State.expiredSecondary (s : State) (b : Bay) (p : Phase) : Nat :=
  match p with
  | .deferred => expiredLevel
  | .admitting => expiredBudget
  | .issued => expiredBus
  | .queued | .checking => if (s.bay b).slot.isSome then expiredLevel else expiredHeld

/-- A head's wait deadline expires: it completes Expired; its Admission Queue entry or unstarted exchange is taken out (R38). -/
def expireHead (b : Bay) (p : Phase) (s : State) : State :=
  let secondary := s.expiredSecondary b p
  let s := match p with
    | .admitting => leaveAdmission b s
    | .issued => withdrawHead b s
    | .queued | .checking | .deferred => s
  completeHead b { code := .expired, secondary := secondary } [] s

/-- The head whose wait deadline is present and reached. -/
def State.waitDue (s : State) (b : Bay) : Option Request := (s.head b).filter fun r => s.expires r.wait

/-- A head's wait deadline expires (R38). -/
def execWaitDeadlineExpiry (b : Bay) (s : State) : Host.Outcome State Fault Refusal :=
  .next (match s.waitDue b with | some r => partEvent (expireHead b r.phase) s | none => s)

/-- The stagger opens and admission is examined (R66). -/
def openStagger (s : State) : State := settleForced (s.updAdm fun a => { a with staggerDue := none })

/-- The stagger deadline expires (R66). -/
def execStaggerExpiry (s : State) : Host.Outcome State Fault Refusal :=
  .next (if s.expires s.adm.staggerDue then partEvent openStagger s else s)

/-- A debounce deadline expires (R85). -/
def execDebounceExpiry (i : SensorId) (s : State) : Host.Outcome State Fault Refusal :=
  .next (if s.expires s.sensors[i].debounceDue then debounceExpired i s else s)

/-- A jolt hold deadline expires (R92). -/
def execJoltHoldExpiry (i : SensorId) (s : State) : Host.Outcome State Fault Refusal :=
  .next (if s.expires s.sensors[i].joltDue then partEvent (joltHoldExpired i) s else s)

/-- A blind deadline expires (R95). -/
def execBlindExpiry (i : SensorId) (s : State) : Host.Outcome State Fault Refusal :=
  .next (if s.expires s.sensors[i].blindDue then partEvent (blindExpired i) s else s)

/-- The current exchange whose answer window is reached (R130). -/
def State.windowDue (s : State) : Option Current := s.bus.current.filter fun c => s.expires c.answerBy

/-- The answer window expires with no answer (R130). -/
def execAnswerWindowExpiry (s : State) : Host.Outcome State Fault Refusal :=
  .next (match s.windowDue with | some c => partEvent (failAttempt c .noAnswer) s | none => s)

/-- The resend deadline expires: the next attempt is sent (R131). -/
def execResendExpiry (s : State) : Host.Outcome State Fault Refusal :=
  .next (if s.resendDue then sendAttempt s.begin else s)

/-- The all-bays QUICKPARK has been sent: the bus is free (R129, R138). -/
def execAllBaysQuickparkEnd (s : State) : Host.Outcome State Fault Refusal :=
  .next (if s.bus.transaction = .groupPark then
    partEvent (fun s => s.updBus fun u => { u with transaction := .free }) s else s)

end Sys2Proof.Machine
end

