-- ==== Sys2Proof/Machine/PartEvents.lean ====
section
/-! DEFINITION. The commands that are events of the part's clock, reset and upstream link (R1, R3, R145, R148, R157). -/

namespace Sys2Proof.Machine

/-- Power is applied: every field takes its reset value; the commands that wait still wait (R157 and the rules State.reset cites;
log 38). -/
def execPowerOnReset (s : State) : Host.Outcome State Fault Refusal := .next { State.reset with pending := s.pending }

/-- A millisecond passes (R1). -/
def execMillisecondCounterTick (s : State) : Host.Outcome State Fault Refusal := .next { s with now := s.now + 1 }

/-- A request frame is dropped for its length byte or its CRC; either way the receiver hunts again (R145). -/
def execBadFrame (_cause : DropCause) (s : State) : Host.Outcome State Fault Refusal := .next (dropFrame (hunt s))

/-- A byte arrives on the upstream link (R145). -/
def execLinkByteReceipt (x : Byte) (s : State) : Host.Outcome State Fault Refusal := .next (receiveByte x s)

/-- The frame gap deadline expires: the frame in progress is dropped (R145). -/
def execFrameGapExpiry (s : State) : Host.Outcome State Fault Refusal :=
  .next (if s.expires s.link.gap then dropFrame (hunt s) else s)

/-- A frame's transmission ends (R148, R156). -/
def execTransmissionEnd (s : State) : Host.Outcome State Fault Refusal := .next (endTransmission s)

end Sys2Proof.Machine
end

