-- ==== Sys2Proof/Machine/Reads.lean ====
section
/-! DEFINITION. The commands that read: TABLE-READ (R151) and RECORD-READ of each of the five records (R153). `rest` is the payload after
the record ID. -/

namespace Sys2Proof.Machine

/-- TABLE-READ of any table (R151). -/
def execTableRead (h : Header) (payload : List Byte) (s : State) : Host.Outcome State Fault Refusal :=
  .next (arrive (some (.management .tableRead)) h payload s)

/-- RECORD-READ of the Case Status record; it clears two fields (R153). -/
def execRecordReadCaseStatus (h : Header) (rest : List Byte) (s : State) : Host.Outcome State Fault Refusal :=
  .next (arrive (some (.management .recordRead)) h (0 :: rest) s)

/-- RECORD-READ of a Bay Record (R2, R153). -/
def execRecordReadBayRecord (h : Header) (rest : List Byte) (s : State) : Host.Outcome State Fault Refusal :=
  .next (arrive (some (.management .recordRead)) h (1 :: rest) s)

/-- RECORD-READ of a Sensor Record (R76, R153). -/
def execRecordReadSensorRecord (h : Header) (rest : List Byte) (s : State) : Host.Outcome State Fault Refusal :=
  .next (arrive (some (.management .recordRead)) h (2 :: rest) s)

/-- RECORD-READ of the First Fault Record (R153, R173). -/
def execRecordReadFirstFaultRecord (h : Header) (rest : List Byte) (s : State) : Host.Outcome State Fault Refusal :=
  .next (arrive (some (.management .recordRead)) h (3 :: rest) s)

/-- RECORD-READ of the Admission Queue (R62, R153). -/
def execRecordReadAdmissionQueue (h : Header) (rest : List Byte) (s : State) : Host.Outcome State Fault Refusal :=
  .next (arrive (some (.management .recordRead)) h (4 :: rest) s)

end Sys2Proof.Machine
end

