-- ==== Sys2Proof/Machine/Requests.lean ====
section
/-! DEFINITION. The commands that are requests to bays: the governed kinds, STATUS, PASS (R26 to R54), RESERVE and RELEASE (R163, R164,
R168), and a frame whose kind code names no request kind (R28, R184). -/

namespace Sys2Proof.Machine

/-- A SPIN-UP frame arrives (R26, R34, R39). -/
def execSpinUp (h : Header) (payload : List Byte) (s : State) : Host.Outcome State Fault Refusal :=
  .next (arrive (some (.queued .spinUp)) h payload s)

/-- A SPIN-DOWN frame arrives (R26, R34, R39). -/
def execSpinDown (h : Header) (payload : List Byte) (s : State) : Host.Outcome State Fault Refusal :=
  .next (arrive (some (.queued .spinDown)) h payload s)

/-- A LOAD frame arrives (R26, R34, R39). -/
def execLoad (h : Header) (payload : List Byte) (s : State) : Host.Outcome State Fault Refusal :=
  .next (arrive (some (.queued .load)) h payload s)

/-- An UNLOAD frame arrives (R26, R34, R39). -/
def execUnload (h : Header) (payload : List Byte) (s : State) : Host.Outcome State Fault Refusal :=
  .next (arrive (some (.queued .unload)) h payload s)

/-- A BARRIER frame arrives (R43). -/
def execBarrier (h : Header) (payload : List Byte) (s : State) : Host.Outcome State Fault Refusal :=
  .next (arrive (some (.queued .barrier)) h payload s)

/-- A STATUS frame arrives (R45, R46). -/
def execStatus (h : Header) (payload : List Byte) (s : State) : Host.Outcome State Fault Refusal :=
  .next (arrive (some (.queued .status)) h payload s)

/-- A PASS frame arrives (R47). -/
def execPass (h : Header) (payload : List Byte) (s : State) : Host.Outcome State Fault Refusal :=
  .next (arrive (some (.queued .pass)) h payload s)

/-- A RESERVE frame arrives (R48, R163, R168). -/
def execReserve (h : Header) (payload : List Byte) (s : State) : Host.Outcome State Fault Refusal :=
  .next (arrive (some .reserve) h payload s)

/-- A RELEASE frame arrives (R48, R164, R168). -/
def execRelease (h : Header) (payload : List Byte) (s : State) : Host.Outcome State Fault Refusal :=
  .next (arrive (some .release) h payload s)

/-- A frame arrives whose kind code names no request kind: BadRequest, Kind, after check 1 (R27, R28, R184). The
code itself has no further effect. -/
def execBadRequestKind (_kind : Byte) (h : Header) (payload : List Byte) (s : State) : Host.Outcome State Fault Refusal :=
  .next (arrive none h payload s)

end Sys2Proof.Machine
end

