-- ==== Sys2Proof/Machine/ShortRequests.lean ====
section
/-! DEFINITION. The short management requests (R59, R123, R154 to R156, R167). -/

namespace Sys2Proof.Machine

/-- SOFT-RESET: the reset becomes pending (R156). -/
def execSoftReset (h : Header) (payload : List Byte) (s : State) : Host.Outcome State Fault Refusal :=
  .next (arrive (some (.management .softReset)) h payload s)

/-- SUPPLY-SET (R58, R59). -/
def execSupplySet (h : Header) (payload : List Byte) (s : State) : Host.Outcome State Fault Refusal :=
  .next (arrive (some (.management .supplySet)) h payload s)

/-- FAULT-RELEASE (R154, R175). -/
def execFaultRelease (h : Header) (payload : List Byte) (s : State) : Host.Outcome State Fault Refusal :=
  .next (arrive (some (.management .faultRelease)) h payload s)

/-- COUNTER-CLEAR (R154, R176). -/
def execCounterClear (h : Header) (payload : List Byte) (s : State) : Host.Outcome State Fault Refusal :=
  .next (arrive (some (.management .counterClear)) h payload s)

/-- RESERVATIONS-CLEAR (R167). -/
def execReservationsClear (h : Header) (payload : List Byte) (s : State) : Host.Outcome State Fault Refusal :=
  .next (arrive (some (.management .reservationsClear)) h payload s)

/-- MOTION-RESUME (R123). -/
def execMotionResume (h : Header) (payload : List Byte) (s : State) : Host.Outcome State Fault Refusal :=
  .next (arrive (some (.management .motionResume)) h payload s)

end Sys2Proof.Machine
end

