-- ==== Sys2Proof/Machine/Stations.lean ====
section
/-! DEFINITION. The commands that are frames begun by stations: DONE, FAULT, PRESENCE and SAMPLES (R141, R142, R186). A station begins a frame
only on a free bus; the frame and its answer are one event (R129; log 1). -/

namespace Sys2Proof.Machine

/-- The part's answer to a station frame (R141). -/
def answerStation (station : Byte) (kind : Byte) (payload : List Byte) (s : State) : State :=
  s.updBus fun u => { u with sent := u.sent ++ [{ destination := station, kind := kind, payload := payload }] }

/-- A station frame: NAK Check for a bad check, NAK Refused with reason 0 where it is not well formed (`take` absent), otherwise
ACK, and the frame is handed over (R141, R186). On a bus that is not free no station begins one (R129). -/
def stationFrame (f : StationFrame) (take : Option (State → State)) (s : State) : State :=
  if s.bus.transaction ≠ .free then s
  else if f.check ≠ stationCheck f.initiator f.kind f.payload then
    conclude s.begin (answerStation f.initiator Config.kindNak [1] s.begin)
  else match take with
    | none => conclude s.begin (answerStation f.initiator Config.kindNak [3, 0] s.begin)
    | some g => conclude s.begin (g (answerStation f.initiator Config.kindAck [] s.begin))

/-- What a frame of its row's kind hands over; a frame of unknown kind hands over nothing (R141). -/
def ofKind (row : Byte) (f : StationFrame) (take : Option (State → State)) : Option (State → State) :=
  if f.kind = row then take else none

/-- What a DONE frame hands over: a bay's status report (R141). -/
def doneTaken (f : StationFrame) : Option (State → State) :=
  match bayAt f.initiator, reportOf f.payload with
  | some b, some rep => some (takeReport b rep none)
  | _, _ => none

/-- A DONE frame (R12, R13, R18, R141). -/
def execDone (f : StationFrame) (s : State) : Host.Outcome State Fault Refusal :=
  .next (stationFrame f (ofKind Config.kindDone f (doneTaken f)) s)

/-- What a FAULT frame hands over: a drive fault code 1..255 (R15, R141). -/
def faultTaken (f : StationFrame) : Option (State → State) :=
  match bayAt f.initiator, f.payload with
  | some b, [code] => if code = 0 then none else some (faultFrame b code)
  | _, _ => none

/-- A FAULT frame (R15, R141). -/
def execFault (f : StationFrame) (s : State) : Host.Outcome State Fault Refusal :=
  .next (stationFrame f (ofKind Config.kindFault f (faultTaken f)) s)

/-- What a PRESENCE frame hands over: inserted or removed, by its value; any other payload is malformed (R21, R22, R141, R186). -/
def presenceTaken (f : StationFrame) : Option (State → State) :=
  match bayAt f.initiator, f.payload with
  | some b, [v] => if v = 1 then some (presenceInserted b) else if v = 2 then some (presenceRemoved b) else none
  | _, _ => none

/-- A PRESENCE frame as a station frame (R186). -/
def presenceFrame (initiator : Byte) (payload : List Byte) (check : Half) : StationFrame :=
  { initiator := initiator, kind := Config.kindPresence, payload := payload, check := check }

/-- A PRESENCE frame, of any value but removed (R21, R141). -/
def execPresenceInserted (initiator : Byte) (payload : List Byte) (check : Half) (s : State) : Host.Outcome State Fault Refusal :=
  .next (stationFrame (presenceFrame initiator payload check) (presenceTaken (presenceFrame initiator payload check)) s)

/-- A PRESENCE frame, of any value but inserted (R22, R141). -/
def execPresenceRemoved (initiator : Byte) (payload : List Byte) (check : Half) (s : State) : Host.Outcome State Fault Refusal :=
  .next (stationFrame (presenceFrame initiator payload check) (presenceTaken (presenceFrame initiator payload check)) s)

/-- What a SAMPLES frame hands over (R81, R141). -/
def samplesTaken (f : StationFrame) : Option (State → State) :=
  match sensorAt f.initiator, sampleFrameOf f.payload with
  | some i, some (first, samples) => some (samplesFrame i first samples)
  | _, _ => none

/-- A SAMPLES frame (R81, R141). -/
def execSamples (f : StationFrame) (s : State) : Host.Outcome State Fault Refusal :=
  .next (stationFrame f (ofKind Config.kindSamples f (samplesTaken f)) s)

end Sys2Proof.Machine
end

