-- ==== Sys2Proof/Machine/TableWrites.lean ====
section
/-! DEFINITION. The commands that write tables: TABLE-WRITE of each of the ten tables (R149, R150). `rest` is the payload after the table ID. -/

namespace Sys2Proof.Machine

/-- TABLE-WRITE of the Profile Table (R56, R57). -/
def execTableWriteProfile (h : Header) (rest : List Byte) (s : State) : Host.Outcome State Fault Refusal :=
  .next (arrive (some (.management .tableWrite)) h (1 :: rest) s)

/-- TABLE-WRITE of the Bay Assignment table (R4, R105). -/
def execTableWriteBayAssignment (h : Header) (rest : List Byte) (s : State) : Host.Outcome State Fault Refusal :=
  .next (arrive (some (.management .tableWrite)) h (2 :: rest) s)

/-- TABLE-WRITE of the Level Map (R102, R121). -/
def execTableWriteLevelMap (h : Header) (rest : List Byte) (s : State) : Host.Outcome State Fault Refusal :=
  .next (arrive (some (.management .tableWrite)) h (3 :: rest) s)

/-- TABLE-WRITE of the Level Action Table (R107, R122). -/
def execTableWriteLevelAction (h : Header) (rest : List Byte) (s : State) : Host.Outcome State Fault Refusal :=
  .next (arrive (some (.management .tableWrite)) h (4 :: rest) s)

/-- TABLE-WRITE of the Sensor table (R77, R96 to R98). -/
def execTableWriteSensor (h : Header) (rest : List Byte) (s : State) : Host.Outcome State Fault Refusal :=
  .next (arrive (some (.management .tableWrite)) h (5 :: rest) s)

/-- TABLE-WRITE of the Motion Thresholds record (R79, R80). -/
def execTableWriteMotionThresholds (h : Header) (rest : List Byte) (s : State) : Host.Outcome State Fault Refusal :=
  .next (arrive (some (.management .tableWrite)) h (6 :: rest) s)

/-- TABLE-WRITE of the Windows table (R158, R160). -/
def execTableWriteWindows (h : Header) (rest : List Byte) (s : State) : Host.Outcome State Fault Refusal :=
  .next (arrive (some (.management .tableWrite)) h (7 :: rest) s)

/-- TABLE-WRITE of the Source Table (R161). -/
def execTableWriteSources (h : Header) (rest : List Byte) (s : State) : Host.Outcome State Fault Refusal :=
  .next (arrive (some (.management .tableWrite)) h (8 :: rest) s)

/-- TABLE-WRITE of the Notice Routing table (R181). -/
def execTableWriteNoticeRouting (h : Header) (rest : List Byte) (s : State) : Host.Outcome State Fault Refusal :=
  .next (arrive (some (.management .tableWrite)) h (9 :: rest) s)

/-- TABLE-WRITE of the Timing record (R66, R122, R152, R183). -/
def execTableWriteTiming (h : Header) (rest : List Byte) (s : State) : Host.Outcome State Fault Refusal :=
  .next (arrive (some (.management .tableWrite)) h (10 :: rest) s)

end Sys2Proof.Machine
end

