-- ==== Sys2Proof/Machine/Dispatch.lean ====
section
/-! DEFINITION. The meaning of every command: one arm per constructor of `Instr`, each a call of the meaning in its family's
file. No arm is rejected by name. -/

namespace Sys2Proof.Machine

def exec (i : Instr) (s : State) : Host.Outcome State Fault Refusal :=
  match i with
  | .powerOnReset => Sys2Proof.Machine.execPowerOnReset s
  | .softReset h payload => Sys2Proof.Machine.execSoftReset h payload s
  | .spinUp h payload => Sys2Proof.Machine.execSpinUp h payload s
  | .spinDown h payload => Sys2Proof.Machine.execSpinDown h payload s
  | .load h payload => Sys2Proof.Machine.execLoad h payload s
  | .unload h payload => Sys2Proof.Machine.execUnload h payload s
  | .barrier h payload => Sys2Proof.Machine.execBarrier h payload s
  | .status h payload => Sys2Proof.Machine.execStatus h payload s
  | .pass h payload => Sys2Proof.Machine.execPass h payload s
  | .reserve h payload => Sys2Proof.Machine.execReserve h payload s
  | .release h payload => Sys2Proof.Machine.execRelease h payload s
  | .tableWriteProfile h rest => Sys2Proof.Machine.execTableWriteProfile h rest s
  | .tableWriteBayAssignment h rest => Sys2Proof.Machine.execTableWriteBayAssignment h rest s
  | .tableWriteLevelMap h rest => Sys2Proof.Machine.execTableWriteLevelMap h rest s
  | .tableWriteLevelAction h rest => Sys2Proof.Machine.execTableWriteLevelAction h rest s
  | .tableWriteSensor h rest => Sys2Proof.Machine.execTableWriteSensor h rest s
  | .tableWriteMotionThresholds h rest => Sys2Proof.Machine.execTableWriteMotionThresholds h rest s
  | .tableWriteWindows h rest => Sys2Proof.Machine.execTableWriteWindows h rest s
  | .tableWriteSources h rest => Sys2Proof.Machine.execTableWriteSources h rest s
  | .tableWriteNoticeRouting h rest => Sys2Proof.Machine.execTableWriteNoticeRouting h rest s
  | .tableWriteTiming h rest => Sys2Proof.Machine.execTableWriteTiming h rest s
  | .tableRead h payload => Sys2Proof.Machine.execTableRead h payload s
  | .recordReadCaseStatus h rest => Sys2Proof.Machine.execRecordReadCaseStatus h rest s
  | .recordReadBayRecord h rest => Sys2Proof.Machine.execRecordReadBayRecord h rest s
  | .recordReadSensorRecord h rest => Sys2Proof.Machine.execRecordReadSensorRecord h rest s
  | .recordReadFirstFaultRecord h rest => Sys2Proof.Machine.execRecordReadFirstFaultRecord h rest s
  | .recordReadAdmissionQueue h rest => Sys2Proof.Machine.execRecordReadAdmissionQueue h rest s
  | .supplySet h payload => Sys2Proof.Machine.execSupplySet h payload s
  | .faultRelease h payload => Sys2Proof.Machine.execFaultRelease h payload s
  | .counterClear h payload => Sys2Proof.Machine.execCounterClear h payload s
  | .reservationsClear h payload => Sys2Proof.Machine.execReservationsClear h payload s
  | .motionResume h payload => Sys2Proof.Machine.execMotionResume h payload s
  | .badFrame cause => Sys2Proof.Machine.execBadFrame cause s
  | .frameGapExpiry => Sys2Proof.Machine.execFrameGapExpiry s
  | .settleExpiry => Sys2Proof.Machine.execSettleExpiry s
  | .operationDeadlineExpiry b => Sys2Proof.Machine.execOperationDeadlineExpiry b s
  | .groupDeadlineExpiry b => Sys2Proof.Machine.execGroupDeadlineExpiry b s
  | .waitDeadlineExpiry b => Sys2Proof.Machine.execWaitDeadlineExpiry b s
  | .staggerExpiry => Sys2Proof.Machine.execStaggerExpiry s
  | .debounceExpiry n => Sys2Proof.Machine.execDebounceExpiry n s
  | .joltHoldExpiry n => Sys2Proof.Machine.execJoltHoldExpiry n s
  | .blindExpiry n => Sys2Proof.Machine.execBlindExpiry n s
  | .answerWindowExpiry => Sys2Proof.Machine.execAnswerWindowExpiry s
  | .resendExpiry => Sys2Proof.Machine.execResendExpiry s
  | .allBaysQuickparkEnd => Sys2Proof.Machine.execAllBaysQuickparkEnd s
  | .transmissionEnd => Sys2Proof.Machine.execTransmissionEnd s
  | .done f => Sys2Proof.Machine.execDone f s
  | .fault f => Sys2Proof.Machine.execFault f s
  | .presenceInserted initiator payload check => Sys2Proof.Machine.execPresenceInserted initiator payload check s
  | .presenceRemoved initiator payload check => Sys2Proof.Machine.execPresenceRemoved initiator payload check s
  | .samples f => Sys2Proof.Machine.execSamples f s
  | .ack f => Sys2Proof.Machine.execAck f s
  | .nakFailure initiator reason rest check => Sys2Proof.Machine.execNakFailure initiator reason rest check s
  | .nakRefused initiator rest check => Sys2Proof.Machine.execNakRefused initiator rest check s
  | .millisecondCounterTick => Sys2Proof.Machine.execMillisecondCounterTick s
  | .linkByteReceipt x => Sys2Proof.Machine.execLinkByteReceipt x s
  | .badRequestKind kind h payload => Sys2Proof.Machine.execBadRequestKind kind h payload s

end Sys2Proof.Machine
end

