-- ==== Sys2Proof/Safety.lean ====
section
/-! DEFINITION. What claims are stated in: the states between events that the rules promise (R7, R30, R56, R58, R60, R62, R72,
R93, R96, R101, R104, R161, R179, R182), a part at rest, and the states that an answer, an attempt or a fault leaves. -/

namespace Sys2Proof.Machine

/-! ### Promises of the rules -/

/-- Every reservation current is that of its bay's state and class, and the committed current is their sum (R7, R60). -/
def State.Balanced (s : State) : Prop :=
  (∀ b, (s.bay b).reservation = (s.profileOf b).reservation (s.bay b).state) ∧ s.adm.committed = sumReservations s.bays

/-- At most 32 notices, never two with the same kind and subject (R179). -/
def NoticeQueue.WellKept (q : NoticeQueue) : Prop :=
  q.queue.length ≤ Config.noticePlaces ∧ q.queue.Pairwise fun m n => m.sameSubject n = false

/-- The zone levels are those of the motion copies, and the latch copy is the latch (R101, R103, R104). -/
def State.LevelsHold (s : State) : Prop :=
  s.prot.levels = s.prot.computeLevels ∧ s.prot.latchCopy = s.latch.isSome

/-- The request kind an Admission Queue entry stands for (R62). -/
def AdmKind.request : AdmKind → ReqKind
  | .spinUp => .spinUp
  | .load => .load

/-- A bay stands at most once in the Admission Queue, and only while its head is a SPIN-UP or LOAD in phase Admitting (R62). -/
def State.AdmissionConsistent (s : State) : Prop :=
  s.adm.queue.Pairwise (fun e f => e.bay ≠ f.bay) ∧
    ∀ e ∈ s.adm.queue, ∃ r, s.head e.bay = some r ∧ r.phase = .admitting ∧ r.kind = e.kind.request

/-- The alert line is asserted exactly while a source holds (R182). -/
def State.LineFollows (s : State) : Prop := s.alertLine = s.alertHolds

/-- The over-budget flag says whether the committed current exceeds the effective limit (R72). -/
def State.FlagFollows (s : State) : Prop := s.adm.overBudget = decide (s.adm.effLimit < s.adm.committed)

/-- A Profile Table entry as normalization leaves it (R55, R56). -/
def Profile.Normalized (p : Profile) : Prop :=
  p.idle ≤ p.active ∧ p.active ≤ p.peak ∧ p.idle + p.surge ≤ p.peak
    ∧ (1 ≤ p.spinUpTime ∧ p.spinUpTime ≤ 60000) ∧ (1 ≤ p.loadTime ∧ p.loadTime ≤ 60000)
    ∧ (1 ≤ p.unloadTime ∧ p.unloadTime ≤ 60000) ∧ (1 ≤ p.parkTime ∧ p.parkTime ≤ 60000)
    ∧ (1 ≤ p.stopTime ∧ p.stopTime ≤ 60000)

/-- Every Profile Table entry is normalized (R56). -/
def State.ProfilesNormalized (s : State) : Prop := ∀ c : Fin 8, s.adm.profiles[c].Normalized

/-- At least one source may send management requests (R161). -/
def State.SomeManager (s : State) : Prop := ∃ src : Source, s.manages src = true

/-- Every bay queue holds at most 4 requests (R30). -/
def State.QueuesFit (s : State) : Prop := ∀ b, (s.bay b).queue.length ≤ Config.bayQueuePlaces

/-- The supply settings are in range and the effective limit is computed from them (R58). -/
def State.SupplyHolds (s : State) : Prop :=
  s.adm.limit ≤ 60000 ∧ s.adm.margin ≤ 50 ∧ s.adm.effLimit = effectiveLimit s.adm.limit s.adm.margin

/-- A waiting place holds exchanges of its own bay; at most one individual exchange for a bay stands in the two queues, and none while
an exchange for it that is no protective one is current (R113, R127, R136). -/
def State.ExchangesStandSingly (s : State) : Prop :=
  ∀ b, (∀ x ∈ (s.bay b).waiting, x.target = .bay b)
    ∧ ((s.bus.urgent ++ s.bus.normal).filter (·.individual b)).length ≤ 1
    ∧ ∀ c, s.bus.current = some c → c.ex.individual b = true → c.ex.owner ≠ .protective →
        (s.bus.urgent ++ s.bus.normal).filter (·.individual b) = []

/-- Each motion copy's conditions are its sensor's, and a copy is enabled only where its sensor is (R100, R101). -/
def State.CopiesHold (s : State) : Prop :=
  ∀ i : SensorId, s.prot.copies[i].conds = s.sensors[i].conds
    ∧ (s.prot.copies[i].enabled = true → s.sensors[i].enabled = true)

/-- A disabled sensor has no condition, no deadline and no expected counter (R96). -/
def State.DisabledSensorsRest (s : State) : Prop :=
  ∀ i : SensorId, s.sensors[i].enabled = false →
    s.sensors[i].conds = Conditions.clear ∧ s.sensors[i].expected = none ∧ s.sensors[i].debounceDue = none
      ∧ s.sensors[i].joltDue = none ∧ s.sensors[i].blindDue = none

/-- Every vibration window holds 16 values, and the vibration sum is their sum (R76, R93). -/
def State.VibrationSumsHold (s : State) : Prop :=
  ∀ i : SensorId, s.sensors[i].window.length = 16 ∧ s.sensors[i].vibSum = s.sensors[i].window.sum

end Sys2Proof.Machine

/-! ### What a command is -/

namespace Sys2Proof

open Machine

/-- The kind, header and payload of the request frame a command delivers, if it delivers one. -/
def Instr.frame : Instr → Option (Option FrameKind × Header × List Byte)
  | .spinUp h p => some (some (.queued .spinUp), h, p)
  | .spinDown h p => some (some (.queued .spinDown), h, p)
  | .load h p => some (some (.queued .load), h, p)
  | .unload h p => some (some (.queued .unload), h, p)
  | .barrier h p => some (some (.queued .barrier), h, p)
  | .status h p => some (some (.queued .status), h, p)
  | .pass h p => some (some (.queued .pass), h, p)
  | .reserve h p => some (some .reserve, h, p)
  | .release h p => some (some .release, h, p)
  | .tableWriteProfile h p => some (some (.management .tableWrite), h, 1 :: p)
  | .tableWriteBayAssignment h p => some (some (.management .tableWrite), h, 2 :: p)
  | .tableWriteLevelMap h p => some (some (.management .tableWrite), h, 3 :: p)
  | .tableWriteLevelAction h p => some (some (.management .tableWrite), h, 4 :: p)
  | .tableWriteSensor h p => some (some (.management .tableWrite), h, 5 :: p)
  | .tableWriteMotionThresholds h p => some (some (.management .tableWrite), h, 6 :: p)
  | .tableWriteWindows h p => some (some (.management .tableWrite), h, 7 :: p)
  | .tableWriteSources h p => some (some (.management .tableWrite), h, 8 :: p)
  | .tableWriteNoticeRouting h p => some (some (.management .tableWrite), h, 9 :: p)
  | .tableWriteTiming h p => some (some (.management .tableWrite), h, 10 :: p)
  | .tableRead h p => some (some (.management .tableRead), h, p)
  | .recordReadCaseStatus h p => some (some (.management .recordRead), h, 0 :: p)
  | .recordReadBayRecord h p => some (some (.management .recordRead), h, 1 :: p)
  | .recordReadSensorRecord h p => some (some (.management .recordRead), h, 2 :: p)
  | .recordReadFirstFaultRecord h p => some (some (.management .recordRead), h, 3 :: p)
  | .recordReadAdmissionQueue h p => some (some (.management .recordRead), h, 4 :: p)
  | .supplySet h p => some (some (.management .supplySet), h, p)
  | .faultRelease h p => some (some (.management .faultRelease), h, p)
  | .counterClear h p => some (some (.management .counterClear), h, p)
  | .reservationsClear h p => some (some (.management .reservationsClear), h, p)
  | .motionResume h p => some (some (.management .motionResume), h, p)
  | .softReset h p => some (some (.management .softReset), h, p)
  | .badRequestKind _ h p => some (none, h, p)
  | .powerOnReset | .badFrame _ | .frameGapExpiry | .settleExpiry | .operationDeadlineExpiry _ | .groupDeadlineExpiry _
  | .waitDeadlineExpiry _ | .staggerExpiry | .debounceExpiry _ | .joltHoldExpiry _ | .blindExpiry _ | .answerWindowExpiry
  | .resendExpiry | .allBaysQuickparkEnd | .transmissionEnd | .done _ | .fault _ | .presenceInserted ..
  | .presenceRemoved .. | .samples _ | .ack _ | .nakFailure .. | .nakRefused .. | .millisecondCounterTick
  | .linkByteReceipt _ => none

/-- The frame of a command that is a frame begun by a station. -/
def Instr.station : Instr → Option StationFrame
  | .done f | .fault f | .samples f => some f
  | .presenceInserted a p c | .presenceRemoved a p c => some { initiator := a, kind := 0x32, payload := p, check := c }
  | _ => none

/-- The station a command is an answer from, if it is one. -/
def Instr.answerFrom : Instr → Option Byte
  | .ack f => some f.initiator
  | .nakFailure a _ _ _ => some a
  | .nakRefused a _ _ => some a
  | _ => none

/-- The commands that write a table, apply power, or deliver a byte of any request frame. -/
def Instr.mayWriteTables : Instr → Bool
  | .tableWriteProfile .. | .tableWriteBayAssignment .. | .tableWriteLevelMap .. | .tableWriteLevelAction .. | .tableWriteSensor ..
  | .tableWriteMotionThresholds .. | .tableWriteWindows .. | .tableWriteSources .. | .tableWriteNoticeRouting ..
  | .tableWriteTiming .. | .linkByteReceipt .. | .powerOnReset => true
  | _ => false

/-- The commands that can reset the part or deliver a byte of any request frame. -/
def Instr.mayReset : Instr → Bool
  | .powerOnReset | .transmissionEnd | .linkByteReceipt .. => true
  | _ => false

end Sys2Proof

namespace Sys2Proof.Machine

/-! ### Where a claim starts -/

/-- The command that is a request of a queued kind. -/
def ReqKind.command : ReqKind → Header → List Byte → Instr
  | .spinUp => .spinUp
  | .spinDown => .spinDown
  | .load => .load
  | .unload => .unload
  | .barrier => .barrier
  | .status => .status
  | .pass => .pass

/-- A NAK Check (code 1) or NAK Busy (code 2) of a station with a reason byte and a good check (R186). -/
def nakFailed (station code reason : Byte) : Instr :=
  .nakFailure station (some code) [reason] (stationCheck station 0x41 [code, reason])

/-- A NAK Refused of a station with its reason byte and a good check (R186). -/
def nakRefusal (station reason : Byte) : Instr := .nakRefused station [reason] (stationCheck station 0x41 [3, reason])

/-- The command makes the attempt of `c`, addressed to `station`, a Failure of class `f` (R130). -/
def State.FailsBy (s : State) (c : Current) (station : Byte) (f : FailClass) (i : Instr) : Prop :=
  (f = .noAnswer ∧ i = .answerWindowExpiry ∧ s.expires c.answerBy = true)
    ∨ (f = .check ∧ ∃ r, i = nakFailed station 1 r)
    ∨ (f = .busy ∧ ∃ r, i = nakFailed station 2 r)
    ∨ (f = .replyCheckBad ∧ ∃ p k, i = .ack { initiator := station, payload := p, check := k }
        ∧ (k ≠ stationCheck station 0x40 p ∨ ackWellFormed c.ex.kind p = false))
    ∨ (f = .replyCheckBad ∧ ∃ r k, i = .nakRefused station [r] k ∧ k ≠ stationCheck station 0x41 [3, r])
    ∨ (f = .replyCheckBad ∧ ∃ code r k, i = .nakFailure station (some code) [r] k ∧ k ≠ stationCheck station 0x41 [code, r])

/-- The state an arriving request is served in: the receiver hunts and the event has begun (R145). -/
def State.heard (s : State) : State := (hunt s).begin

/-- A request frame with this target and source is an arrival: no reset is pending and a reply place is free (R145, R146, R156). -/
structure State.Hears (s : State) (h : Header) (t : ReqTarget) (src : Source) : Prop where
  noReset : s.link.resetPending = false
  place : s.placeFree = true
  target : targetOf h.target = some t
  source : sourceOf h.source = some src

/-- A management request from a source that may manage is an arrival (R149, R161). -/
structure State.HearsManager (s : State) (h : Header) (src : Source) : Prop extends s.Hears h .part src where
  manager : s.manages src = true

/-- Nothing stands in the exchange queues, the waiting places or the Admission Queue, and the over-budget flag is right. -/
structure State.Unengaged (s : State) : Prop where
  urgent : s.bus.urgent = []
  normal : s.bus.normal = []
  waiting : ∀ b, (s.bay b).waiting = []
  admission : s.adm.queue = []
  flag : s.FlagFollows

/-- Besides that, nothing is on the bus and no survey runs. -/
structure State.Resting (s : State) : Prop extends s.Unengaged where
  survey : s.survey.running = false
  current : s.bus.current = none
  free : s.bus.transaction = .free

/-- Besides that, every reservation is that of its bay's state, and no bay has a request, a protective operation or a restore to
make. -/
structure State.Calm (s : State) : Prop extends s.Resting where
  balanced : s.Balanced
  queue : ∀ b, (s.bay b).queue = []
  slot : ∀ b, (s.bay b).slot = none
  intent : ∀ b, (s.bay b).restoreIntent = false

/-- As `Calm`, but this bay may have requests, a protective operation and a restore to make. -/
structure State.CalmBut (s : State) (b : Bay) : Prop extends s.Resting where
  balanced : s.Balanced
  queue : ∀ c, c ≠ b → (s.bay c).queue = []
  slot : ∀ c, c ≠ b → (s.bay c).slot = none
  intent : ∀ c, c ≠ b → (s.bay c).restoreIntent = false

/-- The survey runs with its QUERYs placed: an attempt of bay `b`'s, the current exchange `c`, awaits its answer, those of `rest` wait
their turn, and nothing else stands or holds a bay (R23, R24). -/
structure State.Surveying (s : State) (b : Bay) (c : Current) (station : Byte) (rest : List Bay) : Prop where
  survey : s.survey = { running := true, settle := none }
  current : s.bus.current = some c
  exchange : c.ex = s.exchangeFor b .query .survey []
  window : c.answerBy.isSome = true
  plain : c.resendAt = none ∧ c.disregarded = false ∧ c.cutShort = false ∧ c.replaced = false
  transaction : s.bus.transaction = .attempt
  station : bayAt station = some b
  urgent : s.bus.urgent = []
  normal : s.bus.normal = rest.map fun d => s.exchangeFor d .query .survey []
  others : b ∉ rest
  waiting : ∀ d, (s.bay d).waiting = []
  admission : s.adm.queue = []
  flag : s.FlagFollows
  balanced : s.Balanced
  unknown : (s.bay b).state = .unknown
  queue : ∀ d, (s.bay d).queue = []
  slot : ∀ d, (s.bay d).slot = none
  intent : ∀ d, (s.bay d).restoreIntent = false

/-- An exchange `c` is current and these stand in the Normal queue; besides, bay `b` alone may have a protective operation, and neither
the survey nor an admission stands. -/
structure State.Engaged (s : State) (b : Bay) (c : Current) (normal : List Exchange) : Prop where
  current : s.bus.current = some c
  urgent : s.bus.urgent = []
  normal : s.bus.normal = normal
  waiting : ∀ d, (s.bay d).waiting = []
  slot : ∀ d, d ≠ b → (s.bay d).slot = none
  survey : s.survey.running = false
  admission : s.adm.queue = []
  flag : s.FlagFollows
  balanced : s.Balanced

/-- At rest and balanced, with this bay free of requests and protective operations. -/
structure State.FreeBay (s : State) (b : Bay) : Prop extends s.Resting where
  balanced : s.Balanced
  queue : (s.bay b).queue = []
  slot : (s.bay b).slot = none

/-- The check of a request of this kind that becomes head of bay `b` completes it (R32, R34, R43). -/
def State.HeadCompletes (s : State) (b : Bay) (k : ReqKind) (c : Completion) : Prop :=
  (s.bay b).slot = none ∧ headCheck k (s.bay b).state = .complete c

/-- A request of this kind that becomes head of bay `b` waits in phase `p`, with the Admission Queue entries `q`: held by the slot or by
the state, deferred by the level, or queued for the budget or the stagger (R32, R33, R35, R67). -/
def State.HeadWaits (s : State) (b : Bay) (k : ReqKind) (p : Phase) (q : List AdmEntry) : Prop :=
  (((s.bay b).slot.isSome = true ∨ headCheck k (s.bay b).state = .hold) ∧ p = .checking ∧ q = [])
    ∨ ((s.bay b).slot = none ∧ ∃ a, headCheck k (s.bay b).state = .permit a
        ∧ ((s.permits b a = false ∧ p = .deferred ∧ q = [])
          ∨ (s.permits b a = true ∧ s.admits { bay := b, kind := a } = false ∧ p = .admitting ∧ q = [{ bay := b, kind := a }])))

/-- What the member of a group request for bay `b` gets in the event of the arrival: a result, or none while it is pending; the phase and
the wait deadline of its entry, where one stays; the Admission Queue entries. It fails a check, stands Queued behind others, completes
at once, or waits at the head (R29, R32, R50). -/
def State.MemberGets (s : State) (k : ReqKind) (src : Source) (b : Bay) (result : Option Completion)
    (entry : Option (Phase × Option Count)) (q : List AdmEntry) : Prop :=
  ((∃ c, s.memberFailure k src b = some c ∧ result = some c) ∧ entry = none ∧ q = [])
    ∨ (s.memberFailure k src b = none
        ∧ (((s.bay b).queue ≠ [] ∧ result = none ∧ entry = some (.queued, none) ∧ q = [])
          ∨ ((s.bay b).queue = [] ∧ (∃ c, s.HeadCompletes b k c ∧ result = some c) ∧ entry = none ∧ q = [])
          ∨ ((s.bay b).queue = [] ∧ result = none ∧ ∃ p, s.HeadWaits b k p q ∧ entry = some (p, s.waitDeadline))))

/-- What a head whose wait deadline expires has waited for, with the Admission Queue that stands then (R38). -/
def State.WaitedFor (s : State) (b : Bay) (r : Request) (secondary : Nat) : Prop :=
  (r.phase = .deferred ∧ secondary = 1 ∧ s.adm.queue = [])
    ∨ (r.phase = .admitting ∧ secondary = 2 ∧ ∃ k, s.adm.queue = [{ bay := b, kind := k }])
    ∨ (r.phase = .checking ∧ (s.bay b).slot.isSome = true ∧ secondary = 1 ∧ s.adm.queue = [])
    ∨ (r.phase = .checking ∧ (s.bay b).slot = none ∧ secondary = 3 ∧ s.adm.queue = [])

/-- Nothing is on the bus or waits for it, no survey runs and the over-budget flag is right: `Resting`, but for the Admission Queue. -/
structure State.BusRests (s : State) : Prop where
  survey : s.survey.running = false
  urgent : s.bus.urgent = []
  normal : s.bus.normal = []
  current : s.bus.current = none
  free : s.bus.transaction = .free
  waiting : ∀ b, (s.bay b).waiting = []
  flag : s.FlagFollows

/-- Only the exchange `c` stands: an attempt of it, addressed to `station`, awaits its answer, and nothing has marked it. -/
structure State.Alone (s : State) (c : Current) (station : Byte) : Prop extends s.Unengaged where
  survey : s.survey.running = false
  current : s.bus.current = some c
  transaction : s.bus.transaction = .attempt
  window : c.answerBy.isSome = true
  noResend : c.resendAt = none
  plain : c.disregarded = false ∧ c.cutShort = false ∧ c.replaced = false
  target : c.ex.target.address = station

/-- The same part with this current exchange and these in the Urgent queue. -/
def State.marked (s : State) (c : Current) (urgent : List Exchange) : State :=
  { s with bus := { s.bus with current := some c, urgent := urgent } }

/-- The command is an answer of the station to an attempt of `c`, whatever it says, or the end of its answer window (R130). -/
def State.EndsAttempt (s : State) (c : Current) (station : Byte) (i : Instr) : Prop :=
  i.answerFrom = some station ∨ (i = .answerWindowExpiry ∧ s.expires c.answerBy = true)

/-- The rise of bay `b`'s effective level to `l`, whose effective action has the kind `k`, sweeps the bay (R110). -/
structure State.Sweeps (s : State) (b : Bay) (z : Zone) (l : Level) (k : ProtKind) : Prop where
  level : l = s.prot.levels.of z
  rises : (s.level b).val < l.val
  action : (s.prot.action l).kind = some k
  sweep : (s.bay b).sweepLevel.val < l.val
  state : (s.bay b).state ≠ .empty

/-- A write of the Bay Assignment table that leaves bay `b`'s class and gives it a zone (R105). -/
def State.rezone (s : State) (h : Header) (b : Bay) (z : Zone) : Instr :=
  .tableWriteBayAssignment h [byte b.val, byte (s.bay b).cls.val, byte z.code]

/-- The reply to it (R185). -/
def State.rezoned (s : State) (h : Header) (b : Bay) (z : Zone) : Reply :=
  { tag := h.tag, completion := { code := .done, secondary := 0 }
    payload := [2, byte b.val, byte (s.bay b).cls.val, byte z.code], echo := none }

/-- What a fault of a bay interrupts: its queue is empty, or holds one Issued request that stands alone; with the replies its end gives
and the request kind the fault records (R17, R40, R171; that a STATUS or PASS head gets no payload is log 52). -/
def State.Interrupts (s : State) (b : Bay) (cause : Cause) (rs : List Reply) (w : Work) : Prop :=
  ((s.bay b).queue = [] ∧ rs = [] ∧ w = if (s.bay b).slot.isSome then .protective else .none)
    ∨ ∃ r src tag, (s.bay b).queue = [r] ∧ r.phase = .issued ∧ r.origin = .upstream src tag none
        ∧ (s.bay b).restoreIntent = false
        ∧ rs = [{ tag := tag, completion := { code := .bayFault, secondary := cause.code }, payload := [], echo := none }]
        ∧ w = if (s.bay b).slot.isSome then .protective else .request r.kind

/-- The Bay Record after a fault that ended its work at the Peak of its class (R14 to R17). -/
def State.faultedBay (s : State) (b : Bay) (st : BayState) (cause : Cause) (secondary : Nat) : BayRecord :=
  { s.bay b with
    state := st, reservation := (s.profileOf b).peak, deadline := none, slot := none, queue := []
    lastFault := some { cause := cause, secondary := secondary, time := s.now } }

/-- A station frame of this kind meets a free bus with a good check (R129, R141). -/
structure State.Receives (s : State) (kind : Byte) (f : StationFrame) : Prop where
  free : s.bus.transaction = .free
  ofKind : f.kind = kind
  check : f.check = stationCheck f.initiator kind f.payload

/-! ### What a claim says of the next state -/

/-- The port with replies added at the tail, and the oldest reply taken for transmission when the transmitter is free (R147,
R148). For an empty list of replies it says nothing of the notice a free transmitter takes. -/
def UpstreamPort.given (l : UpstreamPort) (rs : List Reply) : UpstreamPort :=
  match l.tx with
  | some _ => { l with replies := l.replies ++ rs }
  | none => { l with tx := ((l.replies ++ rs).head?).map .reply, replies := (l.replies ++ rs).tail }

/-- Notices handed over one after the other (R179). -/
def NoticeQueue.handAll (q : NoticeQueue) (ns : List Notice) : NoticeQueue := ns.foldl NoticeQueue.hand q

/-- An event that began in `s` ended in `t` after these replies were placed and these notices handed over, before the transmitter took
a frame (R147, R148, R179). -/
def State.Tells (s t : State) (rs : List Reply) (ns : List Notice) : Prop :=
  ∃ u, t = close u ∧ u.link = { s.link with replies := s.link.replies ++ rs } ∧ u.notices = s.notices.handAll ns

/-- An event recorded the completion `c` of bay `b`'s member in the group record `g`, which held `rec`: one less is outstanding and no
reply is placed, or, with the last, one reply for every member is placed and the record is free (R51, R52); with these notices. -/
def State.Records (s t : State) (g : Fin 8) (rec : GroupRecord) (b : Bay) (c : Completion) (ns : List Notice) : Prop :=
  (1 < rec.outstanding →
      t.groups = s.groups.set g (some { rec with
          members := rec.members.map fun m => if m.bay = b then { m with result := some c } else m
          outstanding := rec.outstanding - 1 })
        ∧ s.Tells t [] ns)
    ∧ (rec.outstanding = 1 → t.groups = s.groups.set g none
        ∧ ∀ f : Bay → Completion, f b = c → (∀ m ∈ rec.members, m.bay ≠ b → m.result = some (f m.bay)) →
            s.Tells t [groupReply rec.tag (rec.members.map fun m => (m.bay, f m.bay))] ns)

/-- The BAY notice of a bay that takes a state, where it is another one (R8). -/
def State.bayNews (s : State) (b : Bay) (st : BayState) : List Notice :=
  if (s.bay b).state = st then [] else [.bay b st ((s.profileOf b).reservation st) s.now]

/-- The BUDGET notice of a committed current that changes the over-budget flag (R72). It follows the other notices of the changes of
its event (log 39). -/
def State.budgetNews (s : State) (committed : Nat) : List Notice :=
  if decide (s.adm.effLimit < committed) = s.adm.overBudget then []
  else [.budget (decide (s.adm.effLimit < committed)) committed s.adm.effLimit s.now]

/-- The notices of a fault of a bay whose committed current becomes `committed` (R8, R72, R171; their order is log 18). -/
def State.faultNews (s : State) (b : Bay) (st : BayState) (cause : Cause) (secondary : Nat) (w : Work) (committed : Nat) :
    List Notice :=
  s.bayNews b st ++ [.fault (.bay b) cause secondary w s.ffr.isNone s.now] ++ s.budgetNews committed

/-- The LEVEL notices of the zones whose level changes, sensors 0 to 3 and then All (R106). -/
def State.levelNews (s : State) (new : ZoneLevels) : List Notice :=
  ([.sensor 0, .sensor 1, .sensor 2, .sensor 3, .all] : List Zone).filterMap fun z =>
    if s.prot.levels.of z = new.of z then none else some (.level z (s.prot.levels.of z) (new.of z) s.now)

/-- The port after an arrival that is answered: it hunts, whatever it was in (log 8), and the reply is given (R145, R147, R148). -/
def UpstreamPort.answer (l : UpstreamPort) (r : Reply) : UpstreamPort :=
  ({ l with rx := .hunting, gap := none } : UpstreamPort).given [r]

/-- The whole state after an event that only gives a reply on its own account: no frame on the bay bus, the alert line driven. -/
def State.gave (s : State) (r : Reply) : State :=
  driveAlertLine { s with link := s.link.given [r], bus := { s.bus with sent := [] } }

/-- The whole state after an arrival that is answered at once; the receiver hunts, whatever it was in (log 8). -/
def State.answered (s : State) (r : Reply) : State :=
  driveAlertLine { s with link := s.link.answer r, bus := { s.bus with sent := [] } }

/-- The whole state after an event that only puts frames on the bay bus. -/
def State.sends (s : State) (frames : List BusFrame) : State := close { s with bus := { s.bus with sent := frames } }

/-- The state after a request frame that is dropped: the receiver hunts and the drop is counted (R145). -/
def State.dropped (s : State) : State :=
  { s with link := { s.link with rx := .hunting, gap := none,
                                 drops := if s.link.drops < 65535 then s.link.drops + 1 else s.link.drops } }

/-- The bus with the first attempt of an exchange, which is the only one that stands (R128, R130). -/
def State.firstAttempt (s : State) (x : Exchange) : BusController :=
  { urgent := [], normal := []
    current := some { ex := x, resends := 0, answerBy := some (s.after 50), resendAt := none, disregarded := false,
                      cutShort := false, replaced := false }
    transaction := .attempt, sent := [x.frame] }

/-- The bus with nothing on it, after the part sent these frames. -/
def idleBus (sent : List BusFrame) : BusController :=
  { urgent := [], normal := [], current := none, transaction := .free, sent := sent }

/-- The Admission Unit with another committed current: the flag follows, the rest stays (R60, R72). -/
def Admission.committing (a : Admission) (committed : Nat) : Admission :=
  { a with committed := committed, overBudget := decide (a.effLimit < committed) }

/-- The Admission Unit after one reservation current changed from `old` to `new`. -/
def Admission.moved (a : Admission) (old new : Nat) : Admission := a.committing (a.committed + new - old)

/-- The First Fault Record after a fault of a bay (R174). -/
def State.faultTaken (s : State) (subject : Subject) (cause : Cause) (secondary : Nat) (work : Work) : Option FirstFault :=
  match s.ffr with
  | none => some { subject := subject, cause := cause, secondary := secondary, work := work, time := s.now, later := 0 }
  | some f => some { f with later := if f.later < 255 then f.later + 1 else f.later }

/-- Only this bay, the Admission Unit, the bus, the First Fault Record, the port, the notices and the alert line may differ. -/
def State.KeepsBut (s t : State) (b : Bay) : Prop :=
  t = { s with bays := s.bays.set b (t.bay b), adm := t.adm, bus := t.bus, ffr := t.ffr, link := t.link, notices := t.notices,
               alertLine := t.alertLine }

/-- Only the port, the notices, the alert line and the record of sent frames may differ: an event that only answers. -/
def State.AnswersOnly (s t : State) : Prop :=
  t = { s with link := t.link, notices := t.notices, alertLine := t.alertLine, bus := { s.bus with sent := t.bus.sent } }

/-- The outcome is a next state with a property. -/
def Answers (o : Host.Outcome State Fault Refusal) (p : State → Prop) : Prop := ∃ t, o = .next t ∧ p t

/-- The outcome, where it is a next state, has a property. -/
def WheneverNext (o : Host.Outcome State Fault Refusal) (p : State → Prop) : Prop := ∀ t, o = .next t → p t

end Sys2Proof.Machine
end

