-- ==== Sys2Proof/Certificates/Slice0/Obligations.lean ====
section
/-! DEFINITION. The statements for the provers: the queue and the clock, resets, invariants that every step keeps, rules for all
commands, the arithmetic of the rules, and for every command the next state its own effect gives. -/

open Sys2Proof Sys2Proof.Machine

/-! ### The queue, the clock, resets -/

/-- A step runs the command at the front of the queue with the queue's rest, and idles on an empty queue (the idling is the model's
choice, log 5). -/
def Obligations.StepRunsTheFrontCommand : Prop :=
  (∀ (c : Instr) (s : State), step { s with pending := c :: s.pending } = exec c s)
    ∧ ∀ s : State, s.pending = [] → step s = .next s

/-- Every command answers a next state with the same commands waiting; the tick counts the millisecond counter up by one modulo 2^32
and does nothing else; no other command but power-on reset moves it (R1). That the commands that wait stay as they are is the model's
own queue (logs 27 and 38), no rule of the spec. -/
def Obligations.CommandsAnswerAndOnlyTheTickCounts : Prop :=
  (∀ (c : Instr) (s : State), Answers (exec c s) fun t => t.pending = s.pending)
    ∧ (∀ s : State, exec .millisecondCounterTick s = .next { s with now := s.now + 1 })
    ∧ ∀ (c : Instr) (s : State), c ≠ .millisecondCounterTick → c ≠ .powerOnReset → Answers (exec c s) fun t => t.now = s.now

/-- What power-on reset leaves, by the values the rules give (R1, R3, R23, R54, R55, R58, R75, R78, R79, R89, R102, R107, R124,
R144, R152, R157, R158, R161, R173, R180 to R183). The model's own, not the rules': that the commands
that wait still wait (log 38); that the entering BUDGET notice stands queued with the transmitter free (log 4); the marks surveyed and
known and the one that a further RATE is owed, and the record of sent frames (logs 20, 22, 26, 35). -/
def Obligations.PowerOnResetLeavesTheStatedValues : Prop :=
  ∀ s : State, Answers (exec .powerOnReset s) fun t =>
    t.now = 0 ∧ t.pending = s.pending
      ∧ (∀ b, t.bay b =
          { state := .unknown, cls := 0, zone := .all, reservation := 2500, holder := none, queue := [], slot := none,
            sweepLevel := 0, restoreIntent := false, deadline := none, cache := none, retry := 0, lastFault := none,
            waiting := [], surveyed := false, known := false })
      ∧ t.survey = { running := true, settle := some 200 }
      ∧ t.adm.limit = 0 ∧ t.adm.margin = 10 ∧ t.adm.effLimit = 0 ∧ t.adm.committed = 60000 ∧ t.adm.queue = []
      ∧ t.adm.staggerDue = none ∧ t.adm.lastSpin = none ∧ t.adm.overBudget = true
      ∧ (∀ c : Fin 8, t.adm.profiles[c] =
          { peak := 2500, idle := 800, active := 1000, surge := 300, spinUpTime := 25000, loadTime := 3000, unloadTime := 2000
            parkTime := 500, stopTime := 30000 })
      ∧ (∀ i : SensorId, t.sensors[i] =
          { enabled := true, rate := .hz400, requested := none, furtherRate := false, expected := none
            conds := { rolling := false, tilted := false, jolt := false, falling := false, blind := false }
            lowRun := 0, highRun := 0, tiltRun := 0, untiltRun := 0, fallStart := none, lastHigh := none, debounceDue := none
            joltDue := none, window := List.replicate 16 0, vibSum := 0, blindDue := some 250, lastSample := none, lastFall := none })
      ∧ t.thresholds =
          { lowG := 307, nLow := 6, highG := 3072, nHigh := 2, joltHold := 2000, debounce := 1000, fallMin := 100, fallMax := 1500
            vOn := 40, vOff := 20, tiltC := 49152, nTilt := 200, blindTime := 50 }
      ∧ t.latch = none ∧ t.caseLevel = 0 ∧ (∀ b, t.level b = 0) ∧ (∀ z : Zone, t.prot.levels.of z = 0)
      ∧ t.prot.map.toList = [2, 4, 4, 5, 7, 6]
      ∧ (∀ l : Level, t.prot.actions[l].action = (if l.val < 4 then .none else if l.val = 4 then .unload else .park)
          ∧ (t.prot.actions[l].loadPermit = true ↔ l.val ≤ 1) ∧ (t.prot.actions[l].spinPermit = true ↔ l.val ≤ 4))
      ∧ (∀ i : SensorId, t.prot.copies[i] = { enabled := true, conds := Conditions.clear }) ∧ t.prot.latchCopy = false
      ∧ t.bus = idleBus [] ∧ t.ffr = none
      ∧ t.notices.queue = [.budget true 60000 0 0] ∧ t.notices.dropped = false
      ∧ t.notices.routing.toList = [true, true, true, true, true, true, false, true, true]
      ∧ t.link = { rx := .hunting, gap := none, drops := 0, replies := [], tx := none, resetPending := false }
      ∧ (∀ g : Fin 8, t.groups[g] = none) ∧ (∀ w : Fin 8, t.windows[w] = { enabled := false, sources := 0, base := 0, span := 0, perms := 0 })
      ∧ (∀ src : Source, t.manages src = true)
      ∧ t.timing =
          { stagger := 1500, waitLimit := 120000, freshness := 500, retryLimit := 3, retryThreshold := 16, alertThreshold := 5
            restoreCeiling := 1, alertMask := 0xF }
      ∧ t.alertLine = true

/-- The end of a transmission frees the transmitter, which takes the oldest reply, otherwise the oldest notice (R148). When it was a
reply's, a reset is pending and no reply waits, the soft reset takes place: it keeps the counter, tables, supply settings, link
drop count and receiver, and clears bays, queues, levels, latch, faults and notices (R3, R54, R75, R78, R124, R144, R156, R157, R173,
R180). That nothing happens while no frame is in transmission is the model's reading (log 6); the marks of bays and sensors are its own
(logs 20, 22). -/
def Obligations.TransmissionEndTakesTheNextFrameOrResets : Prop :=
  (∀ s : State, s.link.tx = none → exec .transmissionEnd s = .next s)
    ∧ (∀ (s : State) (f : TxFrame), s.link.tx = some f →
        (s.link.resetPending = false ∨ (∃ n, f = .notice n) ∨ s.link.replies ≠ []) →
        Answers (exec .transmissionEnd s) fun t =>
          s.AnswersOnly t ∧ t.bus.sent = [] ∧ t.LineFollows
            ∧ (match s.link.replies, s.notices.queue with
              | r :: rest, _ => t.link = { s.link with tx := some (.reply r), replies := rest } ∧ t.notices = s.notices
              | [], n :: rest =>
                t.link = { s.link with tx := some (.notice n) } ∧ t.notices = { s.notices with queue := rest }
              | [], [] => t.link = { s.link with tx := none } ∧ t.notices = s.notices))
    ∧ ∀ (s : State) (r : Reply), s.link.tx = some (.reply r) → s.link.resetPending = true → s.link.replies = [] →
        ∃ u : State, exec .transmissionEnd s = .next (close u)
          ∧ u.now = s.now ∧ u.timing = s.timing ∧ u.thresholds = s.thresholds ∧ u.windows = s.windows ∧ u.sources = s.sources
          ∧ u.prot.map = s.prot.map ∧ u.prot.actions = s.prot.actions ∧ u.notices.routing = s.notices.routing
          ∧ u.adm.profiles = s.adm.profiles ∧ u.adm.limit = s.adm.limit ∧ u.adm.margin = s.adm.margin
          ∧ u.link = { s.link with tx := none, resetPending := false }
          ∧ (∀ b, u.bay b = { BayRecord.reset with cls := (s.bay b).cls, zone := (s.bay b).zone,
                                                   reservation := (s.profileOf b).peak })
          ∧ u.adm.committed = sumReservations u.bays ∧ u.adm.queue = [] ∧ u.adm.staggerDue = none ∧ u.adm.lastSpin = none
          ∧ u.FlagFollows ∧ u.notices.dropped = false
          ∧ u.notices.queue = (if u.adm.overBudget && s.notices.routing[7] then
              [.budget true u.adm.committed u.adm.effLimit s.now] else [])
          ∧ u.survey = { running := true, settle := some (s.now + 200) }
          ∧ (∀ i : SensorId, u.sensors[i] =
              { enabled := s.sensors[i].enabled, rate := s.sensors[i].rate, requested := none, furtherRate := false, expected := none
                conds := Conditions.clear, lowRun := 0, highRun := 0, tiltRun := 0, untiltRun := 0, fallStart := none, lastHigh := none
                debounceDue := none, joltDue := none, window := List.replicate 16 0, vibSum := 0
                blindDue := if s.sensors[i].enabled then some (s.now + 200 + BitVec.ofNat 32 s.thresholds.blindTime) else none
                lastSample := none, lastFall := none })
          ∧ (∀ i : SensorId, u.prot.copies[i] = { enabled := s.sensors[i].enabled, conds := Conditions.clear })
          ∧ u.prot.latchCopy = false ∧ (∀ z : Zone, u.prot.levels.of z = 0)
          ∧ u.latch = none ∧ u.caseLevel = 0 ∧ u.ffr = none ∧ u.bus.urgent = [] ∧ u.bus.normal = []
          ∧ (∀ c, s.bus.current = some c →
              u.bus.current = if c.resendAt.isSome then none else some { c with disregarded := true })
          ∧ (s.bus.current = none → u.bus.current = none) ∧ ∀ g : Fin 8, u.groups[g] = none

/-! ### Invariants every step keeps -/

/-- Every reservation current stays that of its bay's state and class, and the committed current stays their sum (R7, R60, R61). -/
def Obligations.StepKeepsTheBooksBalanced : Prop :=
  ∀ s t : State, s.Balanced → step s = .next t → t.Balanced

/-- The Notice Queue never holds more than 32 notices, nor two with the same kind and subject (R179); a bay queue never holds more than
4 requests (R30); and no bay comes to have two individual exchanges in the queues, or one beside a current exchange that is not
protective (R113, R127, R136). -/
def Obligations.StepKeepsTheQueues : Prop :=
  ∀ s t : State, step s = .next t → (s.notices.WellKept → t.notices.WellKept) ∧ (s.QueuesFit → t.QueuesFit)
    ∧ (s.ExchangesStandSingly → t.ExchangesStandSingly)

/-- The zone levels stay those of the motion copies, the latch copy stays the latch, and the motion copies stay the sensors'
conditions (R100, R101, R103, R104); the over-budget flag stays right, and the alert line stays asserted exactly while a source holds
(R72, R182). -/
def Obligations.StepKeepsTheLevelsTheFlagAndTheLine : Prop :=
  ∀ s t : State, step s = .next t → (s.LevelsHold → t.LevelsHold) ∧ (s.CopiesHold → t.CopiesHold)
    ∧ (s.FlagFollows → t.FlagFollows) ∧ (s.LineFollows → t.LineFollows)

/-- A bay stays at most once in the Admission Queue, and only while its head is a SPIN-UP or LOAD in phase Admitting (R36, R62 to
R64). -/
def Obligations.StepKeepsTheAdmissionQueue : Prop :=
  ∀ s t : State, s.AdmissionConsistent → step s = .next t → t.AdmissionConsistent

/-- Every stored profile stays normalized, the supply settings stay in range with their effective limit, and some source keeps its
manage flag (R56, R58, R161); a disabled sensor stays without conditions and deadlines, and every vibration sum stays that of its window
of 16 (R93, R96). -/
def Obligations.StepKeepsTheSettingsAndTheSensors : Prop :=
  ∀ s t : State, step s = .next t →
    (s.ProfilesNormalized → t.ProfilesNormalized) ∧ (s.SupplyHolds → t.SupplyHolds) ∧ (s.SomeManager → t.SomeManager)
      ∧ (s.DisabledSensorsRest → t.DisabledSensorsRest) ∧ (s.VibrationSumsHold → t.VibrationSumsHold)

/-- The invariants hold after power-on reset. -/
def Obligations.InvariantsHoldAtReset : Prop :=
  State.reset.Balanced ∧ State.reset.notices.WellKept ∧ State.reset.LevelsHold ∧ State.reset.CopiesHold
    ∧ State.reset.AdmissionConsistent ∧ State.reset.FlagFollows ∧ State.reset.LineFollows ∧ State.reset.ProfilesNormalized
    ∧ State.reset.SupplyHolds ∧ State.reset.SomeManager ∧ State.reset.QueuesFit ∧ State.reset.DisabledSensorsRest
    ∧ State.reset.VibrationSumsHold ∧ State.reset.ExchangesStandSingly

/-! ### Rules for all commands -/

/-- A captured fault stays as it was captured but for the count of later faults, which does not fall, until FAULT-RELEASE or a
reset; the impact latch, once set, keeps its record until MOTION-RESUME or a reset (R89, R123, R174, R175). -/
def Obligations.TheFirstFaultAndTheLatchStay : Prop :=
  (∀ (c : Instr) (s : State) (f : FirstFault), s.ffr = some f → c.mayReset = false → (∀ h p, c ≠ .faultRelease h p) →
      Answers (exec c s) fun t => ∃ n, f.later ≤ n ∧ t.ffr = some { f with later := n })
    ∧ ∀ (c : Instr) (s : State) (r : ImpactRecord), s.latch = some r → c.mayReset = false → (∀ h p, c ≠ .motionResume h p) →
      Answers (exec c s) fun t => t.latch = some r

/-- No command but a table write changes a table; a soft reset keeps every table too (R151, R157). Of the Sensor table only the enabled
field is meant: its rate field also changes at a RATE outcome and at a soft reset (R77, R78, R99). -/
def Obligations.OnlyTableWritesChangeTables : Prop :=
  ∀ (c : Instr) (s : State), c.mayWriteTables = false →
    Answers (exec c s) fun t =>
      t.adm.profiles = s.adm.profiles ∧ (∀ b, (t.bay b).cls = (s.bay b).cls ∧ (t.bay b).zone = (s.bay b).zone)
        ∧ t.prot.map = s.prot.map ∧ t.prot.actions = s.prot.actions
        ∧ (∀ i : SensorId, t.sensors[i].enabled = s.sensors[i].enabled) ∧ t.thresholds = s.thresholds
        ∧ t.windows = s.windows ∧ t.sources = s.sources ∧ t.notices.routing = s.notices.routing ∧ t.timing = s.timing

/-- A bay's reservation holder changes only by RESERVE, RELEASE, RESERVATIONS-CLEAR, a reset, or the removal of its drive, which
leaves the bay Empty without a holder (R22, R162 to R167). -/
def Obligations.HoldersChangeOnlyByTheirRequests : Prop :=
  ∀ (c : Instr) (s : State) (b : Bay), c.mayReset = false → (∀ h p, c ≠ .reserve h p) → (∀ h p, c ≠ .release h p) →
    (∀ h p, c ≠ .reservationsClear h p) →
    Answers (exec c s) fun t =>
      (t.bay b).holder = (s.bay b).holder ∨ ((t.bay b).holder = none ∧ (t.bay b).state = .empty)

/-! ### The arithmetic of the rules -/

/-- The squared magnitude and the high-g and low-g tests, with the defaults and the samples of the rule's table (R84); the tilt test in
exact products, the two runs, Tilted, and the rule's samples (R94). -/
def Obligations.R84SampleTestsAndR94Tilted : Prop :=
  (∀ x y z : Int, -32768 ≤ x → x ≤ 32767 → -32768 ≤ y → y ≤ 32767 → -32768 ≤ z → z ≤ 32767 →
      (squaredMagnitude x y z : Int) = x * x + y * y + z * z ∧ squaredMagnitude x y z ≤ 3221225472)
    ∧ (∀ (t : Thresholds) (m : Nat), t.high m = true ↔ t.highG ^ 2 < m)
    ∧ (∀ (t : Thresholds) (m : Nat) (d : Option Count), t.low m d = true ↔ m < t.lowG ^ 2 ∧ d = none)
    ∧ (∀ (t : Thresholds) (m : Nat) (d : Option Count), 1024 ≤ t.highG → t.lowG ≤ 1023 → ¬ (t.high m = true ∧ t.low m d = true))
    ∧ Thresholds.default.lowG ^ 2 = 94249 ∧ Thresholds.default.highG ^ 2 = 9437184
    ∧ squaredMagnitude 0 0 1024 = 1048576 ∧ squaredMagnitude 10 (-5) 40 = 1725
    ∧ squaredMagnitude 200 100 5000 = 25050000 ∧ squaredMagnitude 150 (-80) 4200 = 17668900
    ∧ squaredMagnitude 100 (-50) 1200 = 1452500
    ∧ Thresholds.default.low 1725 none = true ∧ Thresholds.default.low 1725 (some 5) = false
    ∧ Thresholds.default.high 25050000 = true ∧ Thresholds.default.high 17668900 = true
    ∧ Thresholds.default.high 1452500 = false ∧ Thresholds.default.low 1452500 none = false
    ∧ Thresholds.default.high 1048576 = false ∧ Thresholds.default.low 1048576 none = false
    ∧ (∀ (t : Thresholds) (m : Nat) (z : Int),
      t.tilts m z = true ↔ z ≤ 0 ∨ 65536 * (z * z) < (t.tiltC : Int) * (m : Int))
    ∧ (∀ (r : SensorRecord) (t : Thresholds), r.tiltRun < 65535 →
        (r.tiltStep t true).tiltRun = r.tiltRun + 1 ∧ (r.tiltStep t true).untiltRun = 0)
    ∧ (∀ (r : SensorRecord) (t : Thresholds), r.untiltRun < 65535 →
        (r.tiltStep t false).untiltRun = r.untiltRun + 1 ∧ (r.tiltStep t false).tiltRun = 0)
    ∧ (∀ (r : SensorRecord) (t : Thresholds) (tilted : Bool), r.conds.tilted = false →
        ((r.tiltStep t tilted).conds.tilted = true ↔ t.nTilt ≤ (r.tiltStep t tilted).tiltRun))
    ∧ (∀ (r : SensorRecord) (t : Thresholds) (tilted : Bool), r.conds.tilted = true →
        ((r.tiltStep t tilted).conds.tilted = false ↔ t.nTilt ≤ (r.tiltStep t tilted).untiltRun))
    ∧ Thresholds.default.nTilt = 200 ∧ Thresholds.default.nTilt * 1000 / Rate.hz400.hertz = 500
    ∧ (∀ t : Thresholds, t.tilts (squaredMagnitude 0 0 0) 0 = true)
    ∧ squaredMagnitude 600 0 830 = 1048900 ∧ Thresholds.default.tilts 1048900 830 = true
    ∧ squaredMagnitude 300 0 980 = 1050400 ∧ Thresholds.default.tilts 1050400 980 = false

/-- A fall: the low-g run and the assertion with the counter of the run's first sample (R86), the exit with its duration and height
(R87), and the outcome of a height (R88, R89). High-g samples set the deadlines (R85), and Jolt asserts at the end of a run of N_high
high-g samples; no sample clears it (R91). -/
def Obligations.FallsAreClassifiedAndJoltsAssert : Prop :=
  (∀ (r : SensorRecord) (t : Thresholds) (s : State),
      r.noteHigh t s.now s.after =
        { r with lastHigh := some s.now, joltDue := some (s.now + BitVec.ofNat 32 t.joltHold),
                 debounceDue := if t.debounce = 0 then none else some (s.now + BitVec.ofNat 32 t.debounce) })
    ∧ (∀ (r : SensorRecord) (t : Thresholds), r.joltStep t false = { r with highRun := 0 })
    ∧ (∀ (r : SensorRecord) (t : Thresholds), r.highRun < 65535 →
        r.joltStep t true =
          { r with highRun := r.highRun + 1, conds := { r.conds with jolt := r.conds.jolt || decide (t.nHigh ≤ r.highRun + 1) } })
    ∧ (∀ (r : SensorRecord) (t : Thresholds) (counter : Half), r.conds.falling = false →
      (r.fallStep t false counter) = { r with lowRun := 0 }
        ∧ (r.lowRun < 65535 → r.lowRun + 1 < t.nLow → r.fallStep t true counter = { r with lowRun := r.lowRun + 1 })
        ∧ (r.lowRun < 65535 → t.nLow ≤ r.lowRun + 1 →
            r.fallStep t true counter =
              { r with lowRun := r.lowRun + 1, conds := { r.conds with falling := true },
                       fallStart := some (counter - BitVec.ofNat 16 r.lowRun) }))
    ∧ (∀ (r : SensorRecord) (t : Thresholds) (counter : Half), r.conds.falling = true →
        r.fallStep t false counter =
          { r with lowRun := 0, conds := { r.conds with falling := false }, fallStart := none })
    ∧ (∀ (r : SensorRecord) (start exit : Half), r.fallStart = some start →
        r.duration exit = if 4095 ≤ r.lowRun then 4095 else min ((exit.toNat + 65536 - start.toNat) % 65536) 4095)
    ∧ (∀ n fs : Nat, fallHeight n fs = min (4903 * n ^ 2 / fs ^ 2) 65535)
    ∧ fallHeight 6 400 = 1 ∧ fallHeight 100 400 = 306 ∧ fallHeight 120 400 = 441 ∧ fallHeight 120 800 = 110
    ∧ fallHeight 120 200 = 1765 ∧ fallHeight 120 100 = 7060 ∧ fallHeight 4095 800 = 65535
    ∧ ∀ (s : State) (i : SensorId) (h : Nat),
        ((deliverFall i h s).sensors[i].lastFall =
          some { height := h, result := if h < s.thresholds.fallMin then .dip
                                        else if h ≤ s.thresholds.fallMax then .impact else .lowGLong })
        ∧ (h < s.thresholds.fallMin ∨ s.thresholds.fallMax < h → (deliverFall i h s).latch = s.latch)
        ∧ (h < s.thresholds.fallMin →
            (deliverFall i h s).notices = s.notices.hand (.dip i h s.now) ∧ (deliverFall i h s).ffr = s.ffr)
        ∧ (s.thresholds.fallMin ≤ h → h ≤ s.thresholds.fallMax →
            (deliverFall i h s).latch = some (s.latch.getD { sensor := i, height := h, time := s.now })
              ∧ (deliverFall i h s).notices = s.notices.hand (.impact i h s.now) ∧ (deliverFall i h s).ffr = s.ffr)
        ∧ (s.thresholds.fallMin ≤ h → s.thresholds.fallMax < h →
            (deliverFall i h s).notices = s.notices.hand (.lowGLong i h s.now)
              ∧ (deliverFall i h s).ffr = s.faultTaken (.sensor i) .sensor 2 .none)

/-- The vibration value, its greatest value (one above the range the rule prints, log 41), the window and the sum, Rolling with its two
thresholds, the empty window after a reset or a disable, and the rule's figures (R93). -/
def Obligations.VibrationAndRolling : Prop :=
  (∀ m : Nat, m ≤ 3221225472 →
      vibration m = (if m ≤ 1048576 then 1048576 - m else m - 1048576) / 1024 ∧ vibration m ≤ 3144704)
    ∧ (∀ (r : SensorRecord) (t : Thresholds) (v oldest : Nat) (rest : List Nat), r.window = oldest :: rest →
        (r.rollStep t v).window = rest ++ [v] ∧ (r.rollStep t v).vibSum = r.vibSum - oldest + v
          ∧ (r.conds.rolling = false →
              ((r.rollStep t v).conds.rolling = true ↔ t.vOn ≤ (r.vibSum - oldest + v) / 16))
          ∧ (r.conds.rolling = true →
              ((r.rollStep t v).conds.rolling = false ↔ (r.vibSum - oldest + v) / 16 < t.vOff)))
    ∧ (∀ i : SensorId, State.reset.sensors[i].window = List.replicate 16 0 ∧ State.reset.sensors[i].vibSum = 0)
    ∧ (∀ (s : State) (i : SensorId), (softReset s).sensors[i].window = List.replicate 16 0 ∧ (softReset s).sensors[i].vibSum = 0
        ∧ (disableSensor i s).sensors[i].window = List.replicate 16 0 ∧ (disableSensor i s).sensors[i].vibSum = 0)
    ∧ vibration 1452500 = 394 ∧ 16 * 394 / 16 = 394 ∧ 394 / 16 = 24

/-- The sensor level and the case-wide level from the motion copies, and the rows of the rule's table under the default map (R103). The
zone levels and a bay's effective level; the Case Alert Level, the greatest of them and that of zone All, with the alert line; while the
impact latch is set no zone stands below the Impact entry; the six levels in the Case Status record, the zone in the Bay Record (R104). -/
def Obligations.R103LevelsAndTheZonesAboveThem : Prop :=
  (∀ (p : Protection) (i : SensorId),
      (p.copies[i].enabled = false → (p.sensorLevel i).val = 0)
        ∧ (p.copies[i].enabled = true →
            (p.sensorLevel i).val =
              max (max (if p.copies[i].conds.rolling then p.map[0].val else 0) (if p.copies[i].conds.tilted then p.map[1].val else 0))
                (max (if p.copies[i].conds.jolt then p.map[3].val else 0) (if p.copies[i].conds.blind then p.map[2].val else 0))))
    ∧ (∀ (p : Protection) (f : Bool),
        (f = true ↔ ∃ i : SensorId, p.copies[i].enabled = true ∧ p.copies[i].conds.falling = true) →
          p.caseWide.val = max (if f then p.map[4].val else 0) (if p.latchCopy then p.map[5].val else 0))
    ∧ (∀ (p : Protection), p.map = State.reset.prot.map → p.copies[0].enabled = false → p.copies[2].enabled = false →
        p.copies[3].enabled = false →
        (p.copies[1] = ⟨true, ⟨true, false, false, false, false⟩⟩ → p.latchCopy = false → p.sensorLevel 1 = 2 ∧ p.caseWide = 0)
          ∧ (p.copies[1] = ⟨true, ⟨true, true, false, false, false⟩⟩ → p.latchCopy = false → p.sensorLevel 1 = 4 ∧ p.caseWide = 0)
          ∧ (p.copies[1] = ⟨true, ⟨true, false, true, false, false⟩⟩ → p.latchCopy = true → p.sensorLevel 1 = 5 ∧ p.caseWide = 6)
          ∧ (p.copies[1] = ⟨true, ⟨false, false, false, true, false⟩⟩ → p.latchCopy = false → p.sensorLevel 1 = 0 ∧ p.caseWide = 7)
          ∧ (p.copies[1] = ⟨false, ⟨true, false, false, false, true⟩⟩ → p.latchCopy = false → p.sensorLevel 1 = 0 ∧ p.caseWide = 0))
    ∧ (∀ (p : Protection) (i : SensorId), (p.computeLevels.sensor[i]).val = max p.caseWide.val (p.sensorLevel i).val)
    ∧ (∀ p : Protection, p.caseWide.val ≤ p.computeLevels.all.val
        ∧ (∀ i : SensorId, p.copies[i].enabled = true → (p.sensorLevel i).val ≤ p.computeLevels.all.val)
        ∧ (p.computeLevels.all = p.caseWide ∨ ∃ i : SensorId, p.copies[i].enabled = true ∧ p.computeLevels.all = p.sensorLevel i))
    ∧ (∀ s : State, s.LevelsHold → s.caseLevel = s.prot.levels.all ∧ (∀ z : Zone, (s.prot.levels.of z).val ≤ s.caseLevel.val)
        ∧ (s.latch.isSome = true → ∀ z : Zone, s.prot.map[5].val ≤ (s.prot.levels.of z).val))
    ∧ (∀ s : State, s.timing.alertMask.getLsbD 0 = true → s.timing.alertThreshold ≤ s.caseLevel.val → s.alertHolds = true)
    ∧ (∀ s : State, (s.caseStatus.drop 20).take 6 =
        [byte (s.prot.levels.of (.sensor 0)).val, byte (s.prot.levels.of (.sensor 1)).val, byte (s.prot.levels.of (.sensor 2)).val,
         byte (s.prot.levels.of (.sensor 3)).val, byte (s.prot.levels.of .all).val, byte s.caseLevel.val])
    ∧ ∀ (s : State) (b : Bay), s.level b = s.prot.levels.of (s.bay b).zone ∧ ((s.bay b).bytes.drop 2).take 1 = [byte (s.bay b).zone.code]

/-- The effective action is the strongest and a kind is permitted when every entry up to the level permits it; neither weakens as the
level rises; a read returns the stored entries; and the rule's example table behaves as shown (R108). -/
def Obligations.R108ActionsAndPermits : Prop :=
  (∀ (p : Protection) (l : Level),
      (∀ k : Level, k.val ≤ l.val → (p.actions[k]).action.code ≤ (p.action l).code)
        ∧ ((p.action l) = .none ∨ ∃ k : Level, k.val ≤ l.val ∧ (p.actions[k]).action = p.action l)
        ∧ (p.permits l .load = true ↔ ∀ k : Level, k.val ≤ l.val → (p.actions[k]).loadPermit = true)
        ∧ (p.permits l .spinUp = true ↔ ∀ k : Level, k.val ≤ l.val → (p.actions[k]).spinPermit = true))
    ∧ (∀ (p : Protection) (l m : Level) (k : AdmKind), l.val ≤ m.val →
        (p.action l).code ≤ (p.action m).code ∧ (p.permits l k = false → p.permits m k = false))
    ∧ (∀ (s : State) (l : Level), s.tableEntry 4 l.val = s.prot.actions[l].bytes)
    ∧ ∀ (p : Protection) (x y : ActionEntry),
        p.actions = #v[⟨.none, true, true⟩, ⟨.none, false, true⟩, ⟨.none, true, true⟩, ⟨.park, true, true⟩, ⟨.unload, true, false⟩,
                       ⟨.none, true, true⟩, x, y] →
        ([0, 1, 2, 3, 4, 5] : List Level).map p.action = [.none, .none, .none, .park, .park, .park]
          ∧ ([0, 1, 2, 3, 4, 5] : List Level).map (p.permits · .load) = [true, false, false, false, false, false]
          ∧ ([0, 1, 2, 3, 4, 5] : List Level).map (p.permits · .spinUp) = [true, true, true, true, false, false]

/-- A profile as written is stored normalized, with the Loading reservation between Active and Peak (R56); the effective limit is
floor(Limit × (100 − Margin) / 100) (R58); both with the rows of the rules' tables. A window as stored: Span one of six values, Base a
multiple of Span + 1; the two ways of saying that it contains a bay agree; and the window check by its three cases (R158, R159). -/
def Obligations.ProfilesLimitsAndWindows : Prop :=
  (∀ e : List Byte, (profileFrom e).Normalized)
    ∧ (∀ p : Profile, p.Normalized → p.active ≤ p.loadingReservation ∧ p.loadingReservation ≤ p.peak
        ∧ (∀ st : BayState, p.reservation st ≤ p.peak) ∧ normalizeProfile p = p)
    ∧ ((normalizeProfile { Profile.default with peak := 2000, idle := 2400, active := 1500, surge := 900 }) =
        { Profile.default with peak := 2000, idle := 2000, active := 2000, surge := 0 })
    ∧ ((normalizeProfile { Profile.default with peak := 3000, idle := 600, active := 400, surge := 2900 }) =
        { Profile.default with peak := 3000, idle := 600, active := 600, surge := 2400 })
    ∧ clampTime 0 = 1 ∧ clampTime 60001 = 60000
    ∧ (∀ l m : Nat, l ≤ 60000 → m ≤ 50 →
        effectiveLimit l m * 100 ≤ l * (100 - m) ∧ l * (100 - m) < (effectiveLimit l m + 1) * 100 ∧ effectiveLimit l m ≤ 60000)
    ∧ effectiveLimit 12000 10 = 10800 ∧ effectiveLimit 9000 10 = 8100 ∧ effectiveLimit 7777 33 = 5210
    ∧ effectiveLimit 60000 0 = 60000 ∧ effectiveLimit 60000 50 = 30000 ∧ effectiveLimit 0 10 = 0
    ∧ (∀ (e : List Byte) (w : Window), windowFrom e = some w →
      w.span ∈ [0, 1, 3, 7, 15, 31] ∧ w.base % (w.span + 1) = 0 ∧ w.base ≤ 31 ∧ w.perms.toNat ≤ 15
        ∧ ∀ b : Bay, w.contains b = true ↔ b.val / (w.span + 1) * (w.span + 1) = w.base)
    ∧ ((windowFrom [1, 1, 13, 5, 1]).map fun w => (w.span, w.base)) = some (3, 12)
    ∧ ((windowFrom [1, 1, 4, 7, 1]).map fun w => (w.span, w.base)) = some (7, 0)
    ∧ ((windowFrom [1, 1, 17, 200, 1]).map fun w => (w.span, w.base)) = some (31, 0)
    ∧ ((windowFrom [1, 1, 24, 2, 1]).map fun w => (w.span, w.base)) = some (1, 24)
    ∧ windowFrom [2, 1, 0, 0, 1] = none ∧ windowFrom [1, 1, 32, 0, 1] = none ∧ windowFrom [1, 1, 0, 0, 16] = none
    ∧ ∀ (s : State) (src : Source) (perm : Nat) (b : Bay),
        s.windowAllows src perm b = true ↔
          (∀ w : Fin 8, s.windows[w].enabled = false)
            ∨ ∃ w : Fin 8, s.windows[w].enabled = true ∧ s.windows[w].contains b = true
                ∧ s.windows[w].sources.getLsbD src.val = true ∧ s.windows[w].perms.getLsbD perm = true

/-- A change of a bay's state takes its reservation current and the committed current with it, queues the BAY notice, and leaves
everything else; a change to the same state is none (R7, R8, R60). A notice handed over is discarded unrouted, coalesced in its place,
appended, or dropped with the flag, by the first case that applies (R179). -/
def Obligations.StateChangesAndTheirNotices : Prop :=
  (∀ (s : State) (b : Bay) (st : BayState),
    ((s.bay b).state = st → changeState b st s = s)
      ∧ ((s.bay b).state ≠ st →
          changeState b st s =
            { s with
              bays := s.bays.set b { s.bay b with state := st, reservation := (s.profileOf b).reservation st }
              adm := { s.adm with committed := s.adm.committed + (s.profileOf b).reservation st - (s.bay b).reservation }
              notices := s.notices.hand (.bay b st ((s.profileOf b).reservation st) s.now) })
      ∧ (s.Balanced → (changeState b st s).Balanced))
    ∧ ∀ (q : NoticeQueue) (n : Notice),
    (q.routing[n.kind] = false → q.hand n = q)
      ∧ (∀ (front back : List Notice) (m : Notice), q.routing[n.kind] = true → q.WellKept → q.queue = front ++ m :: back →
          n.sameSubject m = true → q.hand n = { q with queue := front ++ n :: back })
      ∧ (q.routing[n.kind] = true → (∀ m ∈ q.queue, n.sameSubject m = false) →
          (q.queue.length < 32 → q.hand n = { q with queue := q.queue ++ [n] })
            ∧ (32 ≤ q.queue.length → q.hand n = { q with dropped := true }))
      ∧ (q.WellKept → (q.hand n).WellKept)

/-- An examination never takes the committed current above the effective limit, and admits from the head on, in order: a head that fits
is granted, with the state, the phase, the exchange and the stagger of its admission, and the examination is repeated; one that does not
fit ends it (R9, R65 to R68). -/
def Obligations.AdmissionKeepsWithinTheLimit : Prop :=
  ∀ s : State, ((examine s).adm.committed ≤ s.adm.committed ∨ (examine s).adm.committed ≤ s.adm.effLimit)
    ∧ (∃ admitted : List AdmEntry, s.adm.queue = admitted ++ (examine s).adm.queue)
    ∧ ((∀ e rest, s.adm.queue = e :: rest → s.admits e = false) → examine s = s)
    ∧ ∀ e rest, s.adm.queue = e :: rest →
        (s.admits e = true ↔
          s.adm.committed + ((s.profileOf e.bay).reservation e.kind.state - (s.bay e.bay).reservation) ≤ s.adm.effLimit
            ∧ (e.kind = .load ∨ s.adm.staggerDue = none))
          ∧ (s.admits e = true → ∃ u : State, examine s = examine u ∧ u.adm.queue = rest ∧ (u.bay e.bay).state = e.kind.state
              ∧ ((s.bay e.bay).state ≠ e.kind.state → (u.bay e.bay).reservation = (s.profileOf e.bay).reservation e.kind.state
                  ∧ u.adm.committed = s.adm.committed + (u.bay e.bay).reservation - (s.bay e.bay).reservation)
              ∧ (∀ r more, (s.bay e.bay).queue = r :: more → (u.bay e.bay).queue = { r with phase := .issued } :: more)
              ∧ (s.queuedFor e.bay = false → s.currentFor e.bay = false →
                  u.bus.normal = s.bus.normal ++ [s.exchangeFor e.bay e.kind.exchange .head []])
              ∧ (e.kind = .spinUp → u.adm.lastSpin = some s.now ∧ u.adm.staggerDue =
                  if s.timing.stagger = 0 then none else some (s.after s.timing.stagger))
              ∧ (e.kind = .load → u.adm.lastSpin = s.adm.lastSpin ∧ u.adm.staggerDue = s.adm.staggerDue))

/-- The cells of the tables of R34 (head check), R112 (protective operations), R10 (starts) and R12 (completions). -/
def Obligations.TablesOfTheRules : Prop :=
  let states : List BayState := [.off, .spinning, .idle, .loading, .loaded, .unloading, .parking, .stopping, .faulted, .unreachable]
  let al : HeadOutcome := .complete { code := .already, secondary := 0 }
  let rs : BayState → HeadOutcome := fun st => .complete { code := .refusedState, secondary := st.code }
  states.map (headCheck .spinUp) =
      [.permit .spinUp, al, al, al, al, al, al, rs .stopping, rs .faulted, .permit .spinUp]
    ∧ states.map (headCheck .load) =
      [rs .off, .hold, .permit .load, al, al, .hold, .hold, rs .stopping, rs .faulted, rs .unreachable]
    ∧ states.map (headCheck .unload) =
      [al, al, al, .issue .unload, .issue .unload, al, al, al, rs .faulted, .issue .unload]
    ∧ states.map (headCheck .spinDown) =
      [al, .issue .stop, .issue .stop, .issue .stop, .issue .stop, .hold, .hold, al, .issue .stop, .issue .stop]
    ∧ states.map (protEntry .unload) =
      [.none, .none, .none, .exchange .unload, .exchange .unload, .adopt, .adopt, .none, .none, .none]
    ∧ states.map (protEntry .park) =
      [.none, .none, .none, .exchange .quickPark, .exchange .quickPark, .exchange .quickPark, .adopt, .none, .none, .none]
    ∧ states.map (protEntry .stop) =
      [.none, .exchange .stop, .exchange .stop, .exchange .quickPark, .exchange .quickPark, .exchange .quickPark, .adopt, .adopt,
       .none, .none]
    ∧ states.map (startState .unload) =
      [none, none, none, some .unloading, some .unloading, none, none, none, none, some .unreachable]
    ∧ states.map (startState .quickPark) =
      [none, none, none, some .parking, some .parking, some .parking, none, none, none, none]
    ∧ states.map (startState .stop) =
      [none, some .stopping, some .stopping, some .stopping, some .stopping, none, none, none, some .faulted, some .unreachable]
    ∧ states.map (completionState · .atSpeed) = [none, some .idle, none, none, none, some .idle, some .idle, none, none, none]
    ∧ states.map (completionState · .headsLoaded) = [none, none, none, some .loaded, none, none, none, none, none, none]
    ∧ states.map (completionState · .stopped) = [none, none, none, none, none, none, none, some .off, none, none]

/-! ### Requests to bays -/

/-- UNLOAD and SPIN-DOWN to a free bay of a part at rest, where the head check issues the exchange and R10 has its row: the
exchange starts in the event, the state and the reservation change with their notices, no reply is placed, the head is Issued; nothing
else of the part changes but the alert line (R8, R10, R32, R34, R37, R72, R128, R130). -/
def Obligations.UnloadAndSpinDownStart : Prop :=
  ∀ (s : State) (k : ReqKind) (x : ExKind) (st : BayState) (h : Header) (b : Bay) (src : Source),
    s.FreeBay b → s.Hears h (.bay b) src → (k = .unload ∨ k = .spinDown) → s.accessFailure k src b = none →
    headCheck k (s.bay b).state = .issue x → startState x (s.bay b).state = some st →
    Answers (exec (k.command h []) s) fun t =>
      t.bay b = { s.bay b with
                    state := st, reservation := (s.profileOf b).reservation st, restoreIntent := false, deadline := none
                    queue := [{ kind := k, origin := .upstream src h.tag none, payload := [], phase := .issued, wait := none }] }
        ∧ t.adm = s.adm.moved (s.bay b).reservation ((s.profileOf b).reservation st)
        ∧ t.bus = s.firstAttempt (s.exchangeFor b x .head []) ∧ t.ffr = s.ffr ∧ s.KeepsBut t b
        ∧ s.heard.Tells t [] (s.bayNews b st ++ s.budgetNews t.adm.committed)

/-- SPIN-UP and LOAD to a free bay of a part at rest, permitted at the bay's level and admissible: the admission books the
reservation with its BAY notice and sets the stagger, and the exchange starts in the same event (R8, R9, R34, R35, R65 to R68, R128). -/
def Obligations.SpinUpAndLoadAreAdmitted : Prop :=
  ∀ (s : State) (a : AdmKind) (h : Header) (b : Bay) (src : Source),
    s.FreeBay b → s.Hears h (.bay b) src → s.accessFailure a.request src b = none →
    headCheck a.request (s.bay b).state = .permit a → s.permits b a = true → s.admits { bay := b, kind := a } = true →
    Answers (exec (a.request.command h []) s) fun t =>
      t.bay b = { s.bay b with
                    state := a.state, reservation := (s.profileOf b).reservation a.state, restoreIntent := false, deadline := none
                    queue := [{ kind := a.request, origin := .upstream src h.tag none, payload := [], phase := .issued,
                                wait := none }] }
        ∧ t.adm = { s.adm.moved (s.bay b).reservation ((s.profileOf b).reservation a.state) with
                      lastSpin := if a = .spinUp then some s.now else s.adm.lastSpin
                      staggerDue := if a = .spinUp then
                          (if s.timing.stagger = 0 then none else some (s.after s.timing.stagger)) else s.adm.staggerDue }
        ∧ t.adm.committed ≤ t.adm.effLimit
        ∧ t.bus = s.firstAttempt (s.exchangeFor b a.exchange .head []) ∧ t.ffr = s.ffr ∧ s.KeepsBut t b
        ∧ s.heard.Tells t [] (s.bayNews b a.state)

/-- SPIN-UP and LOAD that cannot go ahead wait at the head with a wait deadline: Deferred where the level forbids the kind, Admitting
with an Admission Queue entry where the budget or the stagger does, Checking where the state holds them (R32, R33, R35, R63, R67). A
request of any kind behind others waits in phase Queued without a wait deadline, and nothing else changes but restore intent (R29, R30). -/
def Obligations.SpinUpAndLoadWait : Prop :=
  (∀ (s : State) (a : AdmKind) (h : Header) (b : Bay) (src : Source),
    s.FreeBay b → s.Hears h (.bay b) src → s.accessFailure a.request src b = none →
    ∀ (p : Phase) (q : List AdmEntry),
      (headCheck a.request (s.bay b).state = .permit a ∧ s.permits b a = false ∧ p = .deferred ∧ q = [])
        ∨ (headCheck a.request (s.bay b).state = .permit a ∧ s.permits b a = true ∧ s.admits { bay := b, kind := a } = false
            ∧ p = .admitting ∧ q = [{ bay := b, kind := a }])
        ∨ (headCheck a.request (s.bay b).state = .hold ∧ p = .checking ∧ q = []) →
      Answers (exec (a.request.command h []) s) fun t =>
        t.bay b = { s.bay b with
                      restoreIntent := false
                      queue := [{ kind := a.request, origin := .upstream src h.tag none, payload := [], phase := p,
                                  wait := s.waitDeadline }] }
          ∧ t.adm = { s.adm with queue := q } ∧ t.bus = idleBus [] ∧ t.ffr = s.ffr ∧ s.KeepsBut t b ∧ s.heard.Tells t [] [])
    ∧ ∀ (s : State) (k : ReqKind) (h : Header) (p : List Byte) (b : Bay) (src : Source), s.Resting → s.Hears h (.bay b) src →
      s.accessFailure k src b = none → (s.bay b).queue ≠ [] → (s.bay b).queue.length < 4 →
      (p = [] ∨ (k = .pass ∧ p.length ≤ 32)) →
      Answers (exec (k.command h p) s) fun t =>
        t.bay b = { s.bay b with
                      restoreIntent := (s.bay b).restoreIntent && !k.governed
                      queue := (s.bay b).queue ++ [{ kind := k, origin := .upstream src h.tag none, payload := p, phase := .queued,
                                                     wait := none }] }
          ∧ t.adm = s.adm ∧ t.bus = idleBus [] ∧ t.ffr = s.ffr ∧ s.KeepsBut t b ∧ s.heard.Tells t [] []

/-- A governed request that the head check completes (Already, Refused-State, or a BARRIER's Done) is answered in the event of its
arrival and leaves the bay but for restore intent (R31, R34, R43, R44). -/
def Obligations.RequestsThatCompleteAtOnce : Prop :=
  ∀ (s : State) (k : ReqKind) (c : Completion) (h : Header) (b : Bay) (src : Source),
    s.Resting → (s.bay b).queue = [] → (s.bay b).slot = none → s.Hears h (.bay b) src → k.governed = true →
    s.accessFailure k src b = none → headCheck k (s.bay b).state = .complete c →
    exec (k.command h []) s =
      .next ((s.updBay b fun r => { r with restoreIntent := false }).answered
        { tag := h.tag, completion := c, payload := [], echo := none })

/-- STATUS with no fresh cache sends a QUERY, PASS sends its payload, and the head is Issued without a wait deadline; STATUS with a
fresh cache is answered from it (R45 to R47, R32). -/
def Obligations.StatusAndPassAreServed : Prop :=
  (∀ (s : State) (k : ReqKind) (x : ExKind) (h : Header) (p : List Byte) (b : Bay) (src : Source),
      s.FreeBay b → s.Hears h (.bay b) src → s.accessFailure k src b = none →
      ((k = .status ∧ x = .query ∧ p = [] ∧ s.freshCache b = none) ∨ (k = .pass ∧ x = .pass ∧ p.length ≤ 32)) →
      Answers (exec (k.command h p) s) fun t =>
        t.bay b = { s.bay b with
                      queue := [{ kind := k, origin := .upstream src h.tag none, payload := p, phase := .issued,
                                  wait := none }] }
          ∧ t.adm = s.adm ∧ t.bus = s.firstAttempt (s.exchangeFor b x .head p) ∧ t.ffr = s.ffr ∧ s.KeepsBut t b
          ∧ s.heard.Tells t [] [])
    ∧ ∀ (s : State) (h : Header) (b : Bay) (src : Source) (c : Cache),
        s.Resting → s.Hears h (.bay b) src → s.accessFailure .status src b = none → (s.bay b).cache = some c →
        s.timing.freshness ≠ 0 → (s.now - c.time).toNat ≤ s.timing.freshness → (s.bay b).queue = [] → (s.bay b).slot = none →
        exec (.status h []) s =
          .next (s.answered { tag := h.tag, completion := { code := .done, secondary := 0 }, echo := none
                              payload := c.report.bytes ++ [1] ++ leBytes 4 (s.now - c.time).toNat })

/-- The checks of acceptance in their order: NotReady while the survey runs; BadRequest with secondary Kind for a kind code that names no
request, Target for a target that no code names or the kind does not allow, Source for a source field outside 0..7, which the reply
carries, and Length for a payload out of form, RESERVE and RELEASE included; then Denied, Reserved with the holder, BayEmpty, QueueFull
(R23, R26 to R28, R50, R159, R165). The model's own: which of NotReady and BadRequest a frame of unknown kind gets while the survey runs
(log 9); that the source field stands beside the reply's frame (log 10); that a request to a row or to all bays gets the plain reply of
check 1 or 2, with 0 or R28's case as secondary (log 49); that a refused STATUS or PASS has no payload (log 52); that every arrival
leaves the receiver hunting (log 8). -/
def Obligations.RequestsThatFailACheckAreAnswered : Prop :=
  (∀ (s : State) (c : Instr) (k : Option FrameKind) (h : Header) (p : List Byte) (t : ReqTarget) (src : Source),
      c.frame = some (k, h, p) → s.Hears h t src → t ≠ .part → p.length ≤ 64 →
      s.survey.running = true →
      exec c s = .next (s.answered { tag := h.tag, completion := { code := .notReady, secondary := 0 }, payload := [], echo := none }))
    ∧ (∀ (s : State) (kind : Byte) (h : Header) (p : List Byte),
        s.link.resetPending = false → s.placeFree = true → p.length ≤ 64 →
        (s.survey.running = false ∨ targetOf h.target = some .part) →
        exec (.badRequestKind kind h p) s =
          .next (s.answered { tag := h.tag, completion := { code := .badRequest, secondary := 1 }, payload := [], echo := none }))
    ∧ (∀ (s : State) (c : Instr) (k : FrameKind) (h : Header) (p : List Byte), c.frame = some (some k, h, p) →
        s.link.resetPending = false → s.placeFree = true → p.length ≤ 64 →
        (s.survey.running = false ∨ targetOf h.target = some .part) →
        (targetOf h.target = none
          ∨ ∃ t, targetOf h.target = some t
              ∧ (((∃ m, k = .management m) ∧ t ≠ .part) ∨ ((∀ m, k ≠ .management m) ∧ t = .part)
                  ∨ ((k = .queued .status ∨ k = .queued .pass) ∧ ∀ b, t ≠ .bay b))) →
        exec c s =
          .next (s.answered { tag := h.tag, completion := { code := .badRequest, secondary := 2 }, payload := [], echo := none }))
    ∧ (∀ (s : State) (c : Instr) (k : FrameKind) (h : Header) (p : List Byte) (t : ReqTarget), c.frame = some (some k, h, p) →
        s.link.resetPending = false → s.placeFree = true → p.length ≤ 64 → (s.survey.running = false ∨ t = .part) →
        targetOf h.target = some t →
        ((∃ m, k = .management m) ↔ t = .part) → (k = .queued .status ∨ k = .queued .pass → ∃ b, t = .bay b) →
        8 ≤ h.source.toNat →
        exec c s =
          .next (s.answered { tag := h.tag, completion := { code := .badRequest, secondary := 3 }, payload := [],
                              echo := some h.source }))
    ∧ (∀ (s : State) (c : Instr) (k : FrameKind) (h : Header) (p : List Byte) (t : ReqTarget) (src : Source),
        c.frame = some (some k, h, p) → (∀ m, k ≠ .management m) → s.Hears h t src → t ≠ .part →
        (k = .queued .status ∨ k = .queued .pass → ∃ b, t = .bay b) → s.survey.running = false → p.length ≤ 64 →
        (if k = .queued .pass then 32 < p.length else p ≠ []) →
        exec c s =
          .next (s.answered { tag := h.tag, completion := { code := .badRequest, secondary := 4 }, payload := [], echo := none }))
    ∧ ∀ (s : State) (k : ReqKind) (h : Header) (b : Bay) (src : Source) (c : Completion),
        s.Resting → s.Hears h (.bay b) src → (k = .status → s.freshCache b = none) →
        ((s.windowAllows src k.permission b = false ∧ c = { code := .denied, secondary := 0 })
          ∨ (s.windowAllows src k.permission b = true
              ∧ ((∃ holder : Source, k ≠ .status ∧ (s.bay b).holder = some holder ∧ holder ≠ src
                    ∧ c = { code := .reserved, secondary := holder.val })
                ∨ ((k = .status ∨ (s.bay b).holder = none ∨ (s.bay b).holder = some src)
                    ∧ (((s.bay b).state = .empty ∧ c = { code := .bayEmpty, secondary := 0 })
                      ∨ ((s.bay b).state ≠ .empty ∧ 4 ≤ (s.bay b).queue.length ∧ c = { code := .queueFull, secondary := 0 })))))) →
        exec (k.command h []) s = .next (s.answered { tag := h.tag, completion := c, payload := [], echo := none })

/-- A group request whose members all fail is answered at once with each member's failure; a BARRIER to a row or to all bays, whose
members all pass with nothing in their queues, completes Done for every one and frees its record; with no record free every member that
passes its checks gets Busy. Otherwise a free record is taken, whichever it is: it holds each member's result, with those still queued
pending and counted, and their entries carry it, Queued behind others, waiting at the head, or Issued with their exchanges. A member that
completes, here by its wait deadline, a DONE frame or the removal of its drive, is recorded and not replied to; with the last one the
reply is placed and the record is free, and so it is in the event of the arrival where every member completes at once (R27, R29, R32,
R34, R38, R39, R49 to R52). That a member in Checking with a slot expires with Level whatever its bay's state is the model's choice
(log 43). -/
def Obligations.GroupRequestsAnswerForEveryMember : Prop :=
  (∀ (s : State) (k : ReqKind) (h : Header) (t : ReqTarget) (src : Source) (f : Bay → Completion),
      s.Resting → s.Hears h t src → k.governed = true → ((∃ r, t = .row r) ∨ t = .all) →
      (∀ b ∈ targetBays t, s.memberFailure k src b = some (f b)) →
      exec (k.command h []) s = .next (s.answered (groupReply h.tag ((targetBays t).map fun b => (b, f b)))))
    ∧ (∀ (s : State) (k : ReqKind) (h : Header) (t : ReqTarget) (src : Source),
        s.Resting → s.Hears h t src → k.governed = true → ((∃ r, t = .row r) ∨ t = .all) → (∀ g : Fin 8, s.groups[g] ≠ none) →
        exec (k.command h []) s = .next (s.answered (groupReply h.tag ((targetBays t).map fun b =>
          (b, (s.memberFailure k src b).getD { code := .busy, secondary := 0 })))))
    ∧ (∀ (s : State) (h : Header) (t : ReqTarget) (src : Source),
        s.Resting → s.Hears h t src → ((∃ r, t = .row r) ∨ t = .all) → (∃ g : Fin 8, s.groups[g] = none) →
        (∀ b ∈ targetBays t, s.memberFailure .barrier src b = none ∧ (s.bay b).queue = [] ∧ (s.bay b).slot = none) →
        Answers (exec (.barrier h []) s) fun u =>
          (∀ b, u.bay b = if b ∈ targetBays t then { s.bay b with restoreIntent := false } else s.bay b)
            ∧ u.link = s.link.answer (groupReply h.tag ((targetBays t).map fun b => (b, { code := .done, secondary := 0 })))
            ∧ u = { s with bays := u.bays, link := u.link, bus := idleBus [], alertLine := s.alertHolds })
    ∧ (∀ (s : State) (k : ReqKind) (h : Header) (t : ReqTarget) (src : Source) (result : Bay → Option Completion)
        (entry : Bay → Option (Phase × Option Count)) (q : Bay → List AdmEntry), s.Resting → s.Hears h t src → k.governed = true →
        ((∃ r, t = .row r) ∨ t = .all) → (∃ g : Fin 8, s.groups[g] = none) →
        (∀ b ∈ targetBays t, s.MemberGets k src b (result b) (entry b) (q b)) →
        ∃ g : Fin 8, s.groups[g] = none ∧ Answers (exec (k.command h []) s) fun u =>
          (∀ b, u.bay b = if b ∈ targetBays t ∧ s.memberFailure k src b = none then
              { s.bay b with
                restoreIntent := false
                queue := (s.bay b).queue ++ (match entry b with
                  | some (p, w) => [{ kind := k, origin := .upstream src h.tag (some g), payload := [], phase := p, wait := w }]
                  | none => []) }
              else s.bay b)
            ∧ u.adm = { s.adm with queue := (targetBays t).flatMap q }
            ∧ ((∃ b ∈ targetBays t, result b = none) → s.heard.Tells u [] []
                ∧ u.groups = s.groups.set g (some
                    { tag := h.tag, members := (targetBays t).map fun b => { bay := b, result := result b }
                      outstanding := ((targetBays t).filter fun b => (result b).isNone).length }))
            ∧ (∀ f : Bay → Completion, (∀ b ∈ targetBays t, result b = some (f b)) →
                s.heard.Tells u [groupReply h.tag ((targetBays t).map fun b => (b, f b))] [] ∧ u.groups = s.groups)
            ∧ u = { s with bays := u.bays, groups := u.groups, adm := u.adm, bus := idleBus [], link := u.link, notices := u.notices
                           alertLine := u.alertLine })
    ∧ (∀ (s : State) (k : ReqKind) (h : Header) (t : ReqTarget) (src : Source) (first : Bay) (rest : List Bay) (x : Bay → ExKind)
        (st : BayState), s.Resting → s.Balanced → s.Hears h t src → (k = .unload ∨ k = .spinDown) → ((∃ r, t = .row r) ∨ t = .all) →
        (∃ g : Fin 8, s.groups[g] = none) → targetBays t = first :: rest →
        (∀ b ∈ targetBays t, s.memberFailure k src b = none ∧ (s.bay b).queue = [] ∧ (s.bay b).slot = none
          ∧ headCheck k (s.bay b).state = .issue (x b)) →
        startState (x first) (s.bay first).state = some st →
        ∃ g : Fin 8, s.groups[g] = none ∧ Answers (exec (k.command h []) s) fun u =>
          u.groups = s.groups.set g (some { tag := h.tag, members := (targetBays t).map fun b => { bay := b, result := none }
                                            outstanding := (targetBays t).length })
            ∧ u.bay first = { s.bay first with
                                state := st, reservation := (s.profileOf first).reservation st, restoreIntent := false, deadline := none
                                queue := [{ kind := k, origin := .upstream src h.tag (some g), payload := [], phase := .issued
                                            wait := none }] }
            ∧ (∀ b ∈ rest, u.bay b = { s.bay b with
                                restoreIntent := false
                                queue := [{ kind := k, origin := .upstream src h.tag (some g), payload := [], phase := .issued
                                            wait := s.waitDeadline }] })
            ∧ (∀ b, b ∉ targetBays t → u.bay b = s.bay b)
            ∧ u.adm = s.adm.moved (s.bay first).reservation ((s.profileOf first).reservation st)
            ∧ u.bus = { s.firstAttempt (s.exchangeFor first (x first) .head []) with
                          normal := rest.map fun b => s.exchangeFor b (x b) .head [] }
            ∧ s.heard.Tells u [] (s.bayNews first st ++ s.budgetNews u.adm.committed)
            ∧ u = { s with bays := u.bays, groups := u.groups, adm := u.adm, bus := u.bus, link := u.link, notices := u.notices
                           alertLine := u.alertLine })
    ∧ (∀ (s : State) (b : Bay) (r : Request) (src : Source) (tag : Byte) (g : Fin 8) (rec : GroupRecord), (s.bay b).queue = [r] →
        r.origin = .upstream src tag (some g) → s.groups[g] = some rec → (s.bay b).restoreIntent = false →
        (∀ secondary : Nat, s.BusRests → s.expires r.wait = true → s.WaitedFor b r secondary →
          Answers (exec (.waitDeadlineExpiry b) s) fun t =>
            t.bay b = { s.bay b with queue := [] } ∧ t.adm = { s.adm with queue := [] } ∧ t.bus = idleBus [] ∧ t.ffr = s.ffr
              ∧ ({ s with groups := t.groups } : State).KeepsBut t b
              ∧ s.Records t g rec b { code := .expired, secondary := secondary } [])
        ∧ (∀ (f : StationFrame) (cond : Byte) (k : Condition) (st : BayState), s.Resting → s.Balanced → s.Receives 0x30 f →
          bayAt f.initiator = some b → f.payload = [1, cond, 0] → conditionOf cond = some k →
          completionState (s.bay b).state k = some st → (s.bay b).slot = none → r.phase = .issued →
          r.kind.goalOf (s.bay b).state = true →
          Answers (exec (.done f) s) fun t =>
            t.bay b = { s.bay b with
                          state := st, reservation := (s.profileOf b).reservation st, deadline := none, queue := []
                          cache := some { report := { present := true, condition := cond, code := 0 }, time := s.now } }
              ∧ t.adm = s.adm.moved (s.bay b).reservation ((s.profileOf b).reservation st)
              ∧ t.bus = idleBus [{ destination := f.initiator, kind := 0x40, payload := [] }] ∧ t.ffr = s.ffr
              ∧ ({ s with groups := t.groups } : State).KeepsBut t b
              ∧ s.Records t g rec b { code := .done, secondary := 0 } (s.bayNews b st ++ s.budgetNews t.adm.committed))
        ∧ ∀ f : StationFrame, s.Resting → s.Balanced → s.Receives 0x32 f → bayAt f.initiator = some b → f.payload = [2] →
          (s.bay b).state ≠ .empty →
          Answers (exec (.presenceRemoved f.initiator f.payload f.check) s) fun t =>
            t.bay b = { s.bay b with
                          state := .empty, reservation := 0, queue := [], slot := none, deadline := none, holder := none
                          sweepLevel := 0, retry := 0, cache := none }
              ∧ t.adm = s.adm.moved (s.bay b).reservation 0
              ∧ t.bus = idleBus [{ destination := f.initiator, kind := 0x40, payload := [] }] ∧ t.ffr = s.ffr
              ∧ ({ s with groups := t.groups } : State).KeepsBut t b
              ∧ s.Records t g rec b { code := .bayEmpty, secondary := 0 } (s.bayNews b .empty ++ s.budgetNews t.adm.committed))
    ∧ ∀ (tag : Byte) (ms : List (Bay × Completion)),
        (groupReply tag ms).tag = tag ∧ (groupReply tag ms).echo = none
          ∧ (groupReply tag ms).payload = (ms.flatMap fun m => [byte m.1.val, m.2.code.byte, byte m.2.secondary])
          ∧ ((∀ m ∈ ms, m.2.code = .done ∨ m.2.code = .already) →
              (groupReply tag ms).completion = { code := .done, secondary := 0 })
          ∧ ∀ (front back : List (Bay × Completion)) (m : Bay × Completion), ms = front ++ m :: back →
              (∀ x ∈ front, x.2.code = .done ∨ x.2.code = .already) → m.2.code ≠ .done → m.2.code ≠ .already →
              (groupReply tag ms).completion =
                { code := m.2.code
                  secondary := 1 + (back.filter fun x => decide (x.2.code ≠ .done ∧ x.2.code ≠ .already)).length }

/-- RESERVE and RELEASE to any bay, row or all bays are decided at acceptance by each bay's windows, state and holder, Denied where no
window gives the source the Reserve permission, and change nothing but the holders (R48, R159, R163, R164, R168). -/
def Obligations.ReserveAndReleaseAreDecidedAtOnce : Prop :=
  (∀ (s : State) (h : Header) (t : ReqTarget) (src : Source), s.Hears h t src → t ≠ .part → s.survey.running = false →
      (Answers (exec (.reserve h []) s) fun u =>
        (∀ b, u.bay b = if b ∈ targetBays t ∧ s.reserveResult src b = { code := .done, secondary := 0 } then
            { s.bay b with holder := some src } else s.bay b)
          ∧ u.link = s.link.answer (decidedReply h.tag t ((targetBays t).map fun b => (b, s.reserveResult src b)))
          ∧ u = { s with bays := u.bays, link := u.link, bus := { s.bus with sent := [] }, alertLine := s.alertHolds })
      ∧ Answers (exec (.release h []) s) fun u =>
        (∀ b, u.bay b = if b ∈ targetBays t ∧ s.releaseResult src b = { code := .done, secondary := 0 } then
            { s.bay b with holder := none } else s.bay b)
          ∧ u.link = s.link.answer (decidedReply h.tag t ((targetBays t).map fun b => (b, s.releaseResult src b)))
          ∧ u = { s with bays := u.bays, link := u.link, bus := { s.bus with sent := [] }, alertLine := s.alertHolds })
    ∧ (∀ (s : State) (src : Source) (b : Bay), s.windowAllows src 2 b = false →
        s.reserveResult src b = { code := .denied, secondary := 0 } ∧ s.releaseResult src b = { code := .denied, secondary := 0 })
    ∧ ∀ (s : State) (src : Source) (b : Bay), s.windowAllows src 2 b = true →
        ((s.bay b).state ≠ .empty →
            ((s.bay b).holder = none → s.reserveResult src b = { code := .done, secondary := 0 })
              ∧ ((s.bay b).holder = some src → s.reserveResult src b = { code := .already, secondary := 0 })
              ∧ ∀ o, (s.bay b).holder = some o → o ≠ src → s.reserveResult src b = { code := .reserved, secondary := o.val })
          ∧ ((s.bay b).state = .empty → s.reserveResult src b = { code := .bayEmpty, secondary := 0 })
          ∧ ((s.bay b).holder = none → s.releaseResult src b = { code := .already, secondary := 0 })
          ∧ ((s.bay b).holder = some src → s.releaseResult src b = { code := .done, secondary := 0 })
          ∧ ∀ o, (s.bay b).holder = some o → o ≠ src → s.releaseResult src b = { code := .reserved, secondary := o.val }

/-! ### The upstream link -/

/-- A dropped frame is only counted: a frame of bad length or bad CRC, a frame whose gap deadline expires, and any request frame while
a reset is pending or no reply place is free (R145, R146, R156). The receiver byte by byte: it hunts for the start code, drops a bad
length and a bad CRC, and at the last byte of a good frame does what the frame's command does (R145, R184). The model's own: that a gap
expiry that is not due does nothing (log 6), and that a whole frame given as a command is dropped for a payload over 64 bytes and leaves
the receiver hunting (log 8). -/
def Obligations.FramesAreReceivedOrDropped : Prop :=
  (∀ (s : State) (cause : DropCause), exec (.badFrame cause) s = .next s.dropped)
    ∧ (∀ s : State, s.expires s.link.gap = true → exec .frameGapExpiry s = .next s.dropped)
    ∧ (∀ s : State, s.expires s.link.gap = false → exec .frameGapExpiry s = .next s)
    ∧ (∀ (s : State) (c : Instr) (k : Option FrameKind) (h : Header) (p : List Byte), c.frame = some (k, h, p) →
        (s.link.resetPending = true ∨ s.placeFree = false ∨ 64 < p.length) → exec c s = .next s.dropped)
    ∧ (∀ (s : State) (x : Byte), s.link.rx = .hunting → x ≠ 0xA5 → exec (.linkByteReceipt x) s = .next s)
    ∧ (∀ s : State, s.link.rx = .hunting →
        exec (.linkByteReceipt 0xA5) s = .next { s with link := { s.link with rx := .inFrame [], gap := some (s.after 5) } })
    ∧ (∀ (s : State) (x : Byte), s.link.rx = .inFrame [] → 64 < x.toNat → exec (.linkByteReceipt x) s = .next s.dropped)
    ∧ (∀ (s : State) (x : Byte), s.link.rx = .inFrame [] → x.toNat ≤ 64 →
        exec (.linkByteReceipt x) s = .next { s with link := { s.link with rx := .inFrame [x], gap := some (s.after 5) } })
    ∧ (∀ (s : State) (x len : Byte) (rest : List Byte), s.link.rx = .inFrame (len :: rest) →
        rest.length + 2 ≠ len.toNat + 7 →
        exec (.linkByteReceipt x) s =
          .next { s with link := { s.link with rx := .inFrame (len :: rest ++ [x]), gap := some (s.after 5) } })
    ∧ (∀ (s : State) (x len : Byte) (body : List Byte) (lo : Byte), s.link.rx = .inFrame (len :: body ++ [lo]) →
        body.length = len.toNat + 4 → [lo, x] ≠ crcBytes (len :: body) → exec (.linkByteReceipt x) s = .next s.dropped)
    ∧ ∀ (s : State) (c : Instr) (kind : Byte) (h : Header) (p : List Byte) (lo x : Byte),
        c.frame = some (frameKindOf kind, h, p) → p.length ≤ 64 →
        s.link.rx = .inFrame ([byte p.length, h.target, h.source, kind, h.tag] ++ p ++ [lo]) →
        [lo, x] = crcBytes ([byte p.length, h.target, h.source, kind, h.tag] ++ p) →
        exec (.linkByteReceipt x) s = exec c s

/-! ### Management requests -/

/-- Writes of the Motion Thresholds, Windows, Sources and Notice Routing tables store their entry, are answered with it, and change
nothing else (R79, R150, R158, R161, R181, R185, R187). That a refused Sources write has no payload is the model's reading (log 52).
-/
def Obligations.PlainTableWritesStoreAndAnswer : Prop :=
  ∀ (s : State) (h : Header) (src : Source), s.HearsManager h src →
    (∀ e : List Byte, e.length = 26 →
        exec (.tableWriteMotionThresholds h (0 :: e)) s =
          .next ({ s with thresholds := thresholdsFrom e }.answered
            { tag := h.tag, completion := { code := .done, secondary := 0 }, payload := [6, 0] ++ (thresholdsFrom e).bytes,
              echo := none }))
      ∧ (∀ (i : Fin 8) (e : List Byte) (w : Window), windowFrom e = some w →
          exec (.tableWriteWindows h (byte i.val :: e)) s =
            .next ({ s with windows := s.windows.set i w }.answered
              { tag := h.tag, completion := { code := .done, secondary := 0 }, payload := [7, byte i.val] ++ w.bytes,
                echo := none }))
      ∧ (∀ (i : Fin 8) (x : Byte), (∃ j : Fin 8, (s.sources.set i (lenient x))[j] = true) →
          exec (.tableWriteSources h [byte i.val, x]) s =
            .next ({ s with sources := s.sources.set i (lenient x) }.answered
              { tag := h.tag, completion := { code := .done, secondary := 0 }, payload := [8, byte i.val, yesNo (lenient x)],
                echo := none }))
      ∧ (∀ (i : Fin 8) (x : Byte), (∀ j : Fin 8, (s.sources.set i (lenient x))[j] = false) →
          exec (.tableWriteSources h [byte i.val, x]) s =
            .next (s.answered { tag := h.tag, completion := { code := .refusedState, secondary := 0 }, payload := [],
                                echo := none }))
      ∧ ∀ (i : Fin 9) (x : Byte),
          exec (.tableWriteNoticeRouting h [byte i.val, x]) s =
            .next ({ s with notices := { s.notices with routing := s.notices.routing.set i (lenient x) } }.answered
              { tag := h.tag, completion := { code := .done, secondary := 0 }, payload := [9, byte i.val, yesNo (lenient x)],
                echo := none })

/-- A Profile Table write stores the normalized entry and recomputes the reservation of every bay of the class; a Bay Assignment write
of a class and a zone of the same level recomputes the bay's; the committed current and the over-budget flag follow, with the BUDGET
notice of a change (R4, R56, R57, R61, R72). -/
def Obligations.ProfileAndAssignmentWritesRebook : Prop :=
  ∀ (s : State) (h : Header) (src : Source), s.HearsManager h src → s.Resting → s.Balanced →
    (∀ (i : Fin 8) (e : List Byte), e.length = 18 →
        Answers (exec (.tableWriteProfile h (byte i.val :: e)) s) fun t =>
          t.adm = { s.adm with profiles := s.adm.profiles.set i (profileFrom e) }.committing (sumReservations t.bays)
            ∧ (∀ b, t.bay b = if (s.bay b).cls = i then
                { s.bay b with reservation := (profileFrom e).reservation (s.bay b).state } else s.bay b)
            ∧ t.link = s.link.answer { tag := h.tag, completion := { code := .done, secondary := 0 },
                                       payload := [1, byte i.val] ++ (profileFrom e).bytes, echo := none }
            ∧ t.bus = idleBus [] ∧ t.notices = s.notices.handAll (s.budgetNews t.adm.committed)
            ∧ t = { s with bays := t.bays, adm := t.adm, bus := t.bus, link := t.link, notices := t.notices,
                           alertLine := t.alertLine })
      ∧ ∀ (b : Bay) (c : Fin 8) (z : Zone), s.prot.levels.of z = s.level b ∨ (s.bay b).state = .empty →
        Answers (exec (.tableWriteBayAssignment h [byte b.val, byte c.val, byte z.code]) s) fun t =>
          t.bay b = { s.bay b with cls := c, zone := z, reservation := (s.adm.profiles[c]).reservation (s.bay b).state }
            ∧ t.adm = s.adm.moved (s.bay b).reservation (t.bay b).reservation
            ∧ t.link = s.link.answer { tag := h.tag, completion := { code := .done, secondary := 0 },
                                       payload := [2, byte b.val, byte c.val, byte z.code], echo := none }
            ∧ t.bus = idleBus [] ∧ t.ffr = s.ffr ∧ s.KeepsBut t b ∧ t.notices = s.notices.handAll (s.budgetNews t.adm.committed)

/-- A Level Map write recomputes the zone levels with their LEVEL notices and lowers sweep levels, but sweeps nothing (R102, R106, R110,
R121); a Level Action write
stores its entry (R107, R122); a Timing write stores the clamped record and recomputes a closed stagger from the last spin-up
admission (R66, R122, R152, R183). On a calm part nothing else changes but the
port by the reply and the alert line. -/
def Obligations.LevelAndTimingTableWrites : Prop :=
  ∀ (s : State) (h : Header) (src : Source), s.HearsManager h src → s.Calm →
    (∀ (i : Fin 6) (x : Byte) (l : Level), l.val = min x.toNat 7 →
        Answers (exec (.tableWriteLevelMap h [byte i.val, x]) s) fun t =>
          t.prot.map = s.prot.map.set i l ∧ t.prot.levels = t.prot.computeLevels
            ∧ t.prot = { s.prot with map := t.prot.map, levels := t.prot.levels }
            ∧ (∀ b, t.bay b =
                if (s.bay b).state ≠ .empty ∧ s.level b ≠ t.level b then
                  { s.bay b with sweepLevel := minLevel (s.bay b).sweepLevel (t.level b) } else s.bay b)
            ∧ t.link = s.link.answer { tag := h.tag, completion := { code := .done, secondary := 0 },
                                       payload := [3, byte i.val, byte l.val], echo := none }
            ∧ t.notices = s.notices.handAll (s.levelNews t.prot.levels)
            ∧ t = { s with bays := t.bays, prot := t.prot, bus := idleBus [], link := t.link, notices := t.notices,
                           alertLine := t.alertHolds })
      ∧ (∀ (i : Fin 8) (a : Action) (x y : Byte),
          exec (.tableWriteLevelAction h [byte i.val, byte a.code, x, y]) s =
            .next ({ s with prot := { s.prot with actions := s.prot.actions.set i ⟨a, lenient x, lenient y⟩ } }.answered
              { tag := h.tag, completion := { code := .done, secondary := 0 }, echo := none
                payload := [4, byte i.val, byte a.code, yesNo (lenient x), yesNo (lenient y)] }))
      ∧ ∀ e : List Byte, e.length = 15 →
          exec (.tableWriteTiming h (0 :: e)) s =
            .next ({ s with
                timing := timingFrom e
                adm := { s.adm with
                  staggerDue :=
                    match s.adm.staggerDue, s.adm.lastSpin with
                    | some d, some u =>
                      if (timingFrom e).stagger = s.timing.stagger then some d
                      else if (timingFrom e).stagger ≤ (s.now - u).toNat then none
                      else some (u + BitVec.ofNat 32 (timingFrom e).stagger)
                    | d, _ => d } }.answered
              { tag := h.tag, completion := { code := .done, secondary := 0 }, payload := [10, 0] ++ (timingFrom e).bytes,
                echo := none })

/-- A Sensor write is refused with Refused-State and the sensor's index while the sensor falls and the rate would change; otherwise it
enables, disables (clearing the sensor's conditions, runs, window and deadlines, and ending a fall in progress with an IMPACT of height
65,535, all handed to the Protection Unit with its levels) and asks for the new rate; no other sensor changes (R77, R90, R96 to R98,
R100, R101). It is answered with the entry. On a part at rest a new rate alone sends its RATE exchange; on a calm part with no disk
spinning a disable tells the IMPACT and the LEVEL notices (R106). That a write of the rate already requested changes nothing is the
model's reading (log 21), and that a refused write has no payload (log 52). -/
def Obligations.SensorWriteEnablesDisablesAndAsksForTheRate : Prop :=
  (∀ (s : State) (h : Header) (src : Source) (i : SensorId) (x : Byte) (rate : Rate), s.HearsManager h src →
      Answers (exec (.tableWriteSensor h [byte i.val, x, byte rate.code]) s) fun t =>
        (∀ j : SensorId, j ≠ i → t.sensors[j] = s.sensors[j])
          ∧ (if rate ≠ s.sensors[i].tableRate ∧ s.sensors[i].conds.falling = true then t.sensors[i] = s.sensors[i]
            else t.sensors[i].enabled = lenient x ∧ t.sensors[i].tableRate = rate ∧ t.sensors[i].rate = s.sensors[i].rate
              ∧ t.sensors[i].lastSample = s.sensors[i].lastSample
              ∧ (lenient x = s.sensors[i].enabled → rate = s.sensors[i].tableRate → t.sensors[i] = s.sensors[i])
              ∧ (rate ≠ s.sensors[i].tableRate → t.sensors[i].requested = some rate ∧ t.sensors[i].expected = none
                  ∧ t.sensors[i].lowRun = 0 ∧ t.sensors[i].highRun = 0 ∧ t.sensors[i].tiltRun = 0 ∧ t.sensors[i].untiltRun = 0)
              ∧ (rate = s.sensors[i].tableRate → t.sensors[i].requested = s.sensors[i].requested)
              ∧ (lenient x = true → s.sensors[i].enabled = false →
                  t.sensors[i].blindDue = some (s.after s.thresholds.blindTime))
              ∧ (lenient x = false → s.sensors[i].enabled = true →
                  t.sensors[i].conds = Conditions.clear ∧ t.sensors[i].window = List.replicate 16 0 ∧ t.sensors[i].vibSum = 0
                    ∧ t.sensors[i].lowRun = 0 ∧ t.sensors[i].highRun = 0 ∧ t.sensors[i].tiltRun = 0 ∧ t.sensors[i].untiltRun = 0
                    ∧ t.sensors[i].debounceDue = none ∧ t.sensors[i].joltDue = none ∧ t.sensors[i].blindDue = none
                    ∧ t.sensors[i].expected = none ∧ t.sensors[i].fallStart = none ∧ t.sensors[i].lastHigh = none
                    ∧ t.sensors[i].lastFall = (if s.sensors[i].conds.falling then some { height := 65535, result := .impact }
                        else s.sensors[i].lastFall)
                    ∧ t.latch = (if s.sensors[i].conds.falling then
                        some (s.latch.getD { sensor := i, height := 65535, time := s.now }) else s.latch)
                    ∧ t.prot = { s.prot with
                        copies := s.prot.copies.set i { enabled := false, conds := Conditions.clear }
                        latchCopy := t.latch.isSome, levels := t.prot.levels }
                    ∧ t.LevelsHold)))
    ∧ (∀ (s : State) (h : Header) (src : Source) (i : SensorId) (x : Byte) (rate : Rate), s.HearsManager h src → s.Resting →
        s.sensors[i].conds.falling = true → rate ≠ s.sensors[i].tableRate →
        exec (.tableWriteSensor h [byte i.val, x, byte rate.code]) s =
          .next (s.answered { tag := h.tag, completion := { code := .refusedState, secondary := i.val }, payload := [],
                              echo := none }))
    ∧ (∀ (s : State) (h : Header) (src : Source) (i : SensorId) (rate : Rate), s.HearsManager h src → s.Resting →
        s.sensors[i].conds.falling = false → rate ≠ s.sensors[i].tableRate →
        Answers (exec (.tableWriteSensor h [byte i.val, yesNo s.sensors[i].enabled, byte rate.code]) s) fun t =>
          t.bus = s.firstAttempt (rateExchange i rate)
            ∧ t.link = s.link.answer { tag := h.tag, completion := { code := .done, secondary := 0 }, echo := none
                                       payload := [5, byte i.val, yesNo s.sensors[i].enabled, byte rate.code] }
            ∧ t = { s with sensors := t.sensors, bus := t.bus, link := t.link, alertLine := s.alertHolds })
    ∧ ∀ (s : State) (h : Header) (src : Source) (i : SensorId) (x : Byte) (rate : Rate) (reply : Reply), s.HearsManager h src →
        rate = s.sensors[i].tableRate →
        reply = { tag := h.tag, completion := { code := .done, secondary := 0 }, echo := none
                  payload := [5, byte i.val, yesNo (lenient x), byte rate.code] } →
        (s.Resting → (lenient x = true ∨ s.sensors[i].enabled = false) →
            exec (.tableWriteSensor h [byte i.val, x, byte rate.code]) s =
              .next ({ s with sensors := s.sensors.set i (if s.sensors[i].enabled = lenient x then s.sensors[i] else
                { s.sensors[i] with enabled := true, blindDue := some (s.after s.thresholds.blindTime) }) }.answered reply))
          ∧ (s.Calm → (∀ b, (s.bay b).state = .off ∨ (s.bay b).state = .empty) → lenient x = false → s.sensors[i].enabled = true →
            Answers (exec (.tableWriteSensor h [byte i.val, x, byte rate.code]) s) fun t =>
              s.heard.Tells t [reply] ((if s.sensors[i].conds.falling then [.impact i 65535 s.now] else [])
                  ++ s.levelNews t.prot.levels)
                ∧ t = { s with bays := t.bays, sensors := t.sensors, prot := t.prot, latch := t.latch, bus := idleBus []
                               link := t.link, notices := t.notices, alertLine := t.alertLine })

/-- The layouts of the wires, field by field: the table entries as received and as read (R187), the tables' lengths and index ranges and
the records' (R150, R153), the form of a management request (R149), the records' bytes at their offsets (R188), the fields of the notices
(R185) and the frames of the two wires (R184, R186). -/
def Obligations.LayoutsOfTablesRecordsAndFrames : Prop :=
  (∀ v : Nat, leBytes 2 v = [byte (v % 256), byte (v / 256 % 256)]
      ∧ leBytes 4 v = [byte (v % 256), byte (v / 256 % 256), byte (v / 65536 % 256), byte (v / 16777216 % 256)])
    ∧ (∀ e : List Byte,
        let w := fun i => (e.getD i 0).toNat + 256 * (e.getD (i + 1) 0).toNat
        let t := fun i => max 1 (min (w i) 60000)
        (e.length = 18 → profileFrom e = normalizeProfile
            { peak := w 0, idle := w 2, active := w 4, surge := w 6, spinUpTime := t 8, loadTime := t 10, unloadTime := t 12
              parkTime := t 14, stopTime := t 16 })
          ∧ (e.length = 26 → thresholdsFrom e =
            { lowG := max 1 (min (w 0) 1023), nLow := max 1 (min (w 2) 32), highG := max 1024 (min (w 4) 32767)
              nHigh := max 1 (min (w 6) 8), joltHold := min (w 8) 10000, debounce := min (w 10) 3000, fallMin := w 12
              fallMax := max (w 14) (w 12), vOn := w 16, vOff := min (w 18) (w 16)
              tiltC := if w 20 = 65535 then 65536 else w 20, nTilt := max 1 (min (w 22) 1000)
              blindTime := max 10 (min (w 24) 1000) })
          ∧ (e.length = 15 → timingFrom e =
            { stagger := min (w 0) 10000, waitLimit := min (w 2 + 65536 * w 4) 600000, freshness := min (w 6) 60000
              retryLimit := min (e.getD 8 0).toNat 7, retryThreshold := max 1 (e.getD 9 0).toNat
              alertThreshold := max 1 (min (e.getD 10 0).toNat 7), restoreCeiling := min (e.getD 11 0).toNat 7
              alertMask := (e.getD 12 0).setWidth 4 }))
    ∧ (∀ (s : State) (i : Nat),
        (∀ c : Fin 8, c.val = i → s.tableEntry 1 i =
            ([s.adm.profiles[c].peak, s.adm.profiles[c].idle, s.adm.profiles[c].active, s.adm.profiles[c].surge,
              s.adm.profiles[c].spinUpTime, s.adm.profiles[c].loadTime, s.adm.profiles[c].unloadTime, s.adm.profiles[c].parkTime,
              s.adm.profiles[c].stopTime] : List Nat).flatMap (leBytes 2))
          ∧ (∀ b : Bay, b.val = i → s.tableEntry 2 i = [byte (s.bay b).cls.val, byte (s.bay b).zone.code])
          ∧ (∀ k : Fin 6, k.val = i → s.tableEntry 3 i = [byte s.prot.map[k].val])
          ∧ (∀ k : Level, k.val = i → s.tableEntry 4 i =
              [byte s.prot.actions[k].action.code, yesNo s.prot.actions[k].loadPermit, yesNo s.prot.actions[k].spinPermit])
          ∧ (∀ k : SensorId, k.val = i → s.tableEntry 5 i = [yesNo s.sensors[k].enabled, byte s.sensors[k].tableRate.code])
          ∧ s.tableEntry 6 0 =
              ([s.thresholds.lowG, s.thresholds.nLow, s.thresholds.highG, s.thresholds.nHigh, s.thresholds.joltHold,
                s.thresholds.debounce, s.thresholds.fallMin, s.thresholds.fallMax, s.thresholds.vOn, s.thresholds.vOff,
                min s.thresholds.tiltC 65535, s.thresholds.nTilt, s.thresholds.blindTime] : List Nat).flatMap (leBytes 2)
          ∧ (∀ k : Fin 8, k.val = i → s.tableEntry 7 i =
              [yesNo s.windows[k].enabled, s.windows[k].sources, byte s.windows[k].base, byte s.windows[k].span, s.windows[k].perms])
          ∧ (∀ k : Fin 8, k.val = i → s.tableEntry 8 i = [yesNo s.sources[k]])
          ∧ (∀ k : Fin 9, k.val = i → s.tableEntry 9 i = [yesNo s.notices.routing[k]])
          ∧ s.tableEntry 10 0 = leBytes 2 s.timing.stagger ++ leBytes 4 s.timing.waitLimit ++ leBytes 2 s.timing.freshness
              ++ [byte s.timing.retryLimit, byte s.timing.retryThreshold, byte s.timing.alertThreshold,
                  byte s.timing.restoreCeiling, s.timing.alertMask.setWidth 8] ++ leBytes 2 200)
    ∧ ((List.range 12).map fun n => (tableLength (byte n), tableEntries (byte n))) =
        [(none, 0), (some 18, 8), (some 2, 24), (some 1, 6), (some 3, 8), (some 2, 4), (some 26, 1), (some 5, 8), (some 1, 8),
         (some 1, 9), (some 15, 1), (none, 0)]
    ∧ ((List.range 6).map fun n => recordCount (byte n)) = [1, 24, 4, 1, 1, 0]
    ∧ (∀ id : Byte, 10 < id.toNat → tableLength id = none ∧ tableEntries id = 0) ∧ (∀ id : Byte, 4 < id.toNat → recordCount id = 0)
    ∧ (∀ p : List Byte,
        (p.length < 2 → mgmtForm .tableWrite p = some 4)
          ∧ (p.length ≠ 2 → mgmtForm .tableRead p = some 4 ∧ mgmtForm .recordRead p = some 4)
          ∧ (2 ≤ p.length → tableLength (p.getD 0 0) = none → mgmtForm .tableWrite p = some 5)
          ∧ (∀ n, 2 ≤ p.length → tableLength (p.getD 0 0) = some n →
              mgmtForm .tableWrite p = if p.length = 2 + n then none else some 4)
          ∧ (p.length = 2 → mgmtForm .tableRead p = if tableLength (p.getD 0 0) = none then some 5 else none)
          ∧ (p.length = 2 → mgmtForm .recordRead p = if recordCount (p.getD 0 0) = 0 then some 5 else none)
          ∧ mgmtForm .supplySet p = (if p.length = 3 then none else some 4)
          ∧ mgmtForm .counterClear p = (if p.length = 1 then none else some 4)
          ∧ ∀ m ∈ ([.faultRelease, .reservationsClear, .motionResume, .softReset] : List MgmtKind),
              mgmtForm m p = if p = [] then none else some 4)
    ∧ (∀ s : State, ∃ flags sources : Byte,
        s.caseStatus = leBytes 4 s.now.toNat ++ [flags, sources] ++ leBytes 2 s.adm.limit ++ [byte s.adm.margin]
            ++ leBytes 2 s.adm.effLimit ++ leBytes 4 s.adm.committed ++ leBytes 4 (s.adm.staggerDue.getD 0).toNat
            ++ [byte s.adm.queue.length, byte s.prot.levels.sensor[0].val, byte s.prot.levels.sensor[1].val,
                byte s.prot.levels.sensor[2].val, byte s.prot.levels.sensor[3].val, byte s.prot.levels.all.val, byte s.caseLevel.val]
            ++ (match s.latch with
              | some r => [byte r.sensor.val] ++ leBytes 2 r.height ++ leBytes 4 r.time.toNat
              | none => List.replicate 7 0)
            ++ [byte s.bus.urgent.length, byte s.bus.normal.length, byte (s.groups.toList.filter (·.isSome)).length,
                byte s.notices.queue.length] ++ leBytes 2 s.link.drops
          ∧ s.caseStatus.length = 39
          ∧ (List.range 8).map flags.getLsbD = [s.survey.running, s.adm.overBudget, s.adm.staggerDue.isSome, s.latch.isSome,
              s.ffr.isSome, s.notices.dropped, s.alertLine, false]
          ∧ (List.range 8).map sources.getLsbD = [decide (s.timing.alertThreshold ≤ s.caseLevel.val), s.ffr.isSome, s.adm.overBudget,
              s.latch.isSome, false, false, false, false])
    ∧ (∀ r : BayRecord, ∃ queue : List Byte,
        r.bytes = [byte r.state.code, byte r.cls.val, byte r.zone.code] ++ leBytes 2 r.reservation
            ++ [match r.holder with | some h => byte h.val | none => 0xFF]
            ++ [byte r.sweepLevel.val, yesNo r.restoreIntent, byte r.retry]
            ++ (match r.slot with
              | some op => [match op.kind with | .unload => 1 | .park => 2 | .stop => 3, byte op.level.val,
                            byte ((if op.started then 1 else 0) + if op.stopPhase then 2 else 0)]
              | none => [0, 0, 0])
            ++ (match r.deadline with
              | some d => [byte (d.kind.code + if d.group then 128 else 0)] ++ leBytes 4 d.due.toNat
              | none => List.replicate 5 0)
            ++ (match r.lastFault with
              | some f => [byte f.cause.code, byte f.secondary] ++ leBytes 4 f.time.toNat
              | none => List.replicate 6 0)
            ++ (match r.cache with
              | some c => [1] ++ c.report.bytes ++ leBytes 4 c.time.toNat
              | none => List.replicate 8 0)
            ++ [byte r.queue.length] ++ queue
          ∧ r.bytes.length = 64
          ∧ ∀ k : Fin 4, (queue.drop (8 * k.val)).take 8 =
              match r.queue[k.val]? with
              | none => List.replicate 8 0
              | some e =>
                [e.kind.byte, match e.origin with | .upstream src _ _ => byte src.val | .part => 0xFF,
                 match e.origin with | .upstream _ tag _ => tag | .part => 0,
                 byte ((match e.phase with | .queued => 0 | .checking => 1 | .deferred => 2 | .admitting => 3 | .issued => 4)
                   + (match e.origin with | .upstream _ _ (some _) => 64 | _ => 0) + if e.wait.isSome then 128 else 0)]
                  ++ leBytes 4 (e.wait.getD 0).toNat)
    ∧ (∀ r : SensorRecord, r.window.length = 16 → ∃ presence conds : Byte,
        r.bytes = [yesNo r.enabled, byte r.rate.code, match r.requested with | some q => byte q.code | none => 0xFF, presence, conds]
            ++ leBytes 2 (r.expected.getD 0).toNat ++ ([r.lowRun, r.highRun, r.tiltRun, r.untiltRun] : List Nat).flatMap (leBytes 2)
            ++ leBytes 2 (r.fallStart.getD 0).toNat
            ++ ([r.lastHigh, r.debounceDue, r.joltDue, r.blindDue] : List (Option Count)).flatMap (fun d => leBytes 4 (d.getD 0).toNat)
            ++ (match r.lastSample with
              | some p => leBytes 2 p.counter.toNat ++ ([p.x, p.y, p.z] : List Int).flatMap fun v => leBytes 2 (v % 65536).toNat
              | none => List.replicate 8 0)
            ++ (match r.lastFall with
              | some f => leBytes 2 f.height ++ [match f.result with | .dip => 1 | .impact => 2 | .lowGLong => 3]
              | none => List.replicate 3 0)
            ++ leBytes 4 r.vibSum ++ r.window.flatMap (leBytes 4)
          ∧ r.bytes.length = 112
          ∧ (List.range 8).map presence.getLsbD = [r.expected.isSome, r.fallStart.isSome, r.lastHigh.isSome, r.debounceDue.isSome,
              r.joltDue.isSome, r.blindDue.isSome, r.lastSample.isSome, r.lastFall.isSome]
          ∧ (List.range 8).map conds.getLsbD = [r.conds.rolling, r.conds.tilted, r.conds.jolt, r.conds.falling, r.conds.blind,
              false, false, false])
    ∧ firstFaultBytes none = List.replicate 11 0
    ∧ (∀ f : FirstFault, firstFaultBytes (some f) =
        ([1] ++ (match f.subject with | .bay b => [0, byte b.val] | .sensor i => [1, byte i.val]) : List Byte)
          ++ [byte f.cause.code, byte f.secondary, match f.work with | .request k => k.byte | .protective => 0xFE | .none => 0]
          ++ leBytes 4 f.time.toNat ++ [byte f.later])
    ∧ (∀ s : State, s.admissionBytes = byte s.adm.queue.length :: s.adm.queue.map fun e => byte e.bay.val)
    ∧ (∀ (b : Bay) (st : BayState) (sub : Subject) (cause : Cause) (w : Work) (yes : Bool) (z : Zone) (i : SensorId)
        (o l : Level) (m n : Nat) (t : Count),
        (Notice.bay b st n t).fields = [byte b.val, byte st.code] ++ leBytes 2 n ++ leBytes 4 t.toNat
          ∧ (Notice.fault sub cause n w yes t).fields =
              (match sub with | .bay b => [0, byte b.val] | .sensor i => [1, byte i.val])
                ++ [byte cause.code, byte n, w.byte, yesNo yes] ++ leBytes 4 t.toNat
          ∧ (Notice.retry b m n t).fields = [byte b.val, byte m, byte n] ++ leBytes 4 t.toNat
          ∧ (Notice.level z o l t).fields = [byte z.code, byte o.val, byte l.val] ++ leBytes 4 t.toNat
          ∧ (Notice.impact i n t).fields = [byte i.val] ++ leBytes 2 n ++ leBytes 4 t.toNat
          ∧ (Notice.lowGLong i n t).fields = [byte i.val] ++ leBytes 2 n ++ leBytes 4 t.toNat
          ∧ (Notice.dip i n t).fields = [byte i.val] ++ leBytes 2 n ++ leBytes 4 t.toNat
          ∧ (Notice.budget yes m n t).fields = [yesNo yes] ++ leBytes 4 m ++ leBytes 2 n ++ leBytes 4 t.toNat
          ∧ (Notice.survey n t).fields = [byte n] ++ leBytes 4 t.toNat)
    ∧ (∀ r : Reply, ∃ body, r.frame = 0xA5 :: body ++ leBytes 2 (crc16 body).toNat
        ∧ body = [byte r.payload.length, 0x81, r.tag, r.completion.code.byte, byte r.completion.secondary] ++ r.payload)
    ∧ (∀ n : Notice, ∃ body, n.frame = 0xA5 :: body ++ leBytes 2 (crc16 body).toNat
        ∧ body = [byte n.fields.length, 0x82, byte n.kind.val] ++ n.fields)
    ∧ ∀ f : BusFrame, ∃ body, f.bytes = body ++ leBytes 2 (crc16 body).toNat
        ∧ body = [0x01, f.destination, f.kind, byte f.payload.length] ++ f.payload

/-- Reads answer with the entry or the record as it stands and change nothing, but that a read of the Case Status record clears the
notices-dropped flag and the link drop count (R151, R153, R180, R185). -/
def Obligations.ReadsAnswerAndChangeNothing : Prop :=
  ∀ (s : State) (h : Header) (src : Source), s.HearsManager h src →
    (∀ id i : Byte, i.toNat < tableEntries id →
        exec (.tableRead h [id, i]) s =
          .next (s.answered { tag := h.tag, completion := { code := .done, secondary := 0 },
                              payload := [id, i] ++ s.tableEntry id i.toNat, echo := none }))
      ∧ exec (.recordReadCaseStatus h [0]) s =
          .next ({ s with notices := { s.notices with dropped := false }, link := { s.link with drops := 0 } }.answered
            { tag := h.tag, completion := { code := .done, secondary := 0 }, payload := [0, 0] ++ s.caseStatus, echo := none })
      ∧ (∀ b : Bay, exec (.recordReadBayRecord h [byte b.val]) s =
          .next (s.answered { tag := h.tag, completion := { code := .done, secondary := 0 },
                              payload := [1, byte b.val] ++ (s.bay b).bytes, echo := none }))
      ∧ (∀ i : SensorId, exec (.recordReadSensorRecord h [byte i.val]) s =
          .next (s.answered { tag := h.tag, completion := { code := .done, secondary := 0 },
                              payload := [2, byte i.val] ++ s.sensors[i].bytes, echo := none }))
      ∧ exec (.recordReadFirstFaultRecord h [0]) s =
          .next (s.answered { tag := h.tag, completion := { code := .done, secondary := 0 },
                              payload := [3, 0] ++ firstFaultBytes s.ffr, echo := none })
      ∧ exec (.recordReadAdmissionQueue h [0]) s =
          .next (s.answered { tag := h.tag, completion := { code := .done, secondary := 0 },
                              payload := [4, 0] ++ s.admissionBytes, echo := none })

/-- SUPPLY-SET clamps and stores the settings, recomputes the effective limit, sets the over-budget flag with its notice, and answers
with the settings as stored (R58, R59, R72, R155). FAULT-RELEASE empties the First Fault Record and returns it, COUNTER-CLEAR and
RESERVATIONS-CLEAR clear their fields, SOFT-RESET makes a reset pending; each is answered and changes nothing else (R154 to R156, R167,
R175, R176). -/
def Obligations.SettingsAndClearsTakeEffect : Prop :=
  (∀ (s : State) (h : Header) (src : Source) (lo hi m : Byte) (limit margin : Nat), s.HearsManager h src → s.Resting →
    limit = min (lo.toNat + 256 * hi.toNat) 60000 → margin = min m.toNat 50 →
    Answers (exec (.supplySet h [lo, hi, m]) s) fun t =>
      t.adm = { s.adm with limit := limit, margin := margin, effLimit := limit * (100 - margin) / 100
                           overBudget := decide (limit * (100 - margin) / 100 < s.adm.committed) }
        ∧ (t.notices = if t.adm.overBudget = s.adm.overBudget then s.notices
            else s.notices.hand (.budget t.adm.overBudget s.adm.committed t.adm.effLimit s.now))
        ∧ t.link = s.link.answer { tag := h.tag, completion := { code := .done, secondary := 0 }, echo := none
                                   payload := leBytes 2 limit ++ [byte margin] ++ leBytes 2 t.adm.effLimit }
        ∧ t = { s with adm := t.adm, bus := idleBus [], link := t.link, notices := t.notices, alertLine := t.alertHolds })
    ∧ ∀ (s : State) (h : Header) (src : Source), s.HearsManager h src →
    (exec (.faultRelease h []) s =
        .next ({ s with ffr := none }.answered
          { tag := h.tag, completion := { code := if s.ffr.isSome then .done else .already, secondary := 0 },
            payload := firstFaultBytes s.ffr, echo := none }))
      ∧ (∀ b : Bay, exec (.counterClear h [byte b.val]) s =
          .next ((s.updBay b fun r => { r with retry := 0 }).answered
            { tag := h.tag, completion := { code := .done, secondary := 0 }, payload := [], echo := none }))
      ∧ exec (.counterClear h [255]) s =
          .next (({ s with bays := s.bays.map fun r => { r with retry := 0 } } : State).answered
            { tag := h.tag, completion := { code := .done, secondary := 0 }, payload := [], echo := none })
      ∧ (∀ held : Bool, (held = true ↔ ∃ b, (s.bay b).holder.isSome = true) →
          exec (.reservationsClear h []) s =
            .next (({ s with bays := s.bays.map fun r => { r with holder := none } } : State).answered
              { tag := h.tag, completion := { code := if held then .done else .already, secondary := 0 }, payload := [],
                echo := none }))
      ∧ exec (.softReset h []) s =
          .next ({ s with link := { s.link with resetPending := true } }.answered
            { tag := h.tag, completion := { code := .done, secondary := 0 }, payload := [], echo := none })

/-- MOTION-RESUME is refused while an enabled sensor falls, answered Already while the latch is clear, and otherwise clears the latch
and recomputes the levels, with their LEVEL notices (R106, R123). -/
def Obligations.MotionResumeClearsTheLatch : Prop :=
  (∀ (s : State) (h : Header) (src : Source) (i : SensorId), s.HearsManager h src → s.Resting →
      s.sensors[i].enabled = true → s.sensors[i].conds.falling = true →
      (∀ j : SensorId, j.val < i.val → ¬ (s.sensors[j].enabled = true ∧ s.sensors[j].conds.falling = true)) →
      exec (.motionResume h []) s =
        .next (s.answered { tag := h.tag, completion := { code := .refusedState, secondary := i.val }, payload := [],
                            echo := none }))
    ∧ (∀ (s : State) (h : Header) (src : Source), s.HearsManager h src → s.Resting →
        (∀ j : SensorId, ¬ (s.sensors[j].enabled = true ∧ s.sensors[j].conds.falling = true)) → s.latch = none →
        exec (.motionResume h []) s =
          .next (s.answered { tag := h.tag, completion := { code := .already, secondary := 0 }, payload := [], echo := none }))
    ∧ ∀ (s : State) (h : Header) (src : Source), s.HearsManager h src → s.Calm →
        (∀ j : SensorId, ¬ (s.sensors[j].enabled = true ∧ s.sensors[j].conds.falling = true)) → s.latch.isSome = true →
        s.LevelsHold →
        Answers (exec (.motionResume h []) s) fun t =>
          t.latch = none ∧ t.LevelsHold ∧ t.prot = { s.prot with latchCopy := false, levels := t.prot.levels }
            ∧ (∀ b, t.bay b =
                if (s.bay b).state ≠ .empty ∧ s.level b ≠ t.level b then
                  { s.bay b with sweepLevel := minLevel (s.bay b).sweepLevel (t.level b) } else s.bay b)
            ∧ t.link = s.link.answer { tag := h.tag, completion := { code := .done, secondary := 0 }, payload := [], echo := none }
            ∧ t.notices = s.notices.handAll (s.levelNews t.prot.levels)
            ∧ t = { s with bays := t.bays, prot := t.prot, latch := none, bus := idleBus [], link := t.link,
                           notices := t.notices, alertLine := t.alertHolds }

/-- Management requests of bad form, from a source without the manage flag, with an index out of range, or with a value that admits no
clamping are answered and change nothing (R105, R107, R149, R150, R153, R154, R158, R161). That none of these answers has a payload is
the model's reading (log 52). -/
def Obligations.ManagementRequestsAreChecked : Prop :=
  (∀ (s : State) (c : Instr) (m : MgmtKind) (h : Header) (p : List Byte) (src : Source),
    c.frame = some (some (.management m), h, p) → p.length ≤ 64 → s.Resting → s.Hears h .part src →
    (∀ e, mgmtForm m p = some e →
        exec c s = .next (s.answered { tag := h.tag, completion := { code := .badRequest, secondary := e }, payload := [],
                                       echo := none }))
      ∧ (mgmtForm m p = none → s.manages src = false →
          exec c s = .next (s.answered { tag := h.tag, completion := { code := .denied, secondary := 0 }, payload := [],
                                         echo := none }))
      ∧ (mgmtForm m p = none → s.manages src = true →
          ((m = .tableWrite ∨ m = .tableRead) ∧ tableEntries (p.getD 0 0) ≤ (p.getD 1 0).toNat
            ∨ m = .recordRead ∧ recordCount (p.getD 0 0) ≤ (p.getD 1 0).toNat) →
          exec c s = .next (s.answered { tag := h.tag, completion := { code := .badRequest, secondary := 6 }, payload := [],
                                         echo := none })))
    ∧ ∀ (s : State) (h : Header) (src : Source) (c : Instr), s.HearsManager h src → s.Resting →
        ((∃ (b : Bay) (x y : Byte), (8 ≤ x.toNat ∨ 5 ≤ y.toNat) ∧ c = .tableWriteBayAssignment h [byte b.val, x, y])
          ∨ (∃ (i : Fin 8) (x y z : Byte), 4 ≤ x.toNat ∧ c = .tableWriteLevelAction h [byte i.val, x, y, z])
          ∨ (∃ (i : SensorId) (x y : Byte), 4 ≤ y.toNat ∧ c = .tableWriteSensor h [byte i.val, x, y])
          ∨ (∃ (i : Fin 8) (en sources base span perms : Byte), (1 < en.toNat ∨ 31 < base.toNat ∨ 15 < perms.toNat)
              ∧ c = .tableWriteWindows h [byte i.val, en, sources, base, span, perms])
          ∨ ∃ x : Byte, 24 ≤ x.toNat ∧ x.toNat < 255 ∧ c = .counterClear h [x]) →
        exec c s = .next (s.answered { tag := h.tag, completion := { code := .badRequest, secondary := 7 }, payload := [],
                                       echo := none })

/-! ### Expiries -/

/-- An expiry whose deadline is absent or not reached does nothing, nor does the end of an all-bays QUICKPARK that is not on the bus:
the model's reading of R1 (log 6). An answer that no attempt awaits, or that comes from another station than the target, has no effect
(R130, R142). -/
def Obligations.CommandsThatAreNotDueDoNothing : Prop :=
  ∀ s : State,
    (∀ (i : Instr) (station : Byte), i.answerFrom = some station →
        (∀ c, s.bus.current = some c → c.answerBy = none ∨ c.ex.target.address ≠ station) → exec i s = .next s)
      ∧ (s.expires s.survey.settle = false → exec .settleExpiry s = .next s)
      ∧ (∀ b, s.expires ((s.bay b).deadline.map (·.due)) = false →
          exec (.operationDeadlineExpiry b) s = .next s ∧ exec (.groupDeadlineExpiry b) s = .next s)
      ∧ (∀ b, s.expires ((s.head b).bind (·.wait)) = false → exec (.waitDeadlineExpiry b) s = .next s)
      ∧ (s.expires s.adm.staggerDue = false → exec .staggerExpiry s = .next s)
      ∧ (∀ i : SensorId, (s.expires s.sensors[i].debounceDue = false → exec (.debounceExpiry i) s = .next s)
          ∧ (s.expires s.sensors[i].joltDue = false → exec (.joltHoldExpiry i) s = .next s)
          ∧ (s.expires s.sensors[i].blindDue = false → exec (.blindExpiry i) s = .next s))
      ∧ (s.expires (s.bus.current.bind (·.answerBy)) = false → exec .answerWindowExpiry s = .next s)
      ∧ (s.expires (s.bus.current.bind (·.resendAt)) = false → exec .resendExpiry s = .next s)
      ∧ (s.bus.transaction ≠ .groupPark → exec .allBaysQuickparkEnd s = .next s)

/-- The settle expiry places the survey's QUERY for every bay in index order and sends the first; the group deadline of a bay sends a
park follow-up QUERY and faults nothing (R23, R128, R139). -/
def Obligations.SettleAndGroupDeadlinesSendQueries : Prop :=
  (∀ (s : State) (d : Count), s.Unengaged → s.bus.current = none → s.bus.transaction = .free →
      s.survey = { running := true, settle := some d } → s.expires (some d) = true → (∃ b, (s.bay b).surveyed = false) →
      Answers (exec .settleExpiry s) fun t =>
        t.survey = { running := true, settle := none }
          ∧ t.bus = { s.firstAttempt (s.exchangeFor 0 .query .survey []) with
                        normal := allBays.tail.map fun b => s.exchangeFor b .query .survey [] }
          ∧ s.Tells t [] []
          ∧ t = { s with survey := t.survey, bus := t.bus, link := t.link, notices := t.notices, alertLine := t.alertLine })
    ∧ ∀ (s : State) (b : Bay) (d : OpDeadline), s.Resting → (s.bay b).deadline = some d → d.group = true →
        s.expires (some d.due) = true →
        Answers (exec (.groupDeadlineExpiry b) s) fun t =>
          t.bay b = { s.bay b with deadline := none } ∧ t.bus = s.firstAttempt (s.exchangeFor b .query .followUp [])
            ∧ t.adm = s.adm ∧ t.ffr = s.ffr ∧ s.KeepsBut t b ∧ s.Tells t [] []

/-- The survey's QUERY ends. A report makes the bay's state known, and present no empties it; NAK Refused makes it Unreachable without a
fault; exhaustion faults it; each counts the bay, and the next QUERY is sent. The QUERY that counts the last bay completes the survey
with its SURVEY notice, and for each bay that became known the level rises from 0: at level 0 nothing follows, a Loaded bay at a level
whose action is Unload is unloaded (R16, R18, R22 to R25, R61, R72, R120). The model's readings: that the refused bay's deadline goes
(log 23); the marks surveyed and known (log 20); that the BUDGET notice of a survey's completion follows the SURVEY notice (log 56); the
order of a fault's notices (log 18). -/
def Obligations.SurveyAnswersCountTheBays : Prop :=
  ∀ (s : State) (b : Bay) (c : Current) (station : Byte) (rest : List Bay), s.Surveying b c station rest →
    ((∃ d, d ≠ b ∧ (s.bay d).surveyed = false) →
        ∀ bus : BusController, bus = (match rest with
          | [] => idleBus []
          | d :: more => { s.firstAttempt (s.exchangeFor d .query .survey []) with
              normal := more.map fun e => s.exchangeFor e .query .survey [] }) →
        (∀ (cond : Byte) (k : Condition), conditionOf cond = some k →
            Answers (exec (.ack { initiator := station, payload := [1, cond, 0], check := stationCheck station 0x40 [1, cond, 0] }) s)
              fun t =>
                t.bay b = { s.bay b with
                              state := k.state, reservation := (s.profileOf b).reservation k.state, sweepLevel := 0
                              deadline := k.state.opKind.map fun o =>
                                { due := s.after ((s.profileOf b).time o), kind := o, group := false }
                              cache := some { report := { present := true, condition := cond, code := 0 }, time := s.now }
                              surveyed := true, known := true }
                  ∧ t.adm = s.adm.moved (s.bay b).reservation ((s.profileOf b).reservation k.state)
                  ∧ t.bus = bus ∧ t.ffr = s.ffr ∧ s.KeepsBut t b
                  ∧ s.Tells t [] (s.bayNews b k.state ++ s.budgetNews t.adm.committed))
          ∧ (∀ x y : Byte,
            Answers (exec (.ack { initiator := station, payload := [0, x, y], check := stationCheck station 0x40 [0, x, y] }) s)
              fun t =>
                t.bay b = { s.bay b with
                              state := .empty, reservation := 0, deadline := none, holder := none, sweepLevel := 0, retry := 0
                              cache := none, surveyed := true, known := true }
                  ∧ t.adm = s.adm.moved (s.bay b).reservation 0 ∧ t.bus = bus ∧ t.ffr = s.ffr ∧ s.KeepsBut t b
                  ∧ s.Tells t [] (s.bayNews b .empty ++ s.budgetNews t.adm.committed))
          ∧ (∀ reason : Byte,
            Answers (exec (nakRefusal station reason) s) fun t =>
              t.bay b = { s.bay b with state := .unreachable, deadline := none, surveyed := true }
                ∧ t.adm = s.adm ∧ t.bus = bus ∧ t.ffr = s.ffr ∧ s.KeepsBut t b ∧ s.Tells t [] (s.bayNews b .unreachable))
          ∧ ∀ (f : FailClass) (i : Instr), s.timing.retryLimit ≤ c.resends → s.FailsBy c station f i →
            Answers (exec i s) fun t =>
              t.bay b = { s.faultedBay b f.state .bus f.secondary with surveyed := true }
                ∧ t.adm = s.adm ∧ t.bus = bus ∧ t.ffr = s.faultTaken (.bay b) .bus f.secondary .none ∧ s.KeepsBut t b
                ∧ s.Tells t [] (s.faultNews b f.state .bus f.secondary .none t.adm.committed))
      ∧ (rest = [] → (∀ d, d ≠ b → (s.bay d).surveyed = true) →
        (∀ (cond : Byte) (k : Condition), conditionOf cond = some k → (∀ d, s.level d = 0) →
            Answers (exec (.ack { initiator := station, payload := [1, cond, 0], check := stationCheck station 0x40 [1, cond, 0] }) s)
              fun t =>
                t.survey = { running := false, settle := none }
                  ∧ (∀ d, d ≠ b → t.bay d = { s.bay d with
                      sweepLevel := if (s.bay d).known = true ∧ (s.bay d).state ≠ .empty then 0 else (s.bay d).sweepLevel })
                  ∧ t.bay b = { s.bay b with
                                  state := k.state, reservation := (s.profileOf b).reservation k.state, sweepLevel := 0
                                  deadline := k.state.opKind.map fun o =>
                                    { due := s.after ((s.profileOf b).time o), kind := o, group := false }
                                  cache := some { report := { present := true, condition := cond, code := 0 }, time := s.now }
                                  surveyed := true, known := true }
                  ∧ t.bus = idleBus [] ∧ t.ffr = s.ffr
                  ∧ s.Tells t [] (s.bayNews b k.state
                      ++ [.survey (allBays.filter fun d => d = b ∨ (s.bay d).state ≠ .empty).length s.now]
                      ++ s.budgetNews t.adm.committed))
          ∧ ((∀ d, d ≠ b → (s.bay d).state = .off ∨ (s.bay d).state = .empty) → s.prot.action (s.level b) = .unload →
            0 < (s.level b).val →
            Answers (exec (.ack { initiator := station, payload := [1, 4, 0], check := stationCheck station 0x40 [1, 4, 0] }) s)
              fun t =>
                t.survey = { running := false, settle := none }
                  ∧ t.bay b = { s.bay b with
                                  state := .unloading, reservation := (s.profileOf b).active, sweepLevel := s.level b
                                  slot := some { kind := .unload, level := s.level b, started := true, stopPhase := false
                                                 fromLoaded := true }
                                  deadline := none
                                  cache := some { report := { present := true, condition := 4, code := 0 }, time := s.now }
                                  surveyed := true, known := true }
                  ∧ t.bus = s.firstAttempt { s.exchangeFor b .unload .protective [] with before := .loaded } ∧ t.ffr = s.ffr))

/-- An operation deadline faults its bay with cause Timeout, and a FAULT frame with its drive code: Faulted at Peak, the deadline and
the slot gone, an Issued head completed BayFault, the fault recorded and captured or counted, with its notices in the order of log 18;
a FAULT frame that repeats the code of a Faulted bay only refreshes the cache (R8, R14, R15, R17, R40, R170, R171, R174). The
refreshing at a repeat, and R17 at a new fault of a bay already Faulted or Unreachable, are the model's readings (logs 34 and 17).
That a STATUS or PASS that ends so has no payload is the model's reading (log 52). -/
def Obligations.TimeoutsAndDriveFaultsFaultTheBay : Prop :=
  (∀ (s : State) (b : Bay) (d : OpDeadline) (rs : List Reply) (w : Work), s.Resting → s.Balanced → s.Interrupts b .timeout rs w →
      (s.bay b).deadline = some d → d.group = false → s.expires (some d.due) = true →
      Answers (exec (.operationDeadlineExpiry b) s) fun t =>
        t.bay b = s.faultedBay b .faulted .timeout d.kind.code
          ∧ t.adm = s.adm.moved (s.bay b).reservation (s.profileOf b).peak ∧ t.bus = idleBus []
          ∧ t.ffr = s.faultTaken (.bay b) .timeout d.kind.code w ∧ s.KeepsBut t b
          ∧ s.Tells t rs (s.faultNews b .faulted .timeout d.kind.code w t.adm.committed))
    ∧ (∀ (s : State) (b : Bay) (f : StationFrame) (code : Byte) (rs : List Reply) (w : Work), s.Resting → s.Balanced →
        s.Interrupts b .drive rs w → s.Receives 0x31 f → bayAt f.initiator = some b → f.payload = [code] → code ≠ 0 →
        (s.bay b).state ≠ .empty →
        ((s.bay b).state = .faulted → ∀ l, (s.bay b).lastFault = some l → ¬ (l.cause = .drive ∧ l.secondary = code.toNat)) →
        Answers (exec (.fault f) s) fun t =>
          t.bay b = { s.faultedBay b .faulted .drive code.toNat with
                        cache := (s.bay b).cache.map fun c => { report := { c.report with code := code }, time := s.now } }
            ∧ t.adm = s.adm.moved (s.bay b).reservation (s.profileOf b).peak
            ∧ t.bus = idleBus [{ destination := f.initiator, kind := 0x40, payload := [] }]
            ∧ t.ffr = s.faultTaken (.bay b) .drive code.toNat w ∧ s.KeepsBut t b
            ∧ s.Tells t rs (s.faultNews b .faulted .drive code.toNat w t.adm.committed))
    ∧ ∀ (s : State) (b : Bay) (f : StationFrame) (code : Byte) (l : LastFault), s.Resting → s.Receives 0x31 f →
        bayAt f.initiator = some b → f.payload = [code] → code ≠ 0 → (s.bay b).state = .faulted → (s.bay b).lastFault = some l →
        l.cause = .drive → l.secondary = code.toNat →
        exec (.fault f) s =
          .next ((s.updBay b fun r => { r with
              cache := r.cache.map fun c => { report := { c.report with code := code }, time := s.now } }).sends
            [{ destination := f.initiator, kind := 0x40, payload := [] }])

/-- A head's wait deadline completes it Expired, with the secondary of what it waited for, and takes out its Admission Queue entry; an
Issued head's queued SPIN or LOAD is taken out and undone. The next entry becomes head: Checking, with a wait deadline of its own, and
checked at once, so that it waits, completes too, or starts its exchange, a state-changing one ending the operation deadline and a
QUERY or PASS leaving it and the state (R10); the entries behind it stay as they are (R9, R29 to R38, R46, R47, R64). That a head in Checking with a slot gives Level whatever its state is the model's choice (log 43). That a STATUS or PASS that
ends so has no payload is the model's reading (log 52). -/
def Obligations.WaitDeadlinesExpireTheHead : Prop :=
  (∀ (s : State) (b : Bay) (r : Request) (src : Source) (tag : Byte) (secondary : Nat) (expired : Reply), s.BusRests →
    r.origin = .upstream src tag none → s.expires r.wait = true → s.WaitedFor b r secondary →
    expired = { tag := tag, completion := { code := .expired, secondary := secondary }, payload := [], echo := none } →
    ((s.bay b).queue = [r] → (s.bay b).restoreIntent = false →
        exec (.waitDeadlineExpiry b) s =
          .next (({ s with adm := { s.adm with queue := [] } }.updBay b fun e => { e with queue := [] }).gave expired))
      ∧ ∀ (next : Request) (rest : List Request), (s.bay b).queue = r :: next :: rest →
        (∀ (p : Phase) (q : List AdmEntry), s.HeadWaits b next.kind p q →
            Answers (exec (.waitDeadlineExpiry b) s) fun t =>
              t.bay b = { s.bay b with queue := { next with phase := p, wait := s.waitDeadline } :: rest }
                ∧ t.adm = { s.adm with queue := q } ∧ t.bus = idleBus [] ∧ t.ffr = s.ffr ∧ s.KeepsBut t b ∧ s.Tells t [expired] [])
          ∧ (∀ (c : Completion) (from_ : Source) (tag' : Byte), s.HeadCompletes b next.kind c → rest = [] →
            next.origin = .upstream from_ tag' none → (s.bay b).restoreIntent = false →
            Answers (exec (.waitDeadlineExpiry b) s) fun t =>
              t.bay b = { s.bay b with queue := [] } ∧ t.adm = { s.adm with queue := [] } ∧ t.bus = idleBus [] ∧ t.ffr = s.ffr
                ∧ s.KeepsBut t b ∧ s.Tells t [expired, { tag := tag', completion := c, payload := [], echo := none }] [])
          ∧ (∀ (x : ExKind) (st : BayState), s.Balanced → (s.bay b).slot = none → headCheck next.kind (s.bay b).state = .issue x →
            x.stateChanging = true → startState x (s.bay b).state = some st →
            Answers (exec (.waitDeadlineExpiry b) s) fun t =>
              t.bay b = { s.bay b with
                            state := st, reservation := (s.profileOf b).reservation st, deadline := none
                            queue := { next with phase := .issued, wait := none } :: rest }
                ∧ t.adm = { s.adm.moved (s.bay b).reservation ((s.profileOf b).reservation st) with queue := [] }
                ∧ t.bus = s.firstAttempt (s.exchangeFor b x .head next.payload) ∧ t.ffr = s.ffr ∧ s.KeepsBut t b
                ∧ s.Tells t [expired] (s.bayNews b st ++ s.budgetNews t.adm.committed))
          ∧ ∀ x : ExKind, (s.bay b).slot = none → headCheck next.kind (s.bay b).state = .issue x → x.stateChanging = false →
            Answers (exec (.waitDeadlineExpiry b) s) fun t =>
              t.bay b = { s.bay b with queue := { next with phase := .issued, wait := none } :: rest }
                ∧ t.adm = { s.adm with queue := [] } ∧ t.bus = s.firstAttempt (s.exchangeFor b x .head next.payload)
                ∧ t.ffr = s.ffr ∧ s.KeepsBut t b ∧ s.Tells t [expired] [])
    ∧ ∀ (s : State) (b : Bay) (r : Request) (src : Source) (tag : Byte) (x : Exchange) (c : Current),
        s.Balanced → s.FlagFollows → s.survey.running = false → s.adm.queue = [] → s.bus.urgent = [] → s.bus.normal = [x] →
        s.bus.current = some c → c.ex.serves b = false → (∀ d, (s.bay d).waiting = []) →
        x.target = .bay b → x.owner = .head → (x.kind = .spin ∨ x.kind = .load) → x.before ≠ .unreachable →
        x.before ≠ (s.bay b).state → (s.bay b).queue = [r] → r.phase = .issued → r.origin = .upstream src tag none →
        s.expires r.wait = true → (s.bay b).restoreIntent = false →
        Answers (exec (.waitDeadlineExpiry b) s) fun t =>
          t.bay b = { s.bay b with state := x.before, reservation := (s.profileOf b).reservation x.before, queue := [] }
            ∧ t.adm = s.adm.moved (s.bay b).reservation (t.bay b).reservation
            ∧ t.bus = { s.bus with normal := [], sent := [] } ∧ t.ffr = s.ffr ∧ s.KeepsBut t b
            ∧ s.Tells t [{ tag := tag, completion := { code := .expired, secondary := 4 }, payload := [], echo := none }]
                (s.bayNews b x.before ++ s.budgetNews t.adm.committed)

/-- The stagger opens, the debounce deadline goes, the all-bays QUICKPARK leaves the bus free, and the resend sends the same frame again
with a fresh answer window (R66, R85, R129 to R131). -/
def Obligations.StaggerDebounceParkEndAndResend : Prop :=
  (∀ s : State, s.Resting → s.expires s.adm.staggerDue = true →
      exec .staggerExpiry s = .next ({ s with adm := { s.adm with staggerDue := none } }.sends []))
    ∧ (∀ (s : State) (i : SensorId), s.expires s.sensors[i].debounceDue = true →
        exec (.debounceExpiry i) s =
          .next { s with sensors := s.sensors.set i { s.sensors[i] with debounceDue := none } })
    ∧ (∀ s : State, s.Unengaged → s.survey.running = false → s.bus.current = none → s.bus.transaction = .groupPark →
        exec .allBaysQuickparkEnd s = .next ({ s with bus := { s.bus with transaction := .free } }.sends []))
    ∧ ∀ (s : State) (c : Current), s.bus.current = some c → s.expires c.resendAt = true → s.bus.transaction = .free →
        exec .resendExpiry s =
          .next { s with bus := { s.bus with
            current := some { c with answerBy := some (s.after 50), resendAt := none }
            transaction := .attempt, sent := [c.ex.frame] } }

/-- The jolt hold expiry clears Jolt and hands it over; the blind expiry asserts Blind, resets the runs, ends a fall unseen with the
latch set, and records the sensor fault, with the IMPACT, FAULT and LEVEL notices (R90, R92, R95, R100, R106, R121, R172). -/
def Obligations.JoltHoldAndBlindExpiries : Prop :=
  (∀ (s : State) (i : SensorId), s.expires s.sensors[i].joltDue = true →
      Answers (exec (.joltHoldExpiry i) s) fun t =>
        t.sensors = s.sensors.set i
            { s.sensors[i] with joltDue := none, conds := { s.sensors[i].conds with jolt := false } }
          ∧ (s.sensors[i].conds.jolt = true →
              t.prot.copies = s.prot.copies.set i
                { enabled := s.sensors[i].enabled, conds := { s.sensors[i].conds with jolt := false } })
          ∧ (s.sensors[i].conds.jolt = false → t.prot = s.prot) ∧ t.latch = s.latch ∧ t.ffr = s.ffr
          ∧ (s.Calm → s.LevelsHold → s.CopiesHold → s.prot.copies[i].enabled = s.sensors[i].enabled →
              t.LevelsHold ∧ s.Tells t [] (s.levelNews t.prot.levels)
                ∧ ∀ b, t.bay b =
                    if (s.bay b).state ≠ .empty ∧ s.level b ≠ t.level b then
                      { s.bay b with sweepLevel := minLevel (s.bay b).sweepLevel (t.level b) } else s.bay b))
    ∧ ∀ (s : State) (i : SensorId), s.expires s.sensors[i].blindDue = true → s.sensors[i].conds.blind = false →
        Answers (exec (.blindExpiry i) s) fun t =>
          t.sensors[i].conds = { s.sensors[i].conds with blind := true, falling := false }
            ∧ t.sensors[i].blindDue = none ∧ t.sensors[i].lowRun = 0 ∧ t.sensors[i].highRun = 0 ∧ t.sensors[i].tiltRun = 0
            ∧ t.sensors[i].untiltRun = 0 ∧ (∀ j : SensorId, j ≠ i → t.sensors[j] = s.sensors[j])
            ∧ t.prot.copies = s.prot.copies.set i { enabled := s.sensors[i].enabled, conds := t.sensors[i].conds }
            ∧ (t.latch = if s.sensors[i].conds.falling then
                some (s.latch.getD { sensor := i, height := 65535, time := s.now }) else s.latch)
            ∧ t.ffr = s.faultTaken (.sensor i) .sensor 1 .none
            ∧ (s.Calm → (∀ b, (s.bay b).state = .off ∨ (s.bay b).state = .empty) →
                s.Tells t [] ((if s.sensors[i].conds.falling then [.impact i 65535 s.now] else [])
                  ++ [.fault (.sensor i) .sensor 1 .none s.ffr.isNone s.now] ++ s.levelNews t.prot.levels))

/-! ### Protective operations -/

/-- The rise of one bay's effective level, by a zone move: without an action, or where the bay is swept at the level already, or where
the table of R112 names nothing or the slot holds as high a level, only the sweep level moves; otherwise the operation is placed, or
replaces a lower one as the stronger kind at the new level, and either adopts what runs or sends its UNLOAD, QUICKPARK or STOP in the
event (R10, R105, R110 to R115, R128). -/
def Obligations.RisesSweepTheBay : Prop :=
  ∀ (s : State) (h : Header) (src : Source) (b : Bay) (z : Zone) (l : Level), s.HearsManager h src → s.CalmBut b →
    (s.bay b).queue = [] → (s.bay b).restoreIntent = false → (s.bay b).state ≠ .empty →
    (∀ op, (s.bay b).slot = some op → op.started = true) → l = s.prot.levels.of z → (s.level b).val < l.val →
    ((s.prot.action l = .none ∨ l.val ≤ (s.bay b).sweepLevel.val
          ∨ (∃ k, (s.prot.action l).kind = some k ∧ protEntry k (s.bay b).state = .none)
          ∨ ∃ op, (s.bay b).slot = some op ∧ l.val ≤ op.level.val) →
        Answers (exec (s.rezone h b z) s) fun t =>
          t.bay b = { s.bay b with
                        zone := z
                        sweepLevel := if s.prot.action l = .none then minLevel (s.bay b).sweepLevel l else l }
            ∧ t.adm = s.adm ∧ t.bus = idleBus [] ∧ t.ffr = s.ffr ∧ s.KeepsBut t b ∧ s.heard.Tells t [s.rezoned h b z] [])
      ∧ ∀ (k : ProtKind) (op : ProtOp), s.Sweeps b z l k → protEntry k (s.bay b).state ≠ .none →
        ((s.bay b).slot = none
              ∧ op = { kind := k, level := l, started := true, stopPhase := false, fromLoaded := (s.bay b).state.loadedOrLoading }
            ∨ ∃ old, (s.bay b).slot = some old ∧ old.level.val < l.val
                ∧ op = { old with kind := k.stronger old.kind, level := l, started := true }) →
        (protEntry op.kind (s.bay b).state = .adopt →
            Answers (exec (s.rezone h b z) s) fun t =>
              t.bay b = { s.bay b with
                            zone := z, sweepLevel := l, slot := some { op with stopPhase := decide ((s.bay b).state = .stopping) } }
                ∧ t.adm = s.adm ∧ t.bus = idleBus [] ∧ t.ffr = s.ffr ∧ s.KeepsBut t b ∧ s.heard.Tells t [s.rezoned h b z] [])
          ∧ ∀ (x : ExKind) (st : BayState), protEntry op.kind (s.bay b).state = .exchange x →
            startState x (s.bay b).state = some st →
            Answers (exec (s.rezone h b z) s) fun t =>
              t.bay b = { s.bay b with
                            zone := z, sweepLevel := l, slot := some { op with stopPhase := decide (x = .stop) }
                            state := st, reservation := (s.profileOf b).reservation st, deadline := none }
                ∧ t.adm = s.adm.moved (s.bay b).reservation ((s.profileOf b).reservation st)
                ∧ t.bus = s.firstAttempt (s.exchangeFor b x .protective []) ∧ t.ffr = s.ffr ∧ s.KeepsBut t b
                ∧ s.heard.Tells t [s.rezoned h b z] (s.bayNews b st ++ s.budgetNews t.adm.committed)

/-- What a sweep makes of the bay's Issued head and of the exchange on the bus. A started LOAD completes Preempted with the level, a
started SPIN-UP under a Stop, every other started head runs on. A head's unstarted QUERY or PASS is withdrawn and the head returns to
Checking. A QUERY or PASS that is current is cut short, with the protective exchange in the waiting place; a current protective exchange
of another kind is replaced, with the new one in the Urgent queue (R42, R113, R136, R137). -/
def Obligations.SweepsMeetTheHeadAndTheBus : Prop :=
  ∀ (s : State) (h : Header) (src : Source) (b : Bay) (z : Zone) (l : Level) (k : ProtKind) (x : ExKind),
    s.HearsManager h src → s.Sweeps b z l k → protEntry k (s.bay b).state = .exchange x → (s.bay b).restoreIntent = false →
    (∀ (st : BayState) (r : Request) (from_ : Source) (tag : Byte) (q : List Request) (rs : List Reply), s.CalmBut b →
        (s.bay b).slot = none → (s.bay b).queue = [r] → r.phase = .issued → r.origin = .upstream from_ tag none →
        startState x (s.bay b).state = some st →
        ((r.kind = .load ∨ (r.kind = .spinUp ∧ k = .stop)) ∧ q = []
              ∧ rs = [{ tag := tag, completion := { code := .preempted, secondary := l.val }, payload := [], echo := none }]
            ∨ ¬ (r.kind = .load ∨ (r.kind = .spinUp ∧ k = .stop)) ∧ q = [r] ∧ rs = []) →
        Answers (exec (s.rezone h b z) s) fun t =>
          t.bay b = { s.bay b with
                        zone := z, sweepLevel := l, queue := q, state := st, reservation := (s.profileOf b).reservation st
                        deadline := none
                        slot := some { kind := k, level := l, started := true, stopPhase := decide (x = .stop)
                                       fromLoaded := (s.bay b).state.loadedOrLoading } }
            ∧ t.adm = s.adm.moved (s.bay b).reservation ((s.profileOf b).reservation st)
            ∧ t.bus = s.firstAttempt (s.exchangeFor b x .protective []) ∧ t.ffr = s.ffr ∧ s.KeepsBut t b
            ∧ s.heard.Tells t (rs ++ [s.rezoned h b z]) (s.bayNews b st ++ s.budgetNews t.adm.committed))
      ∧ (∀ (c : Current) (e : Exchange) (r : Request), s.Engaged b c [e] → c.ex.serves b = false → (s.bay b).slot = none →
        (s.bay b).queue = [r] → r.phase = .issued → e.target = .bay b → e.owner = .head → (e.kind = .query ∨ e.kind = .pass) →
        Answers (exec (s.rezone h b z) s) fun t =>
          t.bay b = { s.bay b with
                        zone := z, sweepLevel := l, queue := [{ r with phase := .checking }]
                        slot := some { kind := k, level := l, started := false, stopPhase := decide (x = .stop)
                                       fromLoaded := (s.bay b).state.loadedOrLoading } }
            ∧ t.bus = { s.bus with urgent := [s.exchangeFor b x .protective []], normal := [], sent := [] }
            ∧ t.adm = s.adm ∧ t.ffr = s.ffr ∧ s.KeepsBut t b ∧ s.heard.Tells t [s.rezoned h b z] [])
      ∧ (∀ (c : Current) (r : Request), s.Engaged b c [] → c.ex.target = .bay b → c.ex.owner = .head →
        (c.ex.kind = .query ∨ c.ex.kind = .pass) → c.resendAt = none → c.disregarded = false → (s.bay b).slot = none →
        (s.bay b).queue = [r] → r.phase = .issued → (r.kind = .status ∨ r.kind = .pass) →
        Answers (exec (s.rezone h b z) s) fun t =>
          t.bay b = { s.bay b with
                        zone := z, sweepLevel := l, waiting := [s.exchangeFor b x .protective []]
                        slot := some { kind := k, level := l, started := false, stopPhase := decide (x = .stop)
                                       fromLoaded := (s.bay b).state.loadedOrLoading } }
            ∧ t.bus = { s.bus with current := some { c with cutShort := true }, sent := [] }
            ∧ t.adm = s.adm ∧ t.ffr = s.ffr ∧ s.KeepsBut t b ∧ s.heard.Tells t [s.rezoned h b z] [])
      ∧ ∀ (c : Current) (old : ProtOp), s.Engaged b c [] → c.ex.target = .bay b → c.ex.owner = .protective → c.ex.kind ≠ x →
        c.resendAt = none → c.disregarded = false → (s.bay b).slot = some old → old.level.val < l.val →
        protEntry (k.stronger old.kind) (s.bay b).state = .exchange x → (s.bay b).queue = [] →
        Answers (exec (s.rezone h b z) s) fun t =>
          t.bay b = { s.bay b with
                        zone := z, sweepLevel := l
                        slot := some { old with kind := k.stronger old.kind, level := l, started := false
                                                stopPhase := decide (x = .stop) } }
            ∧ t.bus = { s.bus with current := some { c with replaced := true }
                                   urgent := [s.exchangeFor b x .protective []], sent := [] }
            ∧ t.adm = s.adm ∧ t.ffr = s.ffr ∧ s.KeepsBut t b ∧ s.heard.Tells t [s.rezoned h b z] []

/-- A disregarded exchange ends at its attempt's end, whatever it is, without effect; a replaced UNLOAD likewise, and the QUICKPARK
that replaced it starts; a cut-short QUERY or PASS that fails ends its head BayFault, Bus, without a fault, a PASS that succeeds
completes Done, and the protective exchange that waited starts; a LOAD or SPIN that the bay's level does not permit is passed over
(R109, R113, R128, R132, R135 to R137). That a STATUS or PASS that ends so has no payload is the model's reading (log 52). -/
def Obligations.MarkedAndBlockedExchanges : Prop :=
  (∀ (s : State) (c : Current) (station : Byte) (i : Instr), s.Alone c station → s.EndsAttempt c station i →
      exec i (s.marked { c with disregarded := true } []) = .next ({ s with bus := idleBus [] }.sends []))
    ∧ (∀ (s : State) (c : Current) (station : Byte) (i : Instr) (b : Bay) (op : ProtOp), s.Alone c station →
        s.EndsAttempt c station i → s.Balanced → c.ex.target = .bay b → c.ex.owner = .protective → c.ex.kind = .unload →
        (s.bay b).state = .unloading → (s.bay b).slot = some op → (s.bay b).queue = [] →
        Answers (exec i (s.marked { c with replaced := true } [s.exchangeFor b .quickPark .protective []])) fun t =>
          t.bay b = { s.bay b with
                        state := .parking, reservation := (s.profileOf b).active, deadline := none
                        slot := some { op with started := true } }
            ∧ t.adm = s.adm.moved (s.bay b).reservation (s.profileOf b).active
            ∧ t.bus = s.firstAttempt (s.exchangeFor b .quickPark .protective []) ∧ t.ffr = s.ffr ∧ s.KeepsBut t b
            ∧ s.Tells t [] (s.bayNews b .parking ++ s.budgetNews t.adm.committed))
    ∧ (∀ (s : State) (c : Current) (station : Byte) (i : Instr) (b : Bay) (op : ProtOp) (r : Request) (src : Source) (tag : Byte)
        (x : ExKind) (st : BayState) (reply : Reply), s.Alone c station → s.Balanced → c.ex.target = .bay b → c.ex.owner = .head →
        (c.ex.kind = .query ∨ c.ex.kind = .pass) → (s.bay b).slot = some op → (s.bay b).queue = [r] → r.phase = .issued →
        r.origin = .upstream src tag none → (s.bay b).restoreIntent = false →
        (x = .unload ∨ x = .quickPark ∨ x = .stop) → startState x (s.bay b).state = some st →
        ((∃ f, s.FailsBy c station f i)
              ∧ reply = { tag := tag, completion := { code := .bayFault, secondary := 1 }, payload := [], echo := none }
            ∨ ∃ p, c.ex.kind = .pass ∧ p.length ≤ 32
                ∧ i = .ack { initiator := station, payload := p, check := stationCheck station 0x40 p }
                ∧ reply = { tag := tag, completion := { code := .done, secondary := 0 }, payload := p, echo := none }) →
        Answers (exec i ((s.marked { c with cutShort := true } []).updBay b fun e =>
            { e with waiting := [s.exchangeFor b x .protective []] })) fun t =>
          t.bay b = { s.bay b with
                        state := st, reservation := (s.profileOf b).reservation st, deadline := none, queue := []
                        slot := some { op with started := true } }
            ∧ t.adm = s.adm.moved (s.bay b).reservation ((s.profileOf b).reservation st)
            ∧ t.bus = s.firstAttempt (s.exchangeFor b x .protective []) ∧ t.ffr = s.ffr ∧ s.KeepsBut t b
            ∧ s.Tells t [reply] (s.bayNews b st ++ s.budgetNews t.adm.committed))
    ∧ ∀ (s : State) (b : Bay) (x : Exchange) (rest : List Exchange), s.survey.running = false → s.bus.current = none →
        s.bus.transaction = .groupPark → s.bus.urgent = [] → s.bus.normal = x :: rest → (∀ d, (s.bay d).waiting = []) →
        s.adm.queue = [] → s.FlagFollows → x.target = .bay b →
        ((x.kind = .load ∧ s.permits b .load = false) ∨ (x.kind = .spin ∧ s.permits b .spinUp = false)) →
        (rest = [] → exec .allBaysQuickparkEnd s = .next ({ s with bus := { s.bus with transaction := .free } }.sends []))
          ∧ ∀ (y : Exchange) (c : Bay), rest = [y] → y.target = .bay c → y.kind = .query → y.owner ≠ .head →
            Answers (exec .allBaysQuickparkEnd s) fun t =>
              t.bus = { s.firstAttempt y with normal := [x] } ∧ t.bays = s.bays ∧ t.adm = s.adm ∧ t.ffr = s.ffr ∧ s.Tells t [] []

/-- Where a rise gives every bay at risk, two at least, a Park or a Stop, one all-bays QUICKPARK is sent for all of them, each with a
group deadline (R114, R138; here at a blind expiry). A park follow-up of a Parking bay that finds the heads unloaded ends the park; one that finds
anything else with present yes and no fault code, or is refused, faults the bay with Timeout, Park, its notices in the order of log 18
(R8, R14, R19, R72, R140, R171). That a STATUS or PASS that ends so has no payload is the model's reading (log 52). -/
def Obligations.GroupParksAndTheirFollowUps : Prop :=
  (∀ (s : State) (i : SensorId) (risk : List Bay), s.Calm → s.expires s.sensors[i].blindDue = true →
      s.sensors[i].conds.blind = false → risk = (allBays.filter fun b => (s.bay b).state.atRisk) → 2 ≤ risk.length →
      (∀ b, b ∉ risk → (s.bay b).state = .off ∨ (s.bay b).state = .empty) →
      Answers (exec (.blindExpiry i) s) fun t =>
        (∀ b ∈ risk, (s.level b).val < (t.level b).val ∧ (s.bay b).sweepLevel.val < (t.level b).val
            ∧ (s.prot.action (t.level b) = .park ∨ s.prot.action (t.level b) = .parkStop)) →
        t.bus = { idleBus [{ destination := 0xFF, kind := 0x14, payload := [] }] with transaction := .groupPark }
          ∧ ∀ b ∈ risk, t.bay b =
              { s.bay b with
                state := .parking, reservation := (s.profileOf b).active, sweepLevel := t.level b
                deadline := some { due := s.after (s.profileOf b).parkTime, kind := .park, group := true }
                slot := some { kind := if s.prot.action (t.level b) = .park then .park else .stop, level := t.level b
                               started := true, stopPhase := false, fromLoaded := (s.bay b).state.loadedOrLoading } })
    ∧ ∀ (s : State) (c : Current) (station : Byte) (b : Bay), s.Alone c station → s.Balanced → c.ex.target = .bay b →
        c.ex.owner = .followUp → c.ex.kind = .query → (s.bay b).state = .parking →
        ((s.bay b).queue = [] → (s.bay b).restoreIntent = false →
            ((s.bay b).slot = none ∨ ∃ op, (s.bay b).slot = some op ∧ op.kind ≠ .stop ∧ op.fromLoaded = false) →
            Answers (exec (.ack { initiator := station, payload := [1, 2, 0], check := stationCheck station 0x40 [1, 2, 0] }) s) fun t =>
              t.bay b = { s.bay b with
                            state := .idle, reservation := (s.profileOf b).idle, deadline := none, slot := none
                            cache := some { report := { present := true, condition := 2, code := 0 }, time := s.now } }
                ∧ t.adm = s.adm.moved (s.bay b).reservation (s.profileOf b).idle ∧ t.bus = idleBus [] ∧ t.ffr = s.ffr
                ∧ s.KeepsBut t b ∧ s.Tells t [] (s.bayNews b .idle ++ s.budgetNews t.adm.committed))
          ∧ ∀ (rs : List Reply) (w : Work) (i : Instr) (cache : Option Cache), s.Interrupts b .timeout rs w →
            ((∃ cond k, conditionOf cond = some k ∧ k ≠ .atSpeed
                  ∧ i = .ack { initiator := station, payload := [1, cond, 0], check := stationCheck station 0x40 [1, cond, 0] }
                  ∧ cache = some { report := { present := true, condition := cond, code := 0 }, time := s.now })
                ∨ ∃ reason, i = nakRefusal station reason ∧ cache = (s.bay b).cache) →
            Answers (exec i s) fun t =>
              t.bay b = { s.faultedBay b .faulted .timeout 4 with cache := cache }
                ∧ t.adm = s.adm.moved (s.bay b).reservation (s.profileOf b).peak ∧ t.bus = idleBus []
                ∧ t.ffr = s.faultTaken (.bay b) .timeout 4 w ∧ s.KeepsBut t b
                ∧ s.Tells t rs (s.faultNews b .faulted .timeout 4 w t.adm.committed)

/-- The ends of protective operations, by DONE frames. An Unload or Park that brings the bay to Idle frees the slot; restore intent is set
where the bay was Loaded or Loading at the placing and no governed request waits, and a restore that is due is placed, admitted and
started in the event, or waits for the budget; a head that waited in Checking is checked. The park phase of a Stop ends in its STOP, the
Stop in Off. Restore intent whose level falls to the ceiling gives the restore (R12, R33, R74, R116, R118, R119). That an event's BUDGET
notice follows the BAY notices of its changes is the model's reading (log 39). -/
def Obligations.ProtectiveOperationsEndAndRestore : Prop :=
  (∀ (s : State) (b : Bay) (f : StationFrame) (op : ProtOp), s.CalmBut b → s.Receives 0x30 f → bayAt f.initiator = some b →
      (s.bay b).slot = some op → (s.bay b).restoreIntent = false →
      (∀ (unloaded : BayRecord), f.payload = [1, 2, 0] → ((s.bay b).state = .unloading ∨ (s.bay b).state = .parking) →
          unloaded = { s.bay b with
                        state := .idle, reservation := (s.profileOf b).idle, deadline := none
                        cache := some { report := { present := true, condition := 2, code := 0 }, time := s.now } } →
          (∀ (q : List Request) (rs : List Reply), op.kind ≠ .stop →
              ((s.bay b).queue = [] ∧ q = [] ∧ rs = []
                    ∧ (op.fromLoaded = false ∨ s.timing.restoreCeiling < (s.level b).val ∨ s.permits b .load = false)
                  ∨ ∃ r from_ tag c, (s.bay b).queue = [r] ∧ r.phase = .checking ∧ r.kind.governed = true
                      ∧ headCheck r.kind .idle = .complete c ∧ r.origin = .upstream from_ tag none ∧ q = []
                      ∧ rs = [{ tag := tag, completion := c, payload := [], echo := none }]) →
              Answers (exec (.done f) s) fun t =>
                t.bay b = { unloaded with
                              slot := none, queue := q, restoreIntent := op.fromLoaded && (s.bay b).queue.isEmpty }
                  ∧ t.adm = s.adm.moved (s.bay b).reservation (s.profileOf b).idle
                  ∧ t.bus = idleBus [{ destination := f.initiator, kind := 0x40, payload := [] }] ∧ t.ffr = s.ffr
                  ∧ s.KeepsBut t b ∧ s.Tells t rs (s.bayNews b .idle ++ s.budgetNews t.adm.committed))
            ∧ (op.kind ≠ .stop → (s.bay b).queue = [] → op.fromLoaded = true → (s.level b).val ≤ s.timing.restoreCeiling →
              s.permits b .load = true →
              Answers (exec (.done f) s) fun t =>
                if s.adm.committed + (s.profileOf b).loadingReservation - (s.bay b).reservation ≤ s.adm.effLimit then
                  t.bay b = { unloaded with
                                slot := none, state := .loading, reservation := (s.profileOf b).loadingReservation
                                queue := [{ kind := .load, origin := .part, payload := [], phase := .issued, wait := none }] }
                    ∧ t.adm = s.adm.moved (s.bay b).reservation (s.profileOf b).loadingReservation
                    ∧ t.bus = { s.firstAttempt { s.exchangeFor b .load .head [] with before := .idle } with
                          sent := [{ destination := f.initiator, kind := 0x40, payload := [] },
                                   { destination := (Target.bay b).address, kind := 0x12, payload := [] }] }
                    ∧ t.ffr = s.ffr ∧ s.KeepsBut t b
                else
                  t.bay b = { unloaded with
                                slot := none
                                queue := [{ kind := .load, origin := .part, payload := [], phase := .admitting,
                                            wait := s.waitDeadline }] }
                    ∧ t.adm = { s.adm.moved (s.bay b).reservation (s.profileOf b).idle with queue := [{ bay := b, kind := .load }] }
                    ∧ t.bus = idleBus [{ destination := f.initiator, kind := 0x40, payload := [] }] ∧ t.ffr = s.ffr ∧ s.KeepsBut t b)
            ∧ (op.kind = .stop → op.stopPhase = false → (s.bay b).queue = [] →
              Answers (exec (.done f) s) fun t =>
                t.bay b = { unloaded with state := .stopping, slot := some { op with started := true, stopPhase := true } }
                  ∧ t.adm = s.adm.moved (s.bay b).reservation (s.profileOf b).idle
                  ∧ t.bus = { s.firstAttempt { s.exchangeFor b .stop .protective [] with before := .idle } with
                        sent := [{ destination := f.initiator, kind := 0x40, payload := [] },
                                 { destination := (Target.bay b).address, kind := 0x11, payload := [] }] }
                  ∧ t.ffr = s.ffr ∧ s.KeepsBut t b
                  ∧ s.Tells t [] (s.bayNews b .idle ++ [.bay b .stopping (s.profileOf b).idle s.now]
                      ++ s.budgetNews t.adm.committed)))
        ∧ (f.payload = [1, 0, 0] → (s.bay b).state = .stopping → op.kind = .stop → (s.bay b).queue = [] →
          Answers (exec (.done f) s) fun t =>
            t.bay b = { s.bay b with
                          state := .off, reservation := 0, deadline := none, slot := none
                          cache := some { report := { present := true, condition := 0, code := 0 }, time := s.now } }
              ∧ t.adm = s.adm.moved (s.bay b).reservation 0
              ∧ t.bus = idleBus [{ destination := f.initiator, kind := 0x40, payload := [] }] ∧ t.ffr = s.ffr ∧ s.KeepsBut t b
              ∧ s.Tells t [] (s.bayNews b .off ++ s.budgetNews t.adm.committed)))
    ∧ ∀ (s : State) (h : Header) (src : Source) (b : Bay) (z : Zone) (l : Level), s.HearsManager h src → s.CalmBut b →
        (s.bay b).queue = [] → (s.bay b).slot = none → (s.bay b).restoreIntent = true → (s.bay b).state = .idle →
        l = s.prot.levels.of z → l.val < (s.level b).val → l.val ≤ s.timing.restoreCeiling → s.prot.permits l .load = true →
        s.adm.committed + (s.profileOf b).loadingReservation - (s.bay b).reservation ≤ s.adm.effLimit →
        Answers (exec (s.rezone h b z) s) fun t =>
          t.bay b = { s.bay b with
                        zone := z, sweepLevel := minLevel (s.bay b).sweepLevel l, restoreIntent := false, state := .loading
                        reservation := (s.profileOf b).loadingReservation, deadline := none
                        queue := [{ kind := .load, origin := .part, payload := [], phase := .issued, wait := none }] }
            ∧ t.adm = s.adm.moved (s.bay b).reservation (s.profileOf b).loadingReservation
            ∧ t.bus = s.firstAttempt (s.exchangeFor b .load .head []) ∧ t.ffr = s.ffr ∧ s.KeepsBut t b
            ∧ s.heard.Tells t [s.rezoned h b z] (s.bayNews b .loading ++ s.budgetNews t.adm.committed)

/-! ### The bay bus -/

/-- An attempt that fails below the retry limit is resent after 2 ms and counted against the bay, with the RETRY notice of a crossing;
one that fails at the limit ends the exchange: a bay becomes Unreachable or Faulted by the class's row, with the fault Bus, an Issued
head completed BayFault and its notices in the order of log 18; a node keeps its rate (R17, R40, R99, R130, R131, R134, R171, R176,
R177). That a STATUS or PASS that ends so has no payload is the model's reading (log 52). -/
def Obligations.FailuresAreResentOrExhausted : Prop :=
  (([.noAnswer, .check, .busy, .replyCheckBad] : List FailClass).map fun f => (f.state, f.secondary))
      = [(.unreachable, 1), (.faulted, 2), (.faulted, 3), (.faulted, 4)]
    ∧ ∀ (s : State) (c : Current) (station : Byte) (f : FailClass) (i : Instr), s.Alone c station → s.FailsBy c station f i →
      (c.resends < s.timing.retryLimit →
          Answers (exec i s) fun t =>
            t.bus = { idleBus [] with current := some { c with resends := c.resends + 1, answerBy := none
                                                               resendAt := some (s.after 2) } }
              ∧ (∀ b, t.bay b = if c.ex.target = .bay b then
                  { s.bay b with retry := if (s.bay b).retry < 255 then (s.bay b).retry + 1 else (s.bay b).retry } else s.bay b)
              ∧ s.Tells t [] (match c.ex.target with
                | .bay b => if (s.bay b).retry < s.timing.retryThreshold ∧ s.timing.retryThreshold ≤ (t.bay b).retry then
                    [.retry b (t.bay b).retry s.timing.retryThreshold s.now] else []
                | _ => [])
              ∧ t = { s with bays := t.bays, bus := t.bus, link := t.link, notices := t.notices, alertLine := t.alertLine })
        ∧ (∀ (b : Bay) (rs : List Reply) (w : Work), s.timing.retryLimit ≤ c.resends → c.ex.target = .bay b →
            c.ex.owner ≠ .survey → s.Balanced → s.Interrupts b .bus rs w →
            Answers (exec i s) fun t =>
              t.bay b = s.faultedBay b f.state .bus f.secondary
                ∧ t.adm = s.adm.moved (s.bay b).reservation (s.profileOf b).peak ∧ t.bus = idleBus []
                ∧ t.ffr = s.faultTaken (.bay b) .bus f.secondary w ∧ s.KeepsBut t b
                ∧ s.Tells t rs (s.faultNews b f.state .bus f.secondary w t.adm.committed))
        ∧ ∀ n : SensorId, s.timing.retryLimit ≤ c.resends → c.ex.target = .node n → s.sensors[n].furtherRate = false →
            Answers (exec i s) fun t =>
              t.sensors = s.sensors.set n { s.sensors[n] with requested := none, expected := none }
                ∧ t.bus = idleBus [] ∧ t.ffr = s.ffr
                ∧ t = { s with sensors := t.sensors, bus := t.bus, link := t.link, notices := t.notices, alertLine := t.alertLine }

/-- NAK Refused ends the exchange: after a state-changing one the bay returns to its state before it, and the head completes
BayRefused with the reason; the slot becomes absent with a protective exchange, and with an UNLOAD or STOP of a head whose operation
it adopted; a STATUS or PASS head completes BayRefused, a node keeps its rate, an insertion QUERY leaves nothing (R16, R40, R99, R112,
R116, R133). That a head's refusal too gives a transitional state a fresh deadline, as R116 says of a protective one's, is the model's
choice (log 40). That a STATUS or PASS that ends so has no payload is the model's reading (log 52). -/
def Obligations.RefusalsReturnTheBay : Prop :=
  ∀ (s : State) (c : Current) (station reason : Byte), s.Alone c station → s.Balanced →
    (∀ (b : Bay) (r : Request) (src : Source) (tag : Byte), c.ex.target = .bay b → c.ex.owner = .head →
        c.ex.kind.stateChanging = true → c.ex.before ≠ (s.bay b).state → (s.bay b).queue = [r] → r.phase = .issued →
        r.origin = .upstream src tag none → (s.bay b).restoreIntent = false →
        ((s.bay b).slot = none ∨ ∃ op, (s.bay b).slot = some op ∧ op.started = true ∧ (c.ex.kind = .unload ∨ c.ex.kind = .stop)) →
        Answers (exec (nakRefusal station reason) s) fun t =>
          t.bay b = { s.bay b with
                        state := c.ex.before, reservation := (s.profileOf b).reservation c.ex.before, queue := [], slot := none
                        deadline := c.ex.before.opKind.map fun k =>
                          { due := s.after ((s.profileOf b).time k), kind := k, group := false } }
            ∧ t.adm = s.adm.moved (s.bay b).reservation ((s.profileOf b).reservation c.ex.before)
            ∧ t.bus = idleBus [] ∧ t.ffr = s.ffr ∧ s.KeepsBut t b
            ∧ s.Tells t [{ tag := tag, completion := { code := .bayRefused, secondary := reason.toNat }, payload := [], echo := none }]
                (s.bayNews b c.ex.before ++ s.budgetNews t.adm.committed))
      ∧ (∀ (b : Bay) (op : ProtOp), c.ex.target = .bay b → c.ex.owner = .protective → c.ex.before ≠ (s.bay b).state →
        (s.bay b).queue = [] → (s.bay b).slot = some op →
        Answers (exec (nakRefusal station reason) s) fun t =>
          t.bay b = { s.bay b with
                        state := c.ex.before, reservation := (s.profileOf b).reservation c.ex.before, slot := none
                        deadline := c.ex.before.opKind.map fun k =>
                          { due := s.after ((s.profileOf b).time k), kind := k, group := false } }
            ∧ t.adm = s.adm.moved (s.bay b).reservation ((s.profileOf b).reservation c.ex.before)
            ∧ t.bus = idleBus [] ∧ t.ffr = s.ffr ∧ s.KeepsBut t b
            ∧ s.Tells t [] (s.bayNews b c.ex.before ++ s.budgetNews t.adm.committed))
      ∧ (∀ (b : Bay) (r : Request) (src : Source) (tag : Byte), c.ex.target = .bay b → c.ex.owner = .head →
        (c.ex.kind = .query ∨ c.ex.kind = .pass) → (s.bay b).queue = [r] → r.phase = .issued → r.origin = .upstream src tag none →
        (s.bay b).restoreIntent = false →
        exec (nakRefusal station reason) s =
          .next (({ s with bus := idleBus [] }.updBay b fun e => { e with queue := [] }).gave
            { tag := tag, completion := { code := .bayRefused, secondary := reason.toNat }, payload := [], echo := none }))
      ∧ (∀ n : SensorId, c.ex.target = .node n → s.sensors[n].furtherRate = false →
        Answers (exec (nakRefusal station reason) s) fun t =>
          t.sensors = s.sensors.set n { s.sensors[n] with requested := none, expected := none }
            ∧ t.bus = idleBus []
            ∧ t = { s with sensors := t.sensors, bus := t.bus, link := t.link, notices := t.notices, alertLine := t.alertLine })
      ∧ ∀ b : Bay, c.ex.target = .bay b → c.ex.owner = .insertion →
        exec (nakRefusal station reason) s = .next ({ s with bus := idleBus [] }.sends [])

/-- An ACK ends the exchange: a state-changing one sets the operation deadline of the class's time, a PASS answers its head with the
payload, a RATE puts the rate in force, and a QUERY whose report agrees with the bay's state answers its STATUS head and refreshes
the cache (R11, R19, R46, R47, R99, R132). -/
def Obligations.AcknowledgementsEndTheExchange : Prop :=
  (∀ (s : State) (c : Current) (b : Bay) (k : OpKind) (station : Byte), s.Alone c station → c.ex.target = .bay b →
      c.ex.kind.opKind = some k →
      Answers (exec (.ack { initiator := station, payload := [], check := stationCheck station 0x40 [] }) s) fun t =>
        t.bay b = { s.bay b with deadline := some { due := s.after ((s.profileOf b).time k), kind := k, group := false } }
          ∧ t.adm = s.adm ∧ t.bus = idleBus [] ∧ t.ffr = s.ffr ∧ s.KeepsBut t b)
    ∧ (∀ (s : State) (c : Current) (b : Bay) (r : Request) (src : Source) (tag station : Byte) (p : List Byte), s.Alone c station →
        c.ex.target = .bay b → c.ex.kind = .pass → p.length ≤ 32 → (s.bay b).queue = [r] → r.phase = .issued →
        r.origin = .upstream src tag none → (s.bay b).restoreIntent = false →
        exec (.ack { initiator := station, payload := p, check := stationCheck station 0x40 p }) s =
          .next (({ s with bus := idleBus [] }.updBay b fun e => { e with queue := [] }).gave
            { tag := tag, completion := { code := .done, secondary := 0 }, payload := p, echo := none }))
    ∧ (∀ (s : State) (c : Current) (n : SensorId) (station : Byte), s.Alone c station → c.ex.target = .node n → c.ex.kind = .rate →
        s.sensors[n].furtherRate = false →
        Answers (exec (.ack { initiator := station, payload := [], check := stationCheck station 0x40 [] }) s) fun t =>
          t.sensors = s.sensors.set n { s.sensors[n] with rate := c.ex.rate, requested := none, expected := none }
            ∧ t.bus = idleBus []
            ∧ t = { s with sensors := t.sensors, bus := t.bus, link := t.link, notices := t.notices, alertLine := t.alertLine })
    ∧ ∀ (s : State) (c : Current) (b : Bay) (r : Request) (src : Source) (tag station cond : Byte) (k : Condition), s.Alone c station →
        c.ex.target = .bay b → c.ex.kind = .query → c.ex.owner = .head → conditionOf cond = some k → k.state = (s.bay b).state →
        (s.bay b).state.transitional = false → (s.bay b).queue = [r] → r.kind = .status → r.phase = .issued →
        r.origin = .upstream src tag none → (s.bay b).restoreIntent = false →
        exec (.ack { initiator := station, payload := [1, cond, 0], check := stationCheck station 0x40 [1, cond, 0] }) s =
          .next (({ s with bus := idleBus [] }.updBay b fun e =>
              { e with queue := [], cache := some { report := { present := true, condition := cond, code := 0 }, time := s.now } }).gave
            { tag := tag, completion := { code := .done, secondary := 0 }, payload := [1, cond, 0, 0, 0, 0, 0, 0], echo := none })

/-- A DONE frame completes the operation in flight: the state and reservation after it, no deadline, the report cached, and Done for
the head it served (R12, R19, R39, R141); on a bay of a calm part with no operation in flight it reconciles the bay, where it shows a
fault code to Faulted, with the sweep level at 0 or, by the rise that follows, at the zone's level where that has an action, and its
notices in the order of log 18 (R8, R15, R18, R72, R110, R120, R171). -/
def Obligations.DoneCompletesOrReconciles : Prop :=
  (∀ (s : State) (b : Bay) (f : StationFrame) (cond : Byte) (k : Condition) (st : BayState) (rs : List Reply), s.Resting →
      s.Balanced → s.Receives 0x30 f → bayAt f.initiator = some b → f.payload = [1, cond, 0] → conditionOf cond = some k →
      completionState (s.bay b).state k = some st → (s.bay b).slot = none → (s.bay b).restoreIntent = false →
      ((s.bay b).queue = [] ∧ rs = []
        ∨ ∃ r src tag, (s.bay b).queue = [r] ∧ r.phase = .issued ∧ r.kind.goalOf (s.bay b).state = true
            ∧ r.origin = .upstream src tag none
            ∧ rs = [{ tag := tag, completion := { code := .done, secondary := 0 }, payload := [], echo := none }]) →
      Answers (exec (.done f) s) fun t =>
        t.bay b = { s.bay b with
                      state := st, reservation := (s.profileOf b).reservation st, deadline := none, queue := []
                      cache := some { report := { present := true, condition := cond, code := 0 }, time := s.now } }
          ∧ t.adm = s.adm.moved (s.bay b).reservation ((s.profileOf b).reservation st)
          ∧ t.bus = idleBus [{ destination := f.initiator, kind := 0x40, payload := [] }] ∧ t.ffr = s.ffr ∧ s.KeepsBut t b
          ∧ s.Tells t rs (s.bayNews b st ++ s.budgetNews t.adm.committed))
    ∧ (∀ (s : State) (b : Bay) (f : StationFrame) (cond : Byte) (k : Condition), s.Calm → s.Receives 0x30 f →
        bayAt f.initiator = some b → f.payload = [1, cond, 0] → conditionOf cond = some k →
        (s.bay b).state.transitional = false → k.state ≠ (s.bay b).state → s.level b = 0 →
        Answers (exec (.done f) s) fun t =>
          t.bay b = { s.bay b with
                        state := k.state, reservation := (s.profileOf b).reservation k.state, sweepLevel := 0
                        deadline := k.state.opKind.map fun o =>
                          { due := s.after ((s.profileOf b).time o), kind := o, group := false }
                        cache := some { report := { present := true, condition := cond, code := 0 }, time := s.now } }
            ∧ t.adm = s.adm.moved (s.bay b).reservation ((s.profileOf b).reservation k.state)
            ∧ t.bus = idleBus [{ destination := f.initiator, kind := 0x40, payload := [] }] ∧ t.ffr = s.ffr ∧ s.KeepsBut t b
            ∧ s.Tells t [] (s.bayNews b k.state ++ s.budgetNews t.adm.committed))
    ∧ ∀ (s : State) (b : Bay) (f : StationFrame) (cond code : Byte) (k : Condition), s.Calm → s.Receives 0x30 f →
        bayAt f.initiator = some b → f.payload = [1, cond, code] → conditionOf cond = some k → code ≠ 0 →
        (s.bay b).state.transitional = false → (s.bay b).state ≠ .faulted →
        Answers (exec (.done f) s) fun t =>
          t.bay b = { s.faultedBay b .faulted .drive code.toNat with
                        sweepLevel := if s.prot.action (s.level b) = .none then 0 else s.level b
                        cache := some { report := { present := true, condition := cond, code := code }, time := s.now } }
            ∧ t.adm = s.adm.moved (s.bay b).reservation (s.profileOf b).peak
            ∧ t.bus = idleBus [{ destination := f.initiator, kind := 0x40, payload := [] }]
            ∧ t.ffr = s.faultTaken (.bay b) .drive code.toNat .none ∧ s.KeepsBut t b
            ∧ s.Tells t [] (s.faultNews b .faulted .drive code.toNat .none t.adm.committed)

/-- An Inserted notice takes an Empty bay to Off with a QUERY, an Unknown one, which only the survey leaves so, to Off with none, and
no other; a Removed notice empties the bay, clears its record but the last fault, and completes its whole queue BayEmpty (R7, R8, R21,
R22, R141). That a STATUS or PASS that ends so has no payload is the model's reading (log 52). -/
def Obligations.PresenceNotices : Prop :=
  (∀ (s : State) (b : Bay) (f : StationFrame), s.Receives 0x32 f → bayAt f.initiator = some b → f.payload = [1] →
      (s.Resting → (s.bay b).state ≠ .empty → (s.bay b).state ≠ .unknown →
          exec (.presenceInserted f.initiator f.payload f.check) s = .next (s.sends [{ destination := f.initiator, kind := 0x40, payload := [] }]))
        ∧ (s.Resting → s.Balanced → (s.bay b).state = .empty →
          Answers (exec (.presenceInserted f.initiator f.payload f.check) s) fun t =>
            t.bay b = { s.bay b with state := .off, reservation := 0 } ∧ t.adm = s.adm
              ∧ t.bus = { s.firstAttempt { s.exchangeFor b .query .insertion [] with before := .off } with
                    sent := [{ destination := f.initiator, kind := 0x40, payload := [] },
                             { destination := f.initiator, kind := 0x15, payload := [] }] }
              ∧ t.ffr = s.ffr ∧ s.KeepsBut t b ∧ s.Tells t [] (s.bayNews b .off))
        ∧ (s.survey.running = true → (s.survey.settle.isSome = true ∨ ∃ d, (s.bay d).surveyed = false) → s.Balanced → s.FlagFollows →
          s.adm.queue = [] → (∀ d, (s.bay d).waiting = []) →
          (s.bus.current.isSome = true ∨ (s.bus.urgent = [] ∧ s.bus.normal = [])) → (s.bay b).state = .unknown →
          Answers (exec (.presenceInserted f.initiator f.payload f.check) s) fun t =>
            t.bay b = { s.bay b with state := .off, reservation := 0 } ∧ t.adm = s.adm.moved (s.bay b).reservation 0
              ∧ t.bus = { s.bus with sent := [{ destination := f.initiator, kind := 0x40, payload := [] }] }
              ∧ t.ffr = s.ffr ∧ s.KeepsBut t b ∧ s.Tells t [] (s.bayNews b .off ++ s.budgetNews t.adm.committed)))
    ∧ ∀ (s : State) (b : Bay) (f : StationFrame), s.Resting → s.Balanced → s.Receives 0x32 f → bayAt f.initiator = some b →
        f.payload = [2] → (s.bay b).state ≠ .empty →
        ∀ tag : Request → Byte, (∀ r ∈ (s.bay b).queue, ∃ src, r.origin = .upstream src (tag r) none) →
        Answers (exec (.presenceRemoved f.initiator f.payload f.check) s) fun t =>
          t.bay b = { s.bay b with
                        state := .empty, reservation := 0, queue := [], slot := none, deadline := none, holder := none
                        restoreIntent := false, sweepLevel := 0, retry := 0, cache := none }
            ∧ t.adm = s.adm.moved (s.bay b).reservation 0
            ∧ t.bus = idleBus [{ destination := f.initiator, kind := 0x40, payload := [] }] ∧ t.ffr = s.ffr ∧ s.KeepsBut t b
            ∧ s.Tells t ((s.bay b).queue.map fun r =>
                { tag := tag r, completion := { code := .bayEmpty, secondary := 0 }, payload := [], echo := none })
                (s.bayNews b .empty ++ s.budgetNews t.adm.committed)

/-- A SAMPLES frame: ignored for a disabled sensor; discarded with the blind deadline restarted while a rate is requested or where it
is stale, Blind as it was; otherwise accepted, with the runs cleared at a gap, each sample taken in order, and the conditions handed over
(R81 to R83, R95, R100). -/
def Obligations.SamplesAreDiscardedOrTaken : Prop :=
  ∀ (s : State) (i : SensorId) (f : StationFrame) (first : Half) (samples : List (Int × Int × Int)), s.Receives 0x33 f →
    sensorAt f.initiator = some i → sampleFrameOf f.payload = some (first, samples) →
    Answers (exec (.samples f) s) fun t =>
      (∀ j : SensorId, j ≠ i → t.sensors[j] = s.sensors[j])
        ∧ (s.sensors[i].enabled = false → t.sensors[i] = s.sensors[i] ∧ t.latch = s.latch)
        ∧ (s.sensors[i].enabled = true →
            (s.sensors[i].requested.isSome = true ∨ ∃ e, s.sensors[i].expected = some e ∧ 32768 ≤ (first - e).toNat) →
            t.sensors[i] = { s.sensors[i] with blindDue := some (s.after s.thresholds.blindTime) } ∧ t.latch = s.latch)
        ∧ ∀ gap : Bool, s.sensors[i].enabled = true → s.sensors[i].requested = none →
            (s.sensors[i].expected = none ∧ gap = false
              ∨ ∃ e, s.sensors[i].expected = some e ∧ (first - e).toNat < 32768 ∧ (gap = true ↔ first ≠ e)) →
            (let taken := takeSamples i first samples (s.updSensor i fun r =>
              { r with
                lowRun := if gap then 0 else r.lowRun, highRun := if gap then 0 else r.highRun
                tiltRun := if gap then 0 else r.tiltRun, untiltRun := if gap then 0 else r.untiltRun
                conds := { r.conds with blind := false }
                expected := some (first + BitVec.ofNat 16 samples.length)
                blindDue := some (s.after s.thresholds.blindTime) })
            t.sensors = taken.sensors ∧ t.latch = taken.latch ∧ t.ffr = taken.ffr
              ∧ t.prot.copies = s.prot.copies.set i { enabled := true, conds := t.sensors[i].conds }
              ∧ t.prot.latchCopy = taken.latch.isSome)

/-- One sample of an accepted frame: the high-g and low-g tests, the deadlines of a high-g sample, the low-g run with the assertion and
the exit of Falling, whose outcome is delivered, then the high-g run with Jolt, the vibration window with Rolling, the tilt runs with
Tilted, and the last sample; nothing else changes. A frame's samples are taken one after the other, their counters rising by one (R76,
R82, R84 to R88, R91, R93, R94). -/
def Obligations.SamplesAreTakenOneByOne : Prop :=
  (∀ (s : State) (i : SensorId) (counter : Half), takeSamples i counter [] s = s
      ∧ ∀ (x y z : Int) (rest : List (Int × Int × Int)),
          takeSamples i counter ((x, y, z) :: rest) s = takeSamples i (counter + 1) rest (takeSample i counter x y z s))
    ∧ ∀ (s t : State) (i : SensorId) (counter : Half) (x y z : Int) (r q : SensorRecord) (m : Nat) (high low tilted : Bool)
        (lowRun highRun tiltRun untiltRun mean : Nat),
      t = takeSample i counter x y z s → r = s.sensors[i] → q = t.sensors[i] → m = squaredMagnitude x y z →
      high = s.thresholds.high m → low = s.thresholds.low m r.debounceDue → tilted = s.thresholds.tilts m z →
      lowRun = (if low then min (r.lowRun + 1) 65535 else 0) → highRun = (if high then min (r.highRun + 1) 65535 else 0) →
      tiltRun = (if tilted then min (r.tiltRun + 1) 65535 else 0) → untiltRun = (if tilted then 0 else min (r.untiltRun + 1) 65535) →
      mean = (r.vibSum - r.window.headD 0 + vibration m) / 16 →
      r.lowRun ≤ 65535 → r.highRun ≤ 65535 → r.tiltRun ≤ 65535 → r.untiltRun ≤ 65535 →
      (∀ j : SensorId, j ≠ i → t.sensors[j] = s.sensors[j])
        ∧ t = { s with sensors := t.sensors, latch := t.latch, ffr := t.ffr, notices := t.notices }
        ∧ (let ends := r.conds.falling && !low
          (ends = false → t.latch = s.latch ∧ t.ffr = s.ffr ∧ t.notices = s.notices ∧ q.lastFall = r.lastFall)
            ∧ (ends = true →
                let d := deliverFall i (fallHeight (r.duration counter) r.rate.hertz) s
                t.latch = d.latch ∧ t.ffr = d.ffr ∧ t.notices = d.notices ∧ q.lastFall = d.sensors[i].lastFall))
        ∧ q = { r with
            lowRun := lowRun, highRun := highRun, tiltRun := tiltRun, untiltRun := untiltRun
            lastHigh := if high then some s.now else r.lastHigh
            joltDue := if high then some (s.after s.thresholds.joltHold) else r.joltDue
            debounceDue := if high then (if s.thresholds.debounce = 0 then none else some (s.after s.thresholds.debounce))
              else r.debounceDue
            fallStart :=
              if r.conds.falling then (if low then r.fallStart else none)
              else if low ∧ s.thresholds.nLow ≤ lowRun then some (counter - BitVec.ofNat 16 (lowRun - 1)) else r.fallStart
            window := r.window.tail ++ [vibration m], vibSum := r.vibSum - r.window.headD 0 + vibration m
            conds :=
              { falling := if r.conds.falling then low else low && decide (s.thresholds.nLow ≤ lowRun)
                jolt := r.conds.jolt || (high && decide (s.thresholds.nHigh ≤ highRun))
                rolling := if r.conds.rolling then !decide (mean < s.thresholds.vOff) else decide (s.thresholds.vOn ≤ mean)
                tilted := if r.conds.tilted then !decide (s.thresholds.nTilt ≤ untiltRun) else decide (s.thresholds.nTilt ≤ tiltRun)
                blind := r.conds.blind }
            lastSample := some { counter := counter, x := x, y := y, z := z }, lastFall := q.lastFall }

/-- A station frame on a bus at rest: one with a bad check is answered NAK Check, one of an unknown kind, from an address that the kind
does not come from, or with a payload out of its form NAK Refused with reason 0, and none is handed over (R141, R186). While the bus is
not free it is noise, which is the model's reading of R129 (log 1). -/
def Obligations.StationFramesNotTaken : Prop :=
  ∀ (s : State) (c : Instr) (f : StationFrame), c.station = some f →
    (s.bus.transaction ≠ .free → exec c s = .next s)
      ∧ (s.Resting → f.check ≠ stationCheck f.initiator f.kind f.payload →
          exec c s = .next (s.sends [{ destination := f.initiator, kind := 0x41, payload := [1] }]))
      ∧ (s.Resting → f.check = stationCheck f.initiator f.kind f.payload →
          (f.kind ∉ ([0x30, 0x31, 0x32, 0x33, 0x40, 0x41] : List Byte)
            ∨ (c = .done f ∧ (bayAt f.initiator = none ∨ reportOf f.payload = none))
            ∨ (c = .fault f ∧ (bayAt f.initiator = none ∨ f.payload.length ≠ 1 ∨ f.payload = [0]))
            ∨ ((c = .presenceInserted f.initiator f.payload f.check
                ∨ c = .presenceRemoved f.initiator f.payload f.check)
                ∧ (bayAt f.initiator = none ∨ (f.payload ≠ [1] ∧ f.payload ≠ [2])))
            ∨ (c = .samples f ∧ (sensorAt f.initiator = none ∨ sampleFrameOf f.payload = none))) →
          exec c s = .next (s.sends [{ destination := f.initiator, kind := 0x41, payload := [3, 0] }]))
end

