-- ==== Sys2Proof/Laws/State.lean ====
section
/-! SUPPORT. One lemma per field of State per update, true by `rfl`, and what the updates read back. -/

namespace Sys2Proof.Machine

set_option Elab.async false

/-! ### `updBay` -/

@[simp] theorem updBay_now (s : State) (b : Bay) (f : BayRecord → BayRecord) : (s.updBay b f).now = s.now := rfl
@[simp] theorem updBay_pending (s : State) (b : Bay) (f : BayRecord → BayRecord) : (s.updBay b f).pending = s.pending := rfl
@[simp] theorem updBay_link (s : State) (b : Bay) (f : BayRecord → BayRecord) : (s.updBay b f).link = s.link := rfl
@[simp] theorem updBay_groups (s : State) (b : Bay) (f : BayRecord → BayRecord) : (s.updBay b f).groups = s.groups := rfl
@[simp] theorem updBay_windows (s : State) (b : Bay) (f : BayRecord → BayRecord) : (s.updBay b f).windows = s.windows := rfl
@[simp] theorem updBay_sources (s : State) (b : Bay) (f : BayRecord → BayRecord) : (s.updBay b f).sources = s.sources := rfl
@[simp] theorem updBay_bays (s : State) (b : Bay) (f : BayRecord → BayRecord) : (s.updBay b f).bays = s.bays.set b (f (s.bay b)) := rfl
@[simp] theorem updBay_survey (s : State) (b : Bay) (f : BayRecord → BayRecord) : (s.updBay b f).survey = s.survey := rfl
@[simp] theorem updBay_adm (s : State) (b : Bay) (f : BayRecord → BayRecord) : (s.updBay b f).adm = s.adm := rfl
@[simp] theorem updBay_sensors (s : State) (b : Bay) (f : BayRecord → BayRecord) : (s.updBay b f).sensors = s.sensors := rfl
@[simp] theorem updBay_thresholds (s : State) (b : Bay) (f : BayRecord → BayRecord) : (s.updBay b f).thresholds = s.thresholds := rfl
@[simp] theorem updBay_latch (s : State) (b : Bay) (f : BayRecord → BayRecord) : (s.updBay b f).latch = s.latch := rfl
@[simp] theorem updBay_prot (s : State) (b : Bay) (f : BayRecord → BayRecord) : (s.updBay b f).prot = s.prot := rfl
@[simp] theorem updBay_bus (s : State) (b : Bay) (f : BayRecord → BayRecord) : (s.updBay b f).bus = s.bus := rfl
@[simp] theorem updBay_ffr (s : State) (b : Bay) (f : BayRecord → BayRecord) : (s.updBay b f).ffr = s.ffr := rfl
@[simp] theorem updBay_notices (s : State) (b : Bay) (f : BayRecord → BayRecord) : (s.updBay b f).notices = s.notices := rfl
@[simp] theorem updBay_timing (s : State) (b : Bay) (f : BayRecord → BayRecord) : (s.updBay b f).timing = s.timing := rfl
@[simp] theorem updBay_alertLine (s : State) (b : Bay) (f : BayRecord → BayRecord) : (s.updBay b f).alertLine = s.alertLine := rfl

/-! ### `updSensor` -/

@[simp] theorem updSensor_now (s : State) (i : SensorId) (f : SensorRecord → SensorRecord) : (s.updSensor i f).now = s.now := rfl
@[simp] theorem updSensor_pending (s : State) (i : SensorId) (f : SensorRecord → SensorRecord) : (s.updSensor i f).pending = s.pending := rfl
@[simp] theorem updSensor_link (s : State) (i : SensorId) (f : SensorRecord → SensorRecord) : (s.updSensor i f).link = s.link := rfl
@[simp] theorem updSensor_groups (s : State) (i : SensorId) (f : SensorRecord → SensorRecord) : (s.updSensor i f).groups = s.groups := rfl
@[simp] theorem updSensor_windows (s : State) (i : SensorId) (f : SensorRecord → SensorRecord) : (s.updSensor i f).windows = s.windows := rfl
@[simp] theorem updSensor_sources (s : State) (i : SensorId) (f : SensorRecord → SensorRecord) : (s.updSensor i f).sources = s.sources := rfl
@[simp] theorem updSensor_bays (s : State) (i : SensorId) (f : SensorRecord → SensorRecord) : (s.updSensor i f).bays = s.bays := rfl
@[simp] theorem updSensor_survey (s : State) (i : SensorId) (f : SensorRecord → SensorRecord) : (s.updSensor i f).survey = s.survey := rfl
@[simp] theorem updSensor_adm (s : State) (i : SensorId) (f : SensorRecord → SensorRecord) : (s.updSensor i f).adm = s.adm := rfl
@[simp] theorem updSensor_sensors (s : State) (i : SensorId) (f : SensorRecord → SensorRecord) : (s.updSensor i f).sensors = s.sensors.set i (f s.sensors[i]) := rfl
@[simp] theorem updSensor_thresholds (s : State) (i : SensorId) (f : SensorRecord → SensorRecord) : (s.updSensor i f).thresholds = s.thresholds := rfl
@[simp] theorem updSensor_latch (s : State) (i : SensorId) (f : SensorRecord → SensorRecord) : (s.updSensor i f).latch = s.latch := rfl
@[simp] theorem updSensor_prot (s : State) (i : SensorId) (f : SensorRecord → SensorRecord) : (s.updSensor i f).prot = s.prot := rfl
@[simp] theorem updSensor_bus (s : State) (i : SensorId) (f : SensorRecord → SensorRecord) : (s.updSensor i f).bus = s.bus := rfl
@[simp] theorem updSensor_ffr (s : State) (i : SensorId) (f : SensorRecord → SensorRecord) : (s.updSensor i f).ffr = s.ffr := rfl
@[simp] theorem updSensor_notices (s : State) (i : SensorId) (f : SensorRecord → SensorRecord) : (s.updSensor i f).notices = s.notices := rfl
@[simp] theorem updSensor_timing (s : State) (i : SensorId) (f : SensorRecord → SensorRecord) : (s.updSensor i f).timing = s.timing := rfl
@[simp] theorem updSensor_alertLine (s : State) (i : SensorId) (f : SensorRecord → SensorRecord) : (s.updSensor i f).alertLine = s.alertLine := rfl

/-! ### `updAdm` -/

@[simp] theorem updAdm_now (s : State) (f : Admission → Admission) : (s.updAdm f).now = s.now := rfl
@[simp] theorem updAdm_pending (s : State) (f : Admission → Admission) : (s.updAdm f).pending = s.pending := rfl
@[simp] theorem updAdm_link (s : State) (f : Admission → Admission) : (s.updAdm f).link = s.link := rfl
@[simp] theorem updAdm_groups (s : State) (f : Admission → Admission) : (s.updAdm f).groups = s.groups := rfl
@[simp] theorem updAdm_windows (s : State) (f : Admission → Admission) : (s.updAdm f).windows = s.windows := rfl
@[simp] theorem updAdm_sources (s : State) (f : Admission → Admission) : (s.updAdm f).sources = s.sources := rfl
@[simp] theorem updAdm_bays (s : State) (f : Admission → Admission) : (s.updAdm f).bays = s.bays := rfl
@[simp] theorem updAdm_survey (s : State) (f : Admission → Admission) : (s.updAdm f).survey = s.survey := rfl
@[simp] theorem updAdm_adm (s : State) (f : Admission → Admission) : (s.updAdm f).adm = f s.adm := rfl
@[simp] theorem updAdm_sensors (s : State) (f : Admission → Admission) : (s.updAdm f).sensors = s.sensors := rfl
@[simp] theorem updAdm_thresholds (s : State) (f : Admission → Admission) : (s.updAdm f).thresholds = s.thresholds := rfl
@[simp] theorem updAdm_latch (s : State) (f : Admission → Admission) : (s.updAdm f).latch = s.latch := rfl
@[simp] theorem updAdm_prot (s : State) (f : Admission → Admission) : (s.updAdm f).prot = s.prot := rfl
@[simp] theorem updAdm_bus (s : State) (f : Admission → Admission) : (s.updAdm f).bus = s.bus := rfl
@[simp] theorem updAdm_ffr (s : State) (f : Admission → Admission) : (s.updAdm f).ffr = s.ffr := rfl
@[simp] theorem updAdm_notices (s : State) (f : Admission → Admission) : (s.updAdm f).notices = s.notices := rfl
@[simp] theorem updAdm_timing (s : State) (f : Admission → Admission) : (s.updAdm f).timing = s.timing := rfl
@[simp] theorem updAdm_alertLine (s : State) (f : Admission → Admission) : (s.updAdm f).alertLine = s.alertLine := rfl

/-! ### `updBus` -/

@[simp] theorem updBus_now (s : State) (f : BusController → BusController) : (s.updBus f).now = s.now := rfl
@[simp] theorem updBus_pending (s : State) (f : BusController → BusController) : (s.updBus f).pending = s.pending := rfl
@[simp] theorem updBus_link (s : State) (f : BusController → BusController) : (s.updBus f).link = s.link := rfl
@[simp] theorem updBus_groups (s : State) (f : BusController → BusController) : (s.updBus f).groups = s.groups := rfl
@[simp] theorem updBus_windows (s : State) (f : BusController → BusController) : (s.updBus f).windows = s.windows := rfl
@[simp] theorem updBus_sources (s : State) (f : BusController → BusController) : (s.updBus f).sources = s.sources := rfl
@[simp] theorem updBus_bays (s : State) (f : BusController → BusController) : (s.updBus f).bays = s.bays := rfl
@[simp] theorem updBus_survey (s : State) (f : BusController → BusController) : (s.updBus f).survey = s.survey := rfl
@[simp] theorem updBus_adm (s : State) (f : BusController → BusController) : (s.updBus f).adm = s.adm := rfl
@[simp] theorem updBus_sensors (s : State) (f : BusController → BusController) : (s.updBus f).sensors = s.sensors := rfl
@[simp] theorem updBus_thresholds (s : State) (f : BusController → BusController) : (s.updBus f).thresholds = s.thresholds := rfl
@[simp] theorem updBus_latch (s : State) (f : BusController → BusController) : (s.updBus f).latch = s.latch := rfl
@[simp] theorem updBus_prot (s : State) (f : BusController → BusController) : (s.updBus f).prot = s.prot := rfl
@[simp] theorem updBus_bus (s : State) (f : BusController → BusController) : (s.updBus f).bus = f s.bus := rfl
@[simp] theorem updBus_ffr (s : State) (f : BusController → BusController) : (s.updBus f).ffr = s.ffr := rfl
@[simp] theorem updBus_notices (s : State) (f : BusController → BusController) : (s.updBus f).notices = s.notices := rfl
@[simp] theorem updBus_timing (s : State) (f : BusController → BusController) : (s.updBus f).timing = s.timing := rfl
@[simp] theorem updBus_alertLine (s : State) (f : BusController → BusController) : (s.updBus f).alertLine = s.alertLine := rfl

/-! ### `updLink` -/

@[simp] theorem updLink_now (s : State) (f : UpstreamPort → UpstreamPort) : (s.updLink f).now = s.now := rfl
@[simp] theorem updLink_pending (s : State) (f : UpstreamPort → UpstreamPort) : (s.updLink f).pending = s.pending := rfl
@[simp] theorem updLink_link (s : State) (f : UpstreamPort → UpstreamPort) : (s.updLink f).link = f s.link := rfl
@[simp] theorem updLink_groups (s : State) (f : UpstreamPort → UpstreamPort) : (s.updLink f).groups = s.groups := rfl
@[simp] theorem updLink_windows (s : State) (f : UpstreamPort → UpstreamPort) : (s.updLink f).windows = s.windows := rfl
@[simp] theorem updLink_sources (s : State) (f : UpstreamPort → UpstreamPort) : (s.updLink f).sources = s.sources := rfl
@[simp] theorem updLink_bays (s : State) (f : UpstreamPort → UpstreamPort) : (s.updLink f).bays = s.bays := rfl
@[simp] theorem updLink_survey (s : State) (f : UpstreamPort → UpstreamPort) : (s.updLink f).survey = s.survey := rfl
@[simp] theorem updLink_adm (s : State) (f : UpstreamPort → UpstreamPort) : (s.updLink f).adm = s.adm := rfl
@[simp] theorem updLink_sensors (s : State) (f : UpstreamPort → UpstreamPort) : (s.updLink f).sensors = s.sensors := rfl
@[simp] theorem updLink_thresholds (s : State) (f : UpstreamPort → UpstreamPort) : (s.updLink f).thresholds = s.thresholds := rfl
@[simp] theorem updLink_latch (s : State) (f : UpstreamPort → UpstreamPort) : (s.updLink f).latch = s.latch := rfl
@[simp] theorem updLink_prot (s : State) (f : UpstreamPort → UpstreamPort) : (s.updLink f).prot = s.prot := rfl
@[simp] theorem updLink_bus (s : State) (f : UpstreamPort → UpstreamPort) : (s.updLink f).bus = s.bus := rfl
@[simp] theorem updLink_ffr (s : State) (f : UpstreamPort → UpstreamPort) : (s.updLink f).ffr = s.ffr := rfl
@[simp] theorem updLink_notices (s : State) (f : UpstreamPort → UpstreamPort) : (s.updLink f).notices = s.notices := rfl
@[simp] theorem updLink_timing (s : State) (f : UpstreamPort → UpstreamPort) : (s.updLink f).timing = s.timing := rfl
@[simp] theorem updLink_alertLine (s : State) (f : UpstreamPort → UpstreamPort) : (s.updLink f).alertLine = s.alertLine := rfl

/-! ### `updNotices` -/

@[simp] theorem updNotices_now (s : State) (f : NoticeQueue → NoticeQueue) : (s.updNotices f).now = s.now := rfl
@[simp] theorem updNotices_pending (s : State) (f : NoticeQueue → NoticeQueue) : (s.updNotices f).pending = s.pending := rfl
@[simp] theorem updNotices_link (s : State) (f : NoticeQueue → NoticeQueue) : (s.updNotices f).link = s.link := rfl
@[simp] theorem updNotices_groups (s : State) (f : NoticeQueue → NoticeQueue) : (s.updNotices f).groups = s.groups := rfl
@[simp] theorem updNotices_windows (s : State) (f : NoticeQueue → NoticeQueue) : (s.updNotices f).windows = s.windows := rfl
@[simp] theorem updNotices_sources (s : State) (f : NoticeQueue → NoticeQueue) : (s.updNotices f).sources = s.sources := rfl
@[simp] theorem updNotices_bays (s : State) (f : NoticeQueue → NoticeQueue) : (s.updNotices f).bays = s.bays := rfl
@[simp] theorem updNotices_survey (s : State) (f : NoticeQueue → NoticeQueue) : (s.updNotices f).survey = s.survey := rfl
@[simp] theorem updNotices_adm (s : State) (f : NoticeQueue → NoticeQueue) : (s.updNotices f).adm = s.adm := rfl
@[simp] theorem updNotices_sensors (s : State) (f : NoticeQueue → NoticeQueue) : (s.updNotices f).sensors = s.sensors := rfl
@[simp] theorem updNotices_thresholds (s : State) (f : NoticeQueue → NoticeQueue) : (s.updNotices f).thresholds = s.thresholds := rfl
@[simp] theorem updNotices_latch (s : State) (f : NoticeQueue → NoticeQueue) : (s.updNotices f).latch = s.latch := rfl
@[simp] theorem updNotices_prot (s : State) (f : NoticeQueue → NoticeQueue) : (s.updNotices f).prot = s.prot := rfl
@[simp] theorem updNotices_bus (s : State) (f : NoticeQueue → NoticeQueue) : (s.updNotices f).bus = s.bus := rfl
@[simp] theorem updNotices_ffr (s : State) (f : NoticeQueue → NoticeQueue) : (s.updNotices f).ffr = s.ffr := rfl
@[simp] theorem updNotices_notices (s : State) (f : NoticeQueue → NoticeQueue) : (s.updNotices f).notices = f s.notices := rfl
@[simp] theorem updNotices_timing (s : State) (f : NoticeQueue → NoticeQueue) : (s.updNotices f).timing = s.timing := rfl
@[simp] theorem updNotices_alertLine (s : State) (f : NoticeQueue → NoticeQueue) : (s.updNotices f).alertLine = s.alertLine := rfl

/-! ### Bay Records and Sensor Records after an update -/

@[simp] theorem updSensor_bay (s : State) (i : SensorId) (f : SensorRecord → SensorRecord) (c : Bay) : (s.updSensor i f).bay c = s.bay c := rfl
@[simp] theorem updAdm_bay (s : State) (f : Admission → Admission) (c : Bay) : (s.updAdm f).bay c = s.bay c := rfl
@[simp] theorem updBus_bay (s : State) (f : BusController → BusController) (c : Bay) : (s.updBus f).bay c = s.bay c := rfl
@[simp] theorem updLink_bay (s : State) (f : UpstreamPort → UpstreamPort) (c : Bay) : (s.updLink f).bay c = s.bay c := rfl
@[simp] theorem updNotices_bay (s : State) (f : NoticeQueue → NoticeQueue) (c : Bay) : (s.updNotices f).bay c = s.bay c := rfl

/-- The bay written reads as written. -/
@[simp] theorem updBay_bay_same (s : State) (b : Bay) (f : BayRecord → BayRecord) : (s.updBay b f).bay b = f (s.bay b) := by
  simp [State.updBay, State.bay]

/-- Every other bay reads as before. -/
theorem updBay_bay_other (s : State) {b c : Bay} (f : BayRecord → BayRecord) (h : c ≠ b) : (s.updBay b f).bay c = s.bay c := by
  have hv : (b : Nat) ≠ (c : Nat) := fun e => h (Fin.ext e.symm)
  simp [State.updBay, State.bay, hv]

/-- Both cases of a bay after an update. -/
theorem updBay_bay (s : State) (b c : Bay) (f : BayRecord → BayRecord) :
    (s.updBay b f).bay c = if c = b then f (s.bay b) else s.bay c := by
  by_cases h : c = b
  · simp [h]
  · simp [h, updBay_bay_other s f h]

/-- The sensor written reads as written. -/
theorem updSensor_same (s : State) (i : SensorId) (f : SensorRecord → SensorRecord) :
    (s.updSensor i f).sensors[i] = f s.sensors[i] := by simp

/-- Every other sensor reads as before. -/
theorem updSensor_other (s : State) {i j : SensorId} (f : SensorRecord → SensorRecord) (h : j ≠ i) :
    (s.updSensor i f).sensors[j] = s.sensors[j] := by
  have hv : (i : Nat) ≠ (j : Nat) := fun e => h (Fin.ext e.symm)
  simp [hv]

/-- Two writes at one bay are one. -/
theorem updBay_updBay (s : State) (b : Bay) (f g : BayRecord → BayRecord) :
    (s.updBay b f).updBay b g = s.updBay b (fun r => g (f r)) := by
  simp [State.updBay, State.bay]

/-- A write that changes nothing. -/
theorem updBay_id (s : State) (b : Bay) : s.updBay b (fun r => r) = s := by
  cases s; simp [State.updBay, State.bay]

/-- Every bay stands in the list of bays. -/
theorem mem_allBays (b : Bay) : b ∈ allBays := by revert b; decide

end Sys2Proof.Machine
end

