-- ==== Sys2Proof/Laws/Ops.lean ====
section
/-! SUPPORT. What the shared operations can do: the Bay Record and Notice Queue operations written out, the flag and the alert line
at the end of an event, and the end of an event on a part at rest. -/

namespace Sys2Proof.Machine

set_option Elab.async false

/-! ### Bay Records and notices -/

/-- `setReservation` written out (R7, R60). -/
theorem setReservation_eq (b : Bay) (res : Nat) (s : State) :
    setReservation b res s =
      { s with
        bays := s.bays.set b { s.bay b with reservation := res }
        adm := { s.adm with committed := s.adm.committed + res - (s.bay b).reservation } } := rfl

/-- `putState` written out (R7). -/
theorem putState_eq (b : Bay) (st : BayState) (s : State) :
    putState b st s =
      { s with
        bays := s.bays.set b { s.bay b with state := st, reservation := (s.profileOf b).reservation st }
        adm := { s.adm with
          committed := s.adm.committed + (s.profileOf b).reservation st - (s.bay b).reservation } } := by
  simp [putState, setReservation_eq, State.updBay, State.bay]

/-- `postNotice` written out (R179). -/
theorem postNotice_eq (n : Notice) (s : State) : postNotice n s = { s with notices := s.notices.hand n } := rfl

/-- A handed notice leaves the routing table (R181). -/
@[simp] theorem hand_routing (q : NoticeQueue) (n : Notice) : (q.hand n).routing = q.routing := by
  unfold NoticeQueue.hand
  repeat' split
  all_goals rfl

/-- A handed notice lengthens the queue by at most one, and not past 32 (R179). -/
theorem hand_length (q : NoticeQueue) (n : Notice) :
    (q.hand n).queue.length = q.queue.length ∨ q.queue.length < 32 ∧ (q.hand n).queue.length = q.queue.length + 1 := by
  unfold NoticeQueue.hand
  split
  · exact .inl rfl
  · split
    · exact .inl (by simp)
    · split
      · exact .inr ⟨by assumption, by simp⟩
      · exact .inl rfl

/-- Once set, the dropped flag stays set by a handing (R179, R180). -/
theorem hand_dropped (q : NoticeQueue) (n : Notice) (h : q.dropped = true) : (q.hand n).dropped = true := by
  unfold NoticeQueue.hand
  repeat' split
  all_goals simp [h]

/-- Having the same kind and subject is symmetric (R178). -/
theorem sameSubject_comm (m n : Notice) : m.sameSubject n = n.sameSubject m := by
  cases m <;> cases n <;> simp [Notice.sameSubject, eq_comm]

/-- `placeReply` written out (R147). -/
theorem placeReply_eq (r : Reply) (s : State) :
    placeReply r s = { s with link := { s.link with replies := s.link.replies ++ [r] } } := rfl

/-- `captureFault` keeps a Locked record but for its count (R174). -/
theorem captureFault_locked (x : Subject) (c : Cause) (n : Nat) (w : Work) (s : State) (f : FirstFault) (h : s.ffr = some f) :
    captureFault x c n w s = { s with ffr := some { f with later := satSucc f.later 255 } } := by
  simp [captureFault, h]

/-- `captureFault` fills an Empty record (R174). -/
theorem captureFault_empty (x : Subject) (c : Cause) (n : Nat) (w : Work) (s : State) (h : s.ffr = none) :
    captureFault x c n w s =
      { s with ffr := some { subject := x, cause := c, secondary := n, work := w, time := s.now, later := 0 } } := by
  simp [captureFault, h]

/-- A saturating count never falls. -/
theorem le_satSucc (n top : Nat) : n ≤ satSucc n top := by
  unfold satSucc; split <;> omega

/-! ### Levels -/

/-- The greater of two levels as numbers. -/
@[simp] theorem maxLevel_val (a b : Level) : (maxLevel a b).val = max a.val b.val := by
  unfold maxLevel; split <;> omega

/-- The smaller of two levels as numbers. -/
@[simp] theorem minLevel_val (a b : Level) : (minLevel a b).val = min a.val b.val := by
  unfold minLevel; split <;> omega

/-- A term of a level as a number (R103). -/
@[simp] theorem levelTerm_val (c : Bool) (e : Level) : (levelTerm c e).val = if c then e.val else 0 := by
  cases c <;> simp [levelTerm]

/-! ### The budget -/

/-- An evaluation by its two cases (R72). -/
theorem evaluateBudget_cases (s : State) :
    (s.FlagFollows ∧ evaluateBudget s = s)
      ∨ (¬ s.FlagFollows ∧ evaluateBudget s =
          postNotice (.budget (decide (s.adm.effLimit < s.adm.committed)) s.adm.committed s.adm.effLimit s.now)
            (s.updAdm fun a => { a with overBudget := decide (s.adm.effLimit < s.adm.committed) })) := by
  by_cases h : s.adm.overBudget = decide (s.adm.effLimit < s.adm.committed)
  · exact .inl ⟨h, if_pos h.symm⟩
  · exact .inr ⟨h, if_neg (fun e => h e.symm)⟩

/-- An evaluation leaves the flag right (R72). -/
theorem evaluateBudget_flag (s : State) : (evaluateBudget s).FlagFollows := by
  obtain ⟨h, e⟩ | ⟨_, e⟩ := evaluateBudget_cases s
  · rw [e]; exact h
  · rw [e]; rfl

/-- An evaluation that finds the flag right does nothing (R72). -/
theorem evaluateBudget_of_flag (s : State) (h : s.FlagFollows) : evaluateBudget s = s := by
  obtain ⟨_, e⟩ | ⟨n, _⟩ := evaluateBudget_cases s
  · exact e
  · exact absurd h n

/-- An evaluation moves neither the committed current nor the Admission Queue. -/
theorem evaluateBudget_adm (s : State) :
    (evaluateBudget s).adm = { s.adm with overBudget := decide (s.adm.effLimit < s.adm.committed) } := by
  obtain ⟨h, e⟩ | ⟨_, e⟩ := evaluateBudget_cases s
  · rw [e, ← show s.adm.overBudget = decide (s.adm.effLimit < s.adm.committed) from h]
  · rw [e]; rfl

/-- An examination of an empty Admission Queue does nothing (R67). -/
theorem examine_nil (s : State) (h : s.adm.queue = []) : examine s = s := by
  simp [examine, h, examineLoop]

/-- The budget work of an event that moved neither the committed current nor the queue nor a class, with the flag right, is none. -/
theorem settleBudget_still (s0 s : State) (hf : s.FlagFollows) (hc : s.adm.committed = s0.adm.committed)
    (hq : s.adm.queue = s0.adm.queue) (hk : s.bays.map (·.cls) = s0.bays.map (·.cls)) : settleBudget s0 s = s := by
  simp [settleBudget, evaluateBudget_of_flag s hf, hc, hq, hk]

/-- The budget work of an event that leaves the Admission Queue empty is an evaluation. -/
theorem settleBudget_of_empty (s0 s : State) (hq : s.adm.queue = []) : settleBudget s0 s = evaluateBudget s := by
  have h : (evaluateBudget s).adm.queue = [] := by rw [evaluateBudget_adm]; exact hq
  unfold settleBudget
  simp only [examine_nil _ h, ite_self]

/-! ### The end of an event -/

/-- The alert line is right at the end of every event (R182). -/
theorem close_line (s : State) : (close s).LineFollows := rfl

/-- The end of an event touches the port, the notice queue and the alert line alone (R148, R182). -/
theorem close_touches (s : State) :
    close s = { s with link := (close s).link, notices := { s.notices with queue := (close s).notices.queue },
                       alertLine := (close s).alertLine } := by
  unfold close driveAlertLine transmit
  repeat' split
  all_goals rfl

/-- With replies waiting, the end of an event gives the oldest one to a free transmitter and leaves the notices (R148). -/
theorem close_placeReply (r : Reply) (s : State) : close (placeReply r s) = driveAlertLine { s with link := s.link.given [r] } := by
  unfold close transmit UpstreamPort.given placeReply
  rcases h : s.link.tx with _ | f
  · rcases hr : s.link.replies with _ | ⟨x, xs⟩ <;> simp [State.updLink, h, hr]
  · simp [State.updLink, h]

/-- An arrival answered at once leaves the state `answered`. -/
theorem close_placeReply_heard (r : Reply) (s : State) : close (placeReply r s.heard) = s.answered r := by
  rw [close_placeReply]; rfl

/-- No waiting place is released where none is occupied (R136). -/
theorem releaseWaiting_none (b : Bay) (s : State) (h : (s.bay b).waiting = []) : releaseWaiting b s = s := by
  simp [releaseWaiting, h]

/-- The same over a list of bays. -/
theorem foldl_releaseWaiting_none (s : State) (h : ∀ b, (s.bay b).waiting = []) (l : List Bay) :
    l.foldl (fun s b => releaseWaiting b s) s = s := by
  induction l with
  | nil => rfl
  | cons b l ih => simp [releaseWaiting_none b s (h b), ih]

/-- The controller takes nothing while it may not (R128). -/
theorem takeLoop_busy (n : Nat) (s : State) (h : s.mayTake = false) : takeLoop n s = s := by
  cases n <;> simp [takeLoop, h]

/-- The controller takes nothing from empty queues (R128). -/
theorem takeLoop_empty (n : Nat) (s : State) (hu : s.bus.urgent = []) (hn : s.bus.normal = []) : takeLoop n s = s := by
  cases n with
  | zero => rfl
  | succ n => simp [takeLoop, State.choose, hu, hn, takeFirst]

/-- Nothing moves on the bus where nothing stands (R128, R136). -/
theorem busChoice_unengaged (s : State) (h : s.Unengaged) : busChoice s = s := by
  unfold busChoice
  simp only [foldl_releaseWaiting_none s h.waiting]
  exact takeLoop_empty _ _ h.urgent h.normal

/-- The choice is none while the bus is taken and no waiting place is occupied (R128, R136). -/
theorem busChoice_busy (s : State) (h : s.mayTake = false) (hw : ∀ b, (s.bay b).waiting = []) : busChoice s = s := by
  unfold busChoice
  simp only [foldl_releaseWaiting_none s hw]
  exact takeLoop_busy _ _ h

/-- No survey completes where none runs (R25). -/
theorem completeSurvey_off (s : State) (h : s.survey.running = false) : completeSurvey s = s := by
  simp [completeSurvey, h]

/-- On a part where nothing stands, the flag is right and no survey runs, an event ends at its arbiter and its alert line. -/
theorem conclude_unengaged (s0 s : State) (h : s.Unengaged) (hs : s.survey.running = false) : conclude s0 s = close s := by
  unfold conclude
  rw [completeSurvey_off s hs, busChoice_unengaged s h, settleBudget_of_empty s0 s h.admission, evaluateBudget_of_flag s h.flag,
    busChoice_unengaged s h, evaluateBudget_of_flag s h.flag]

/-- The over-budget flag is right at the end of every event, whatever happened in it (R72). -/
theorem conclude_flag (s0 s : State) : (conclude s0 s).FlagFollows := by
  have h (t : State) : (close t).adm = t.adm := (congrArg State.adm (close_touches t) :)
  unfold State.FlagFollows conclude
  rw [h]
  exact evaluateBudget_flag _

/-! ### Arrivals -/

/-- The state a request is served in keeps what it says of a part where nothing stands. -/
theorem heard_unengaged (s : State) (h : s.Unengaged) : s.heard.Unengaged :=
  ⟨h.urgent, h.normal, h.waiting, h.admission, h.flag⟩

/-- A frame that is an arrival is served (R145, R146, R156). -/
theorem arrive_heard (kind : Option FrameKind) (h : Header) (p : List Byte) (s : State) (hl : p.length ≤ 64)
    (hr : s.link.resetPending = false) (hp : s.placeFree = true) : arrive kind h p s = acceptFrameAt kind h p s.heard := by
  have h1 : ¬ Config.maxPayload < p.length := by simp [Config.maxPayload]; omega
  have h2 : (hunt s).link.resetPending = false := hr
  have h3 : (hunt s).placeFree = true := hp
  simp [arrive, h1, passedFrame, h2, h3, State.heard]

end Sys2Proof.Machine
end

