-- ==== Sys2Proof/Laws/Frames.lean ====
section
/-! SUPPORT. What the work of an event can touch: the bays (never their class or zone), the Admission Unit (never its tables and
settings), the bus, the port, the group records, the notices (never their routing), the survey, the First Fault Record and the alert
line. One lemma per operation. -/

namespace Sys2Proof.Machine

set_option Elab.async false

/-- From `s` to `t` only those changed. -/
structure WorkFrame (s t : State) : Prop where
  now : t.now = s.now
  pending : t.pending = s.pending
  windows : t.windows = s.windows
  sources : t.sources = s.sources
  sensors : t.sensors = s.sensors
  thresholds : t.thresholds = s.thresholds
  latch : t.latch = s.latch
  prot : t.prot = s.prot
  timing : t.timing = s.timing
  routing : t.notices.routing = s.notices.routing
  settings : t.adm.profiles = s.adm.profiles ∧ t.adm.limit = s.adm.limit ∧ t.adm.margin = s.adm.margin
    ∧ t.adm.effLimit = s.adm.effLimit
  assignment : ∀ b, (t.bay b).cls = (s.bay b).cls ∧ (t.bay b).zone = (s.bay b).zone

theorem WorkFrame.refl (s : State) : WorkFrame s s :=
  ⟨rfl, rfl, rfl, rfl, rfl, rfl, rfl, rfl, rfl, rfl, ⟨rfl, rfl, rfl, rfl⟩, fun _ => ⟨rfl, rfl⟩⟩

theorem WorkFrame.trans {s t u : State} (h : WorkFrame s t) (k : WorkFrame t u) : WorkFrame s u :=
  ⟨k.now.trans h.now, k.pending.trans h.pending, k.windows.trans h.windows, k.sources.trans h.sources, k.sensors.trans h.sensors,
   k.thresholds.trans h.thresholds, k.latch.trans h.latch, k.prot.trans h.prot, k.timing.trans h.timing,
   k.routing.trans h.routing,
   ⟨k.settings.1.trans h.settings.1, k.settings.2.1.trans h.settings.2.1, k.settings.2.2.1.trans h.settings.2.2.1,
    k.settings.2.2.2.trans h.settings.2.2.2⟩,
   fun b => ⟨(k.assignment b).1.trans (h.assignment b).1, (k.assignment b).2.trans (h.assignment b).2⟩⟩

/-- A bay changed in fields other than its class and zone. -/
theorem WorkFrame.trans_updBay {s t : State} {b : Bay} {f : BayRecord → BayRecord} (h : WorkFrame s t)
    (hc : ∀ r, (f r).cls = r.cls := by intro r; rfl) (hz : ∀ r, (f r).zone = r.zone := by intro r; rfl) :
    WorkFrame s (t.updBay b f) :=
  h.trans ⟨rfl, rfl, rfl, rfl, rfl, rfl, rfl, rfl, rfl, rfl, ⟨rfl, rfl, rfl, rfl⟩, fun c => by
    rw [updBay_bay]
    split
    · rename_i e; subst e; exact ⟨hc _, hz _⟩
    · exact ⟨rfl, rfl⟩⟩

/-- The Admission Unit changed in fields other than its tables and settings. -/
theorem WorkFrame.trans_updAdm {s t : State} {f : Admission → Admission} (h : WorkFrame s t)
    (hp : ∀ a, (f a).profiles = a.profiles ∧ (f a).limit = a.limit ∧ (f a).margin = a.margin ∧ (f a).effLimit = a.effLimit := by
      intro a; exact ⟨rfl, rfl, rfl, rfl⟩) : WorkFrame s (t.updAdm f) :=
  h.trans ⟨rfl, rfl, rfl, rfl, rfl, rfl, rfl, rfl, rfl, rfl, hp _, fun _ => ⟨rfl, rfl⟩⟩

theorem updBus_work (s : State) (f : BusController → BusController) : WorkFrame s (s.updBus f) :=
  ⟨rfl, rfl, rfl, rfl, rfl, rfl, rfl, rfl, rfl, rfl, ⟨rfl, rfl, rfl, rfl⟩, fun _ => ⟨rfl, rfl⟩⟩

theorem WorkFrame.trans_updBus {s t : State} {f : BusController → BusController} (h : WorkFrame s t) : WorkFrame s (t.updBus f) :=
  h.trans (updBus_work t f)

theorem WorkFrame.trans_updLink {s t : State} {f : UpstreamPort → UpstreamPort} (h : WorkFrame s t) : WorkFrame s (t.updLink f) :=
  h.trans ⟨rfl, rfl, rfl, rfl, rfl, rfl, rfl, rfl, rfl, rfl, ⟨rfl, rfl, rfl, rfl⟩, fun _ => ⟨rfl, rfl⟩⟩

/-- The notices changed but for their routing. -/
theorem WorkFrame.trans_queue {s t : State} {f : NoticeQueue → NoticeQueue} (h : WorkFrame s t)
    (hr : ∀ q, (f q).routing = q.routing := by intro q; rfl) : WorkFrame s (t.updNotices f) :=
  h.trans ⟨rfl, rfl, rfl, rfl, rfl, rfl, rfl, rfl, rfl, hr _, ⟨rfl, rfl, rfl, rfl⟩, fun _ => ⟨rfl, rfl⟩⟩

theorem ffr_work (s : State) (x : Option FirstFault) : WorkFrame s { s with ffr := x } :=
  ⟨rfl, rfl, rfl, rfl, rfl, rfl, rfl, rfl, rfl, rfl, ⟨rfl, rfl, rfl, rfl⟩, fun _ => ⟨rfl, rfl⟩⟩

theorem groups_work (s : State) (x : Vector (Option GroupRecord) 8) : WorkFrame s { s with groups := x } :=
  ⟨rfl, rfl, rfl, rfl, rfl, rfl, rfl, rfl, rfl, rfl, ⟨rfl, rfl, rfl, rfl⟩, fun _ => ⟨rfl, rfl⟩⟩

theorem survey_work (s : State) (x : Survey) : WorkFrame s { s with survey := x } :=
  ⟨rfl, rfl, rfl, rfl, rfl, rfl, rfl, rfl, rfl, rfl, ⟨rfl, rfl, rfl, rfl⟩, fun _ => ⟨rfl, rfl⟩⟩

theorem line_work (s : State) (x : Bool) : WorkFrame s { s with alertLine := x } :=
  ⟨rfl, rfl, rfl, rfl, rfl, rfl, rfl, rfl, rfl, rfl, ⟨rfl, rfl, rfl, rfl⟩, fun _ => ⟨rfl, rfl⟩⟩

/-- A pass over a list keeps the frame when each visit does. -/
theorem WorkFrame.foldl {α : Type} {l : List α} {f : State → α → State} {s t : State} (hf : ∀ x a, WorkFrame x (f x a))
    (h : WorkFrame s t) : WorkFrame s (l.foldl f t) := by
  induction l generalizing t with
  | nil => exact h
  | cons a l ih => exact ih (h.trans (hf t a))

/-! ### Ops -/

theorem setReservation_work (b : Bay) (res : Nat) (s : State) : WorkFrame s (setReservation b res s) := by
  unfold setReservation
  exact .trans_updBay (.trans_updAdm (.refl _))

theorem putState_work (b : Bay) (st : BayState) (s : State) : WorkFrame s (putState b st s) := by
  unfold putState
  repeat' (first
    | with_reducible exact .refl _
    | with_reducible refine WorkFrame.trans ?_ (setReservation_work _ _ _)
    | with_reducible refine WorkFrame.trans_updBay ?_)

theorem postNotice_work (n : Notice) (s : State) : WorkFrame s (postNotice n s) :=
  ⟨rfl, rfl, rfl, rfl, rfl, rfl, rfl, rfl, rfl, hand_routing _ _, ⟨rfl, rfl, rfl, rfl⟩, fun _ => ⟨rfl, rfl⟩⟩

theorem postBay_work (b : Bay) (s : State) : WorkFrame s (postBay b s) := by
  unfold postBay
  exact WorkFrame.trans (.refl _) (postNotice_work _ _)

theorem changeState_work (b : Bay) (st : BayState) (s : State) : WorkFrame s (changeState b st s) := by
  unfold changeState
  repeat' (first
    | with_reducible exact .refl _
    | with_reducible refine WorkFrame.trans ?_ (putState_work _ _ _)
    | with_reducible refine WorkFrame.trans ?_ (postBay_work _ _)
    | split)

theorem placeReply_work (r : Reply) (s : State) : WorkFrame s (placeReply r s) := by
  unfold placeReply
  exact WorkFrame.trans_updLink (.refl _)

theorem recordMember_work (g : Fin 8) (b : Bay) (c : Completion) (s : State) : WorkFrame s (recordMember g b c s) := by
  unfold recordMember
  split
  · exact .refl _
  · dsimp only
    split
    · exact (groups_work s _).trans (placeReply_work _ _)
    · exact groups_work s _

theorem deliver_work (b : Bay) (r : Request) (c : Completion) (payload : List Byte) (s : State) : WorkFrame s (deliver b r c payload s) := by
  unfold deliver
  repeat' (first
    | with_reducible exact .refl _
    | with_reducible refine WorkFrame.trans ?_ (placeReply_work _ _)
    | with_reducible refine WorkFrame.trans ?_ (recordMember_work _ _ _ _)
    | split)

theorem captureFault_work (x : Subject) (c : Cause) (n : Nat) (w : Work) (s : State) : WorkFrame s (captureFault x c n w s) :=
  ffr_work s _

theorem updHead_work (b : Bay) (f : Request → Request) (s : State) : WorkFrame s (updHead b f s) := by
  unfold updHead
  repeat' (first
    | with_reducible exact .refl _
    | with_reducible refine WorkFrame.trans_updBay ?_)

theorem setPhase_work (b : Bay) (p : Phase) (s : State) : WorkFrame s (setPhase b p s) := by
  unfold setPhase
  exact WorkFrame.trans (.refl _) (updHead_work _ _ _)

theorem setSlot_work (b : Bay) (op : Option ProtOp) (s : State) : WorkFrame s (setSlot b op s) := by
  unfold setSlot
  exact WorkFrame.trans_updBay (.refl _)

theorem setDeadline_work (b : Bay) (d : Option OpDeadline) (s : State) : WorkFrame s (setDeadline b d s) := by
  unfold setDeadline
  exact WorkFrame.trans_updBay (.refl _)

/-! ### Flags -/

theorem evaluateBudget_work (s : State) : WorkFrame s (evaluateBudget s) := by
  unfold evaluateBudget
  dsimp only
  repeat' (first
    | with_reducible exact .refl _
    | with_reducible refine WorkFrame.trans ?_ (postNotice_work _ _)
    | with_reducible refine WorkFrame.trans_updAdm ?_
    | split)

theorem driveAlertLine_work (s : State) : WorkFrame s (driveAlertLine s) := line_work s _

/-! ### Exchanges -/

theorem enqueue_work (x : Exchange) (s : State) : WorkFrame s (enqueue x s) := by
  unfold enqueue
  repeat' (first
    | with_reducible exact .refl _
    | with_reducible refine WorkFrame.trans_updBus ?_)

theorem updWaiting_work (b : Bay) (f : List Exchange → List Exchange) (s : State) : WorkFrame s (updWaiting b f s) := by
  unfold updWaiting
  exact WorkFrame.trans_updBay (.refl _)

theorem placeFor_work (b : Bay) (x : Exchange) (s : State) : WorkFrame s (placeFor b x s) := by
  unfold placeFor
  repeat' (first
    | with_reducible exact .refl _
    | with_reducible refine WorkFrame.trans ?_ (enqueue_work _ _)
    | with_reducible refine WorkFrame.trans ?_ (updWaiting_work _ _ _)
    | split)

theorem releaseWaiting_work (b : Bay) (s : State) : WorkFrame s (releaseWaiting b s) := by
  unfold releaseWaiting
  repeat' (first
    | with_reducible exact .refl _
    | with_reducible refine WorkFrame.trans ?_ (enqueue_work _ _)
    | with_reducible refine WorkFrame.trans ?_ (updWaiting_work _ _ _)
    | split)

theorem takeOut_work (b : Bay) (p : Exchange → Bool) (s : State) : WorkFrame s (takeOut b p s) := by
  unfold takeOut
  dsimp only
  repeat' (first
    | with_reducible exact .refl _
    | with_reducible refine WorkFrame.trans ?_ (releaseWaiting_work _ _)
    | with_reducible refine WorkFrame.trans_updBay ?_
    | with_reducible refine WorkFrame.trans_updBus ?_)

theorem leaveBaySet_work (b : Bay) (s : State) : WorkFrame s (leaveBaySet b s) := by
  unfold leaveBaySet
  repeat' (first
    | with_reducible exact .refl _
    | with_reducible refine WorkFrame.trans ?_ (releaseWaiting_work _ _)
    | with_reducible refine WorkFrame.trans_updBus ?_)

theorem updCurrent_work (f : Current → Current) (s : State) : WorkFrame s (updCurrent f s) := by
  unfold updCurrent
  exact WorkFrame.trans_updBus (.refl _)

theorem countBay_work (b : Bay) (s : State) : WorkFrame s (countBay b s) := by
  unfold countBay
  exact WorkFrame.trans_updBay (.refl _)

theorem endCurrent_work (s : State) : WorkFrame s (endCurrent s) := by
  unfold endCurrent
  dsimp only
  repeat' (first
    | with_reducible exact .refl _
    | with_reducible refine WorkFrame.trans ?_ (releaseWaiting_work _ _)
    | with_reducible refine WorkFrame.trans_updBus ?_
    | split)

theorem disregard_work (b : Bay) (p : Exchange → Bool) (s : State) : WorkFrame s (disregard b p s) := by
  unfold disregard
  dsimp only
  repeat' (first
    | with_reducible exact .refl _
    | with_reducible refine WorkFrame.trans ?_ (updCurrent_work _ _)
    | with_reducible refine WorkFrame.trans ?_ (countBay_work _ _)
    | with_reducible refine WorkFrame.trans ?_ (endCurrent_work _)
    | split)

theorem undoAdmission_work (b : Bay) (x : Exchange) (s : State) : WorkFrame s (undoAdmission b x s) := by
  unfold undoAdmission
  dsimp only
  repeat' (first
    | with_reducible exact .refl _
    | with_reducible refine WorkFrame.trans ?_ (changeState_work _ _ _)
    | with_reducible refine WorkFrame.trans ?_ (disregard_work _ _ _)
    | split)

theorem withdrawHead_work (b : Bay) (s : State) : WorkFrame s (withdrawHead b s) := by
  unfold withdrawHead
  repeat' (first
    | with_reducible exact .refl _
    | with_reducible refine WorkFrame.trans ?_ (takeOut_work _ _ _)
    | with_reducible refine WorkFrame.trans ?_ (undoAdmission_work _ _ _)
    | split)

theorem leaveAdmission_work (b : Bay) (s : State) : WorkFrame s (leaveAdmission b s) := by
  unfold leaveAdmission
  exact WorkFrame.trans_updAdm (.refl _)

/-! ### Heads -/

theorem becomeHead_work (b : Bay) (s : State) : WorkFrame s (becomeHead b s) := by
  unfold becomeHead
  exact WorkFrame.trans (.refl _) (updHead_work _ _ _)

theorem returnToChecking_work (b : Bay) (s : State) : WorkFrame s (returnToChecking b s) := by
  unfold returnToChecking
  exact WorkFrame.trans (.refl _) (becomeHead_work _ _)

theorem restoreCheck_work (b : Bay) (s : State) : WorkFrame s (restoreCheck b s) := by
  unfold restoreCheck
  repeat' (first
    | with_reducible exact .refl _
    | with_reducible refine WorkFrame.trans ?_ (becomeHead_work _ _)
    | with_reducible refine WorkFrame.trans_updBay ?_
    | split)

theorem popHead_work (b : Bay) (c : Completion) (payload : List Byte) (s : State) : WorkFrame s (popHead b c payload s) := by
  unfold popHead
  repeat' (first
    | with_reducible exact .refl _
    | with_reducible refine WorkFrame.trans ?_ (deliver_work _ _ _ _ _)
    | with_reducible refine WorkFrame.trans ?_ (becomeHead_work _ _)
    | with_reducible refine WorkFrame.trans ?_ (restoreCheck_work _ _)
    | with_reducible refine WorkFrame.trans_updBay ?_
    | split)

theorem permissionCheck_work (b : Bay) (k : AdmKind) (s : State) : WorkFrame s (permissionCheck b k s) := by
  unfold permissionCheck
  repeat' (first
    | with_reducible exact .refl _
    | with_reducible refine WorkFrame.trans ?_ (setPhase_work _ _ _)
    | with_reducible refine WorkFrame.trans_updAdm ?_
    | split)

theorem issueHead_work (b : Bay) (k : ExKind) (payload : List Byte) (s : State) : WorkFrame s (issueHead b k payload s) := by
  unfold issueHead
  repeat' (first
    | with_reducible exact .refl _
    | with_reducible refine WorkFrame.trans ?_ (setPhase_work _ _ _)
    | with_reducible refine WorkFrame.trans ?_ (placeFor_work _ _ _))

theorem checkHeads_work (fuel : Nat) (b : Bay) (s : State) : WorkFrame s (checkHeads fuel b s) := by
  induction fuel generalizing s with
  | zero => exact .refl _
  | succ fuel ih =>
    unfold checkHeads
    repeat' (first
      | with_reducible exact .refl _
      | with_reducible exact permissionCheck_work _ _ _
      | with_reducible exact issueHead_work _ _ _ _
      | exact (popHead_work _ _ _ _).trans (ih _)
      | split)

theorem checkHead_work (b : Bay) (s : State) : WorkFrame s (checkHead b s) := by
  unfold checkHead
  exact WorkFrame.trans (.refl _) (checkHeads_work _ _ _)

theorem completeHead_work (b : Bay) (c : Completion) (payload : List Byte) (s : State) : WorkFrame s (completeHead b c payload s) := by
  unfold completeHead
  repeat' (first
    | with_reducible exact .refl _
    | with_reducible refine WorkFrame.trans ?_ (popHead_work _ _ _ _)
    | with_reducible refine WorkFrame.trans ?_ (checkHead_work _ _))

theorem applyOutcome_work (b : Bay) (r : Request) (o : HeadOutcome) (s : State) : WorkFrame s (applyOutcome b r o s) := by
  unfold applyOutcome
  split
  · exact setPhase_work _ _ _
  · split
    · exact setPhase_work _ _ _
    · exact permissionCheck_work _ _ _
  · exact issueHead_work _ _ _ _
  · exact completeHead_work _ _ _ _

theorem recheckDeferred_work (b : Bay) (s : State) : WorkFrame s (recheckDeferred b s) := by
  unfold recheckDeferred
  repeat' (first
    | with_reducible exact .refl _
    | with_reducible refine WorkFrame.trans ?_ (applyOutcome_work _ _ _ _)
    | split)

theorem restoreNow_work (b : Bay) (s : State) : WorkFrame s (restoreNow b s) := by
  unfold restoreNow
  repeat' (first
    | with_reducible exact .refl _
    | with_reducible refine WorkFrame.trans ?_ (restoreCheck_work _ _)
    | with_reducible refine WorkFrame.trans ?_ (checkHead_work _ _)
    | split)

theorem recheckHead_work (b : Bay) (s : State) : WorkFrame s (recheckHead b s) := by
  unfold recheckHead
  dsimp only
  repeat' (first
    | with_reducible exact .refl _
    | with_reducible refine WorkFrame.trans ?_ (leaveAdmission_work _ _)
    | with_reducible refine WorkFrame.trans ?_ (checkHead_work _ _)
    | with_reducible refine WorkFrame.trans ?_ (applyOutcome_work _ _ _ _)
    | with_reducible refine WorkFrame.trans ?_ (recheckDeferred_work _ _)
    | split)

theorem appendRequest_work (b : Bay) (r : Request) (s : State) : WorkFrame s (appendRequest b r s) := by
  unfold appendRequest
  dsimp only
  repeat' (first
    | with_reducible exact .refl _
    | with_reducible refine WorkFrame.trans ?_ (becomeHead_work _ _)
    | with_reducible refine WorkFrame.trans ?_ (checkHead_work _ _)
    | with_reducible refine WorkFrame.trans_updBay ?_
    | split)

/-! ### Admission -/

theorem startStagger_work (s : State) : WorkFrame s (startStagger s) := by
  unfold startStagger
  repeat' (first
    | with_reducible exact .refl _
    | with_reducible refine WorkFrame.trans_updAdm ?_)

theorem grant_work (e : AdmEntry) (s : State) : WorkFrame s (grant e s) := by
  unfold grant
  dsimp only
  repeat' (first
    | with_reducible exact .refl _
    | with_reducible refine WorkFrame.trans ?_ (changeState_work _ _ _)
    | with_reducible refine WorkFrame.trans ?_ (setPhase_work _ _ _)
    | with_reducible refine WorkFrame.trans ?_ (evaluateBudget_work _)
    | with_reducible refine WorkFrame.trans ?_ (placeFor_work _ _ _)
    | with_reducible refine WorkFrame.trans ?_ (startStagger_work _)
    | with_reducible refine WorkFrame.trans_updAdm ?_
    | split)

theorem examineLoop_work (fuel : Nat) (s : State) : WorkFrame s (examineLoop fuel s) := by
  induction fuel generalizing s with
  | zero => exact .refl _
  | succ fuel ih =>
    unfold examineLoop
    repeat' (first
      | with_reducible exact .refl _
      | exact (grant_work _ _).trans (ih _)
      | split)

theorem examine_work (s : State) : WorkFrame s (examine s) := by
  unfold examine
  exact WorkFrame.trans (.refl _) (examineLoop_work _ _)

theorem settleBudget_work (s0 s : State) : WorkFrame s (settleBudget s0 s) := by
  unfold settleBudget
  dsimp only
  repeat' (first
    | with_reducible exact .refl _
    | with_reducible refine WorkFrame.trans ?_ (evaluateBudget_work _)
    | with_reducible refine WorkFrame.trans ?_ (examine_work _)
    | split)

theorem settleForced_work (s : State) : WorkFrame s (settleForced s) := by
  unfold settleForced
  repeat' (first
    | with_reducible exact .refl _
    | with_reducible refine WorkFrame.trans ?_ (evaluateBudget_work _)
    | with_reducible refine WorkFrame.trans ?_ (examine_work _))

/-! ### Protection -/

theorem endCutShortOwner_work (x : Exchange) (s : State) : WorkFrame s (endCutShortOwner x s) := by
  unfold endCutShortOwner
  repeat' (first
    | with_reducible exact .refl _
    | with_reducible refine WorkFrame.trans ?_ (countBay_work _ _)
    | with_reducible refine WorkFrame.trans ?_ (completeHead_work _ _ _ _)
    | split)

theorem cutShortCurrent_work (s : State) : WorkFrame s (cutShortCurrent s) := by
  unfold cutShortCurrent
  repeat' (first
    | with_reducible exact .refl _
    | with_reducible refine WorkFrame.trans ?_ (updCurrent_work _ _)
    | with_reducible refine WorkFrame.trans ?_ (endCurrent_work _)
    | with_reducible refine WorkFrame.trans ?_ (endCutShortOwner_work _ _)
    | split)

theorem replaceCurrent_work (b : Bay) (k : ExKind) (s : State) : WorkFrame s (replaceCurrent b k s) := by
  unfold replaceCurrent
  repeat' (first
    | with_reducible exact .refl _
    | with_reducible refine WorkFrame.trans ?_ (updCurrent_work _ _)
    | with_reducible refine WorkFrame.trans ?_ (endCurrent_work _)
    | split)

theorem yieldQuery_work (b : Bay) (s : State) : WorkFrame s (yieldQuery b s) := by
  unfold yieldQuery
  dsimp only
  exact WorkFrame.trans (WorkFrame.trans_updBus (.refl _)) (updWaiting_work _ _ _)

theorem placeUrgent_work (b : Bay) (k : ExKind) (s : State) : WorkFrame s (placeUrgent b k s) := by
  unfold placeUrgent
  have h : WorkFrame s (yieldQuery b s) := yieldQuery_work _ _
  dsimp only
  split
  · exact h.trans (updWaiting_work _ _ _)
  · split
    · exact h.trans (enqueue_work _ _)
    · split
      · exact h.trans (enqueue_work _ _)
      · exact h.trans ((updWaiting_work _ _ _).trans (cutShortCurrent_work _))

theorem dropProtective_work (b : Bay) (s : State) : WorkFrame s (dropProtective b s) := by
  exact (takeOut_work _ _ _).trans (leaveBaySet_work _ _)

theorem endProtective_work (b : Bay) (goalMet : Bool) (s : State) : WorkFrame s (endProtective b goalMet s) := by
  unfold endProtective
  dsimp only
  repeat' (first
    | with_reducible exact .refl _
    | with_reducible refine WorkFrame.trans ?_ (setSlot_work _ _ _)
    | with_reducible refine WorkFrame.trans ?_ (restoreCheck_work _ _)
    | with_reducible refine WorkFrame.trans ?_ (checkHead_work _ _)
    | with_reducible refine WorkFrame.trans ?_ (disregard_work _ _ _)
    | with_reducible refine WorkFrame.trans ?_ (dropProtective_work _ _)
    | with_reducible refine WorkFrame.trans_updBay ?_
    | split)

theorem preemptHead_work (b : Bay) (op : ProtOp) (s : State) : WorkFrame s (preemptHead b op s) := by
  unfold preemptHead
  repeat' (first
    | with_reducible exact .refl _
    | with_reducible refine WorkFrame.trans ?_ (setPhase_work _ _ _)
    | with_reducible refine WorkFrame.trans ?_ (withdrawHead_work _ _)
    | with_reducible refine WorkFrame.trans ?_ (leaveAdmission_work _ _)
    | with_reducible refine WorkFrame.trans ?_ (completeHead_work _ _ _ _)
    | split)

theorem settleOperation_work (b : Bay) (s : State) : WorkFrame s (settleOperation b s) := by
  unfold settleOperation
  dsimp only
  repeat' (first
    | with_reducible exact .refl _
    | with_reducible refine WorkFrame.trans ?_ (setSlot_work _ _ _)
    | with_reducible refine WorkFrame.trans ?_ (replaceCurrent_work _ _ _)
    | with_reducible refine WorkFrame.trans ?_ (placeUrgent_work _ _ _)
    | with_reducible refine WorkFrame.trans ?_ (dropProtective_work _ _)
    | with_reducible refine WorkFrame.trans ?_ (endProtective_work _ _ _)
    | split)

theorem applyAction_work (b : Bay) (a : Action) (l : Level) (s : State) : WorkFrame s (applyAction b a l s) := by
  unfold applyAction
  dsimp only
  repeat' (first
    | with_reducible exact .refl _
    | with_reducible refine WorkFrame.trans ?_ (setSlot_work _ _ _)
    | with_reducible refine WorkFrame.trans ?_ (preemptHead_work _ _ _)
    | with_reducible refine WorkFrame.trans ?_ (settleOperation_work _ _)
    | split)

theorem placeGroupPark_work (bays : List Bay) (s : State) : WorkFrame s (placeGroupPark bays s) := by
  unfold placeGroupPark
  dsimp only
  repeat' (first
    | with_reducible exact .refl _
    | with_reducible refine WorkFrame.trans ?_ (takeOut_work _ _ _)
    | with_reducible refine WorkFrame.trans ?_ (yieldQuery_work _ _)
    | with_reducible refine WorkFrame.trans_updBus ?_
    | with_reducible refine WorkFrame.foldl ?_ ?_
    | intro _)

theorem placePark_work (b : Bay) (s : State) : WorkFrame s (placePark b s) := by
  unfold placePark
  repeat' (first
    | with_reducible exact .refl _
    | with_reducible refine WorkFrame.trans ?_ (placeUrgent_work _ _ _)
    | split)

theorem placeParks_work (s : State) : WorkFrame s (placeParks s) := by
  unfold placeParks
  split
  · extract_lets risk
    split
    · exact placeGroupPark_work _ _
    · exact WorkFrame.foldl (fun _ _ => placePark_work _ _) (.refl _)
  · exact .refl _

/-! ### Sweeps -/

theorem forbidAdmitting_work (b : Bay) (s : State) : WorkFrame s (forbidAdmitting b s) := by
  unfold forbidAdmitting
  repeat' (first
    | with_reducible exact .refl _
    | with_reducible refine WorkFrame.trans ?_ (setPhase_work _ _ _)
    | with_reducible refine WorkFrame.trans ?_ (leaveAdmission_work _ _)
    | split)

theorem visitSweep_work (sweeping : Bool) (b : Bay) (o : Level) (s : State) : WorkFrame s (visitSweep sweeping b o s) := by
  unfold visitSweep
  dsimp only
  repeat' (first
    | with_reducible exact .refl _
    | with_reducible refine WorkFrame.trans ?_ (applyAction_work _ _ _ _)
    | with_reducible refine WorkFrame.trans ?_ (forbidAdmitting_work _ _)
    | with_reducible refine WorkFrame.trans_updBay ?_
    | split)

theorem visitRecheck_work (b : Bay) (s : State) : WorkFrame s (visitRecheck b s) := by
  unfold visitRecheck
  repeat' (first
    | with_reducible exact .refl _
    | with_reducible refine WorkFrame.trans ?_ (recheckDeferred_work _ _)
    | with_reducible refine WorkFrame.trans ?_ (restoreNow_work _ _))

theorem carryOut_work (sweeping : Bool) (bays : List (Bay × Level)) (s : State) : WorkFrame s (carryOut sweeping bays s) := by
  unfold carryOut
  dsimp only
  repeat' (first
    | with_reducible exact .refl _
    | with_reducible refine WorkFrame.trans ?_ (examine_work _)
    | with_reducible refine WorkFrame.trans ?_ (placeParks_work _)
    | with_reducible refine WorkFrame.trans ?_ (visitSweep_work _ _ _ _)
    | with_reducible refine WorkFrame.trans ?_ (visitRecheck_work _ _)
    | with_reducible refine WorkFrame.foldl ?_ ?_
    | intro _)

theorem postLevel_work (old : ZoneLevels) (z : Zone) (s : State) : WorkFrame s (postLevel old z s) := by
  unfold postLevel
  repeat' (first
    | with_reducible exact .refl _
    | with_reducible refine WorkFrame.trans ?_ (postNotice_work _ _)
    | split)

theorem riseFromZero_work (bays : List Bay) (s : State) : WorkFrame s (riseFromZero bays s) := by
  unfold riseFromZero
  exact WorkFrame.trans (.refl _) (carryOut_work _ _ _)

/-! ### Reports -/

theorem freshDeadline_work (b : Bay) (s : State) : WorkFrame s (freshDeadline b s) := by
  unfold freshDeadline
  exact WorkFrame.trans (.refl _) (setDeadline_work _ _ _)

theorem endStanding_work (b : Bay) (s : State) : WorkFrame s (endStanding b s) := by
  unfold endStanding
  exact ((((setDeadline_work _ _ _).trans (setSlot_work _ _ _)).trans (takeOut_work _ _ _)).trans (leaveBaySet_work _ _)).trans
    (disregard_work _ _ _)

theorem endWork_work (b : Bay) (cause : Cause) (own : OwnAnswer) (s : State) : WorkFrame s (endWork b cause own s) := by
  unfold endWork
  extract_lets ended s1
  have h : WorkFrame s s1 := endStanding_work b s
  split
  · split
    · exact h.trans (completeHead_work _ _ _ _)
    · exact h.trans (completeHead_work _ _ _ _)
  · exact h.trans (recheckHead_work _ _)

theorem faultBay_work (b : Bay) (st : BayState) (cause : Cause) (secondary : Nat) (own : OwnAnswer) (s : State) : WorkFrame s (faultBay b st cause secondary own s) := by
  unfold faultBay
  extract_lets work changed s1 s2 captured s3 s4
  have h1 : WorkFrame s s1 := WorkFrame.trans_updBay (.refl _)
  have h2 : WorkFrame s s2 :=
    (h1.trans (putState_work _ _ _)).trans (endWork_work _ _ _ _)
  have h3 : WorkFrame s s3 := h2.trans (captureFault_work _ _ _ _ _)
  have h4 : WorkFrame s s4 := by
    show WorkFrame s (if changed then postBay b s3 else s3)
    split
    · exact h3.trans (postBay_work _ _)
    · exact h3
  exact h4.trans (postNotice_work _ _)

theorem driveFault_work (b : Bay) (code : Byte) (own : OwnAnswer) (s : State) : WorkFrame s (driveFault b code own s) := by
  unfold driveFault
  split
  · exact .refl _
  · exact faultBay_work _ _ _ _ _ _

theorem completeRemoved_work (b : Bay) (own : OwnAnswer) (s : State) : WorkFrame s (completeRemoved b own s) := by
  unfold completeRemoved
  dsimp only
  repeat' (first
    | with_reducible exact .refl _
    | with_reducible refine WorkFrame.trans ?_ (deliver_work _ _ _ _ _)
    | with_reducible refine WorkFrame.foldl ?_ ?_
    | intro _
    | split)

theorem surveyKnown_work (b : Bay) (s : State) : WorkFrame s (surveyKnown b s) := by
  unfold surveyKnown
  repeat' (first
    | with_reducible exact .refl _
    | with_reducible refine WorkFrame.trans_updBay ?_
    | split)

theorem removeDrive_work (b : Bay) (own : OwnAnswer) (s : State) : WorkFrame s (removeDrive b own s) := by
  unfold removeDrive
  extract_lets s1 s2 s3 s4
  have h1 : WorkFrame s s1 := completeRemoved_work _ _ _
  have h2 : WorkFrame s s2 := (WorkFrame.trans_updBay h1).trans (leaveAdmission_work _ _)
  have h3 : WorkFrame s s3 := (h2.trans (takeOut_work _ _ _)).trans (leaveBaySet_work _ _)
  have h4 : WorkFrame s s4 := (h3.trans (disregard_work _ _ _)).trans (surveyKnown_work _ _)
  exact h4.trans (changeState_work _ _ _)

theorem placeInsertionQuery_work (b : Bay) (s : State) : WorkFrame s (placeInsertionQuery b s) := by
  unfold placeInsertionQuery
  exact WorkFrame.trans (.refl _) (placeFor_work _ _ _)

theorem presenceInserted_work (b : Bay) (s : State) : WorkFrame s (presenceInserted b s) := by
  unfold presenceInserted
  repeat' (first
    | with_reducible exact .refl _
    | with_reducible refine WorkFrame.trans ?_ (changeState_work _ _ _)
    | with_reducible refine WorkFrame.trans ?_ (placeInsertionQuery_work _ _)
    | split)

theorem presenceRemoved_work (b : Bay) (s : State) : WorkFrame s (presenceRemoved b s) := by
  unfold presenceRemoved
  split
  · exact .refl _
  · exact removeDrive_work _ _ _

theorem completeServedHead_work (b : Bay) (origin : BayState) (s : State) : WorkFrame s (completeServedHead b origin s) := by
  unfold completeServedHead
  repeat' (first
    | with_reducible exact .refl _
    | with_reducible refine WorkFrame.trans ?_ (takeOut_work _ _ _)
    | with_reducible refine WorkFrame.trans ?_ (completeHead_work _ _ _ _)
    | split)

theorem startStopPhase_work (b : Bay) (op : ProtOp) (s : State) : WorkFrame s (startStopPhase b op s) := by
  unfold startStopPhase
  repeat' (first
    | with_reducible exact .refl _
    | with_reducible refine WorkFrame.trans ?_ (setSlot_work _ _ _)
    | with_reducible refine WorkFrame.trans ?_ (placeUrgent_work _ _ _)
    | with_reducible refine WorkFrame.trans ?_ (dropProtective_work _ _))

theorem completeServedOperation_work (b : Bay) (origin : BayState) (s : State) : WorkFrame s (completeServedOperation b origin s) := by
  unfold completeServedOperation
  repeat' (first
    | with_reducible exact .refl _
    | with_reducible refine WorkFrame.trans ?_ (endProtective_work _ _ _)
    | with_reducible refine WorkFrame.trans ?_ (startStopPhase_work _ _ _)
    | split)

theorem completeOperation_work (b : Bay) (st : BayState) (s : State) : WorkFrame s (completeOperation b st s) := by
  unfold completeOperation
  extract_lets origin s1 s2 s3
  have h1 : WorkFrame s s1 := (setDeadline_work _ _ _).trans (changeState_work _ _ _)
  have h3 : WorkFrame s s3 := (h1.trans (takeOut_work _ _ _)).trans (disregard_work _ _ _)
  exact ((h3.trans (completeServedHead_work _ _ _)).trans (completeServedOperation_work _ _ _)).trans (recheckHead_work _ _)

theorem reconcileHead_work (b : Bay) (s : State) : WorkFrame s (reconcileHead b s) := by
  unfold reconcileHead
  split
  · split
    · split
      · exact completeHead_work _ _ _ _
      · exact (returnToChecking_work _ _).trans (checkHead_work _ _)
    · exact recheckHead_work _ _
  · exact .refl _

theorem afterReconciliation_work (b : Bay) (s : State) : WorkFrame s (afterReconciliation b s) := by
  unfold afterReconciliation
  extract_lets s1
  have h : WorkFrame s s1 := WorkFrame.trans_updBay (.refl _)
  split
  · exact WorkFrame.trans_updBay h
  · exact h.trans (riseFromZero_work _ _)

theorem reconcile_work (b : Bay) (st : BayState) (s : State) : WorkFrame s (reconcile b st s) := by
  unfold reconcile
  split
  · exact .refl _
  · exact (((((changeState_work _ _ _).trans (freshDeadline_work _ _)).trans (disregard_work _ _ _)).trans
      (reconcileHead_work _ _)).trans (afterReconciliation_work _ _))

theorem storeReport_work (b : Bay) (rep : Report) (s : State) : WorkFrame s (storeReport b rep s) := by
  unfold storeReport
  exact WorkFrame.trans_updBay (.refl _)

theorem finishOwn_work (b : Bay) (own : OwnAnswer) (s : State) : WorkFrame s (finishOwn b own s) := by
  unfold finishOwn
  repeat' (first
    | with_reducible exact .refl _
    | with_reducible refine WorkFrame.trans ?_ (completeHead_work _ _ _ _)
    | split)

theorem takeCondition_work (b : Bay) (c : Condition) (s : State) : WorkFrame s (takeCondition b c s) := by
  unfold takeCondition
  split
  · split
    · exact completeOperation_work _ _ _
    · exact .refl _
  · exact reconcile_work _ _ _

theorem repeatedFault_work (b : Bay) (s : State) : WorkFrame s (repeatedFault b s) := by
  unfold repeatedFault
  repeat' (first
    | with_reducible exact .refl _
    | exact ((setDeadline_work _ _ _).trans (disregard_work _ _ _)).trans (completeHead_work _ _ _ _)
    | split)

theorem takeDriveCode_work (b : Bay) (code : Byte) (own : OwnAnswer) (s : State) : WorkFrame s (takeDriveCode b code own s) := by
  unfold takeDriveCode
  split
  · exact (repeatedFault_work _ _).trans (finishOwn_work _ _ _)
  · split
    · exact driveFault_work _ _ _ _
    · exact (driveFault_work _ _ _ _).trans (afterReconciliation_work _ _)

theorem takeReport_work (b : Bay) (rep : Report) (own : OwnAnswer) (s : State) : WorkFrame s (takeReport b rep own s) := by
  unfold takeReport
  extract_lets s1
  have h1 : WorkFrame s s1 := storeReport_work _ _ _
  split
  · split
    · exact h1
    · exact h1.trans (removeDrive_work _ _ _)
  · split
    · exact h1.trans (takeDriveCode_work _ _ _ _)
    · split
      · exact (h1.trans (takeCondition_work _ _ _)).trans (finishOwn_work _ _ _)
      · exact h1.trans (finishOwn_work _ _ _)

theorem surveyReport_work (b : Bay) (rep : Report) (s : State) : WorkFrame s (surveyReport b rep s) := by
  show WorkFrame s ((takeReport b rep none s).updBay b fun r => { r with surveyed := true, known := true })
  exact WorkFrame.trans_updBay (takeReport_work b rep none s)

theorem faultFrame_work (b : Bay) (code : Byte) (s : State) : WorkFrame s (faultFrame b code s) := by
  unfold faultFrame
  dsimp only
  repeat' (first
    | with_reducible exact .refl _
    | with_reducible refine WorkFrame.trans ?_ (driveFault_work _ _ _ _)
    | with_reducible refine WorkFrame.trans_updBay ?_
    | split)

theorem refusedReturn_work (b : Bay) (before : BayState) (s : State) : WorkFrame s (refusedReturn b before s) := by
  unfold refusedReturn
  split
  · exact .refl _
  · extract_lets s1
    have h : WorkFrame s s1 := changeState_work _ _ _
    split
    · exact h.trans (endStanding_work _ _)
    · exact h.trans (freshDeadline_work _ _)

theorem timeoutFault_work (b : Bay) (k : OpKind) (s : State) : WorkFrame s (timeoutFault b k s) := by
  exact faultBay_work _ _ _ _ _ _

theorem followUpFault_work (b : Bay) (s : State) : WorkFrame s (followUpFault b s) := by
  unfold followUpFault
  exact WorkFrame.trans (.refl _) (timeoutFault_work _ _ _)

theorem followUpReport_work (b : Bay) (rep : Report) (s : State) : WorkFrame s (followUpReport b rep s) := by
  unfold followUpReport
  split
  · exact (storeReport_work _ _ _).trans (followUpFault_work _ _)
  · exact takeReport_work _ _ _ _

theorem completeSurvey_work (s : State) : WorkFrame s (completeSurvey s) := by
  unfold completeSurvey
  split
  · exact (survey_work s _).trans ((postNotice_work _ _).trans (riseFromZero_work _ _))
  · exact .refl _

/-! ### Bus -/

theorem sendAttempt_work (s : State) : WorkFrame s (sendAttempt s) := by
  unfold sendAttempt
  repeat' (first
    | with_reducible exact .refl _
    | with_reducible refine WorkFrame.trans_updBus ?_)

theorem makeCurrent_work (x : Exchange) (s : State) : WorkFrame s (makeCurrent x s) := by
  unfold makeCurrent
  exact WorkFrame.trans_updBus (.refl _)

theorem clearWait_work (b : Bay) (s : State) : WorkFrame s (clearWait b s) := by
  unfold clearWait
  exact WorkFrame.trans (.refl _) (updHead_work _ _ _)

theorem markStarted_work (b : Bay) (s : State) : WorkFrame s (markStarted b s) := by
  unfold markStarted
  exact WorkFrame.trans (.refl _) (setSlot_work _ _ _)

theorem startBay_work (b : Bay) (x : Exchange) (st : BayState) (s : State) : WorkFrame s (startBay b x st s) := by
  unfold startBay
  dsimp only
  repeat' (first
    | with_reducible exact .refl _
    | with_reducible refine WorkFrame.trans ?_ (changeState_work _ _ _)
    | with_reducible refine WorkFrame.trans ?_ (setDeadline_work _ _ _)
    | with_reducible refine WorkFrame.trans ?_ (recheckHead_work _ _)
    | with_reducible refine WorkFrame.trans ?_ (sendAttempt_work _)
    | with_reducible refine WorkFrame.trans ?_ (makeCurrent_work _ _)
    | with_reducible refine WorkFrame.trans ?_ (clearWait_work _ _)
    | with_reducible refine WorkFrame.trans ?_ (markStarted_work _ _)
    | split)

theorem startPlain_work (x : Exchange) (s : State) : WorkFrame s (startPlain x s) := by
  unfold startPlain
  dsimp only
  repeat' (first
    | with_reducible exact .refl _
    | with_reducible refine WorkFrame.trans ?_ (sendAttempt_work _)
    | with_reducible refine WorkFrame.trans ?_ (makeCurrent_work _ _)
    | with_reducible refine WorkFrame.trans ?_ (clearWait_work _ _)
    | split)

theorem endUnstarted_work (b : Bay) (x : Exchange) (s : State) : WorkFrame s (endUnstarted b x s) := by
  unfold endUnstarted
  extract_lets s1
  have h1 : WorkFrame s s1 := releaseWaiting_work _ _
  split
  · split
    · exact h1
    · split
      · exact h1
      · split
        · exact h1.trans (completeHead_work _ _ _ _)
        · exact (h1.trans (returnToChecking_work _ _)).trans (checkHead_work _ _)
  · exact (h1.trans (settleOperation_work _ _)).trans (placePark_work _ _)
  · exact h1

theorem parkByGroup_work (b : Bay) (s : State) : WorkFrame s (parkByGroup b s) := by
  unfold parkByGroup
  dsimp only
  repeat' (first
    | with_reducible exact .refl _
    | with_reducible refine WorkFrame.trans ?_ (changeState_work _ _ _)
    | with_reducible refine WorkFrame.trans ?_ (setDeadline_work _ _ _)
    | with_reducible refine WorkFrame.trans ?_ (recheckHead_work _ _)
    | with_reducible refine WorkFrame.trans ?_ (settleOperation_work _ _)
    | with_reducible refine WorkFrame.trans ?_ (placePark_work _ _)
    | with_reducible refine WorkFrame.trans ?_ (markStarted_work _ _)
    | split)

theorem sendGroupPark_work (x : Exchange) (s : State) : WorkFrame s (sendGroupPark x s) := by
  unfold sendGroupPark
  dsimp only
  repeat' (first
    | with_reducible exact .refl _
    | with_reducible refine WorkFrame.trans ?_ (releaseWaiting_work _ _)
    | with_reducible refine WorkFrame.trans ?_ (parkByGroup_work _ _)
    | with_reducible refine WorkFrame.trans_updBus ?_
    | with_reducible refine WorkFrame.foldl ?_ ?_
    | intro _)

theorem startTaken_work (x : Exchange) (s : State) : WorkFrame s (startTaken x s) := by
  unfold startTaken
  repeat' (first
    | with_reducible exact .refl _
    | with_reducible refine WorkFrame.trans ?_ (startBay_work _ _ _ _)
    | with_reducible refine WorkFrame.trans ?_ (startPlain_work _ _)
    | with_reducible refine WorkFrame.trans ?_ (endUnstarted_work _ _ _)
    | with_reducible refine WorkFrame.trans ?_ (sendGroupPark_work _ _)
    | split)

theorem choose_work (s : State) (x : Exchange) (t : State) (h : s.choose = some (x, t)) : WorkFrame s t := by
  unfold State.choose at h
  split at h
  · cases h
    exact updBus_work _ _
  · cases hx : takeFirst (!s.blocked ·) s.bus.normal with
    | none => simp [hx] at h
    | some p =>
      simp only [hx, Option.map_some, Option.some.injEq, Prod.mk.injEq] at h
      rw [← h.2]
      exact updBus_work _ _

theorem takeLoop_work (fuel : Nat) (s : State) : WorkFrame s (takeLoop fuel s) := by
  induction fuel generalizing s with
  | zero => exact .refl _
  | succ fuel ih =>
    unfold takeLoop
    split
    · split
      · exact .refl _
      · rename_i x t h
        exact (choose_work s x t h).trans ((startTaken_work x t).trans (ih _))
    · exact .refl _

theorem busChoice_work (s : State) : WorkFrame s (busChoice s) := by
  unfold busChoice
  extract_lets s1
  have h1 : WorkFrame s s1 := WorkFrame.foldl (fun _ _ => releaseWaiting_work _ _) (.refl _)
  exact h1.trans (takeLoop_work _ _)

theorem transmit_work (s : State) : WorkFrame s (transmit s) := by
  unfold transmit
  repeat' (first
    | with_reducible exact .refl _
    | with_reducible refine WorkFrame.trans_updLink ?_
    | with_reducible refine WorkFrame.trans_queue ?_
    | split)

theorem close_work (s : State) : WorkFrame s (close s) := by
  unfold close
  repeat' (first
    | with_reducible exact .refl _
    | with_reducible refine WorkFrame.trans ?_ (driveAlertLine_work _)
    | with_reducible refine WorkFrame.trans ?_ (transmit_work _))

theorem conclude_work (s0 s : State) : WorkFrame s (conclude s0 s) := by
  exact (((((completeSurvey_work _).trans (busChoice_work _)).trans (settleBudget_work _ _)).trans (busChoice_work _)).trans
    (evaluateBudget_work _)).trans (close_work _)

theorem begin_work (s : State) : WorkFrame s (s.begin) := by
  unfold State.begin
  exact WorkFrame.trans_updBus (.refl _)

theorem countRetry_work (b : Bay) (s : State) : WorkFrame s (countRetry b s) := by
  unfold countRetry
  dsimp only
  repeat' (first
    | with_reducible exact .refl _
    | with_reducible refine WorkFrame.trans ?_ (postNotice_work _ _)
    | with_reducible refine WorkFrame.trans_updBay ?_
    | split)

theorem scheduleResend_work (c : Current) (s : State) : WorkFrame s (scheduleResend c s) := by
  unfold scheduleResend
  dsimp only
  repeat' (first
    | with_reducible exact .refl _
    | with_reducible refine WorkFrame.trans ?_ (countRetry_work _ _)
    | with_reducible refine WorkFrame.trans_updBus ?_
    | split)

theorem exhaustBay_work (b : Bay) (x : Exchange) (f : FailClass) (s : State) : WorkFrame s (exhaustBay b x f s) := by
  unfold exhaustBay
  extract_lets s1
  have h1 : WorkFrame s s1 := faultBay_work _ _ _ _ _ _
  split
  · exact h1.trans (countBay_work _ _)
  · exact h1

theorem acknowledge_work (b : Bay) (k : ExKind) (s : State) : WorkFrame s (acknowledge b k s) := by
  unfold acknowledge
  repeat' (first
    | with_reducible exact .refl _
    | with_reducible refine WorkFrame.trans ?_ (setDeadline_work _ _ _)
    | split)

theorem queryReport_work (b : Bay) (x : Exchange) (rep : Report) (s : State) : WorkFrame s (queryReport b x rep s) := by
  unfold queryReport
  split
  · exact takeReport_work _ _ _ _
  · exact surveyReport_work _ _ _
  · exact followUpReport_work _ _ _
  · exact takeReport_work _ _ _ _

theorem endAdopted_work (b : Bay) (x : Exchange) (s : State) : WorkFrame s (endAdopted b x s) := by
  unfold endAdopted
  repeat' (first
    | with_reducible exact .refl _
    | with_reducible exact endProtective_work _ _ _
    | split)

theorem refuseHead_work (b : Bay) (x : Exchange) (reason : Nat) (s : State) : WorkFrame s (refuseHead b x reason s) := by
  unfold refuseHead
  extract_lets s1
  have h : WorkFrame s s1 := by
    show WorkFrame s (if x.kind.stateChanging then endAdopted b x (refusedReturn b x.before s) else s)
    split
    · exact (refusedReturn_work _ _ _).trans (endAdopted_work _ _ _)
    · exact .refl _
  split
  · exact h.trans (completeHead_work _ _ _ _)
  · exact h.trans (recheckHead_work _ _)

theorem refuseSurvey_work (b : Bay) (s : State) : WorkFrame s (refuseSurvey b s) := by
  exact ((changeState_work _ _ _).trans (endWork_work _ _ _ _)).trans (countBay_work _ _)

end Sys2Proof.Machine
end

