-- ==== Sys2Proof/WellFormed.lean ====
section
/-! DEFINITION. Which terms of `Instr` stand for something the wires can carry: a request payload of at most 64 bytes (R145),
a bay bus payload of at most 50 (R186), for BAD_REQUEST_KIND a code that names no request kind (R184), and for a DONE,
FAULT or SAMPLES frame a kind byte of its row or of no row (R141, R186; log 29), and for a NAK_FAILURE another reason than Refused
(R186). -/

namespace Sys2Proof

/-- The request kind codes of R184: 0x01..0x09 and 0x20..0x28. -/
def knownKindCode (k : Byte) : Bool :=
  (1 ≤ k.toNat && k.toNat ≤ 9) || (0x20 ≤ k.toNat && k.toNat ≤ 0x28)

/-- A request payload fits its frame (R145). -/
def payloadFits (p : List Byte) : Bool := p.length ≤ Config.maxPayload

/-- A request payload given without its first byte fits its frame (R145, R149). -/
def restFits (p : List Byte) : Bool := p.length + 1 ≤ Config.maxPayload

/-- A bay bus payload fits its frame (R186). -/
def busPayloadFits (p : List Byte) : Bool := p.length ≤ 50

/-- No station frame and no answer has this kind byte (R186). -/
def unknownStationKind (k : Byte) : Bool :=
  k ≠ Config.kindDone && k ≠ Config.kindFault && k ≠ Config.kindPresence && k ≠ Config.kindSamples && k ≠ Config.kindAck
    && k ≠ Config.kindNak

/-- The kind byte of a station frame is that of its row, or unknown. -/
def stationKindFits (row k : Byte) : Bool := k = row || unknownStationKind k

/-- The term stands for a frame, a byte or an event that can occur on the part's wires. -/
def Instr.wellFormed : Instr → Bool
  | .softReset _ p | .spinUp _ p | .spinDown _ p | .load _ p | .unload _ p | .barrier _ p | .status _ p | .pass _ p
  | .reserve _ p | .release _ p | .tableRead _ p | .supplySet _ p | .faultRelease _ p | .counterClear _ p
  | .reservationsClear _ p | .motionResume _ p => payloadFits p
  | .tableWriteProfile _ p | .tableWriteBayAssignment _ p | .tableWriteLevelMap _ p | .tableWriteLevelAction _ p
  | .tableWriteSensor _ p | .tableWriteMotionThresholds _ p | .tableWriteWindows _ p | .tableWriteSources _ p
  | .tableWriteNoticeRouting _ p | .tableWriteTiming _ p | .recordReadCaseStatus _ p | .recordReadBayRecord _ p
  | .recordReadSensorRecord _ p | .recordReadFirstFaultRecord _ p | .recordReadAdmissionQueue _ p => restFits p
  | .done f => stationKindFits Config.kindDone f.kind && busPayloadFits f.payload
  | .fault f => stationKindFits Config.kindFault f.kind && busPayloadFits f.payload
  | .presenceInserted _ p _ => busPayloadFits p && p ≠ [2]
  | .presenceRemoved _ p _ => busPayloadFits p && p ≠ [1]
  | .samples f => stationKindFits Config.kindSamples f.kind && busPayloadFits f.payload
  | .ack f => busPayloadFits f.payload
  | .nakFailure _ none p _ => p = []
  | .nakFailure _ (some r) p _ => r ≠ 3 && busPayloadFits (r :: p)
  | .nakRefused _ p _ => busPayloadFits (3 :: p)
  | .badRequestKind k _ p => !knownKindCode k && payloadFits p
  | .powerOnReset | .badFrame _ | .frameGapExpiry | .settleExpiry | .operationDeadlineExpiry _ | .groupDeadlineExpiry _
  | .waitDeadlineExpiry _ | .staggerExpiry | .debounceExpiry _ | .joltHoldExpiry _ | .blindExpiry _ | .answerWindowExpiry
  | .resendExpiry | .allBaysQuickparkEnd | .transmissionEnd | .millisecondCounterTick | .linkByteReceipt _ => true

end Sys2Proof
end

