-- ==== Sys2Proof/Tests/Slice0.lean ====
section
/-! SUPPORT. Tests: ill-formed terms, figures the spec prints and single steps of its worked sequences, then for every statement with
hypotheses a state and operands that meet them. -/

open Sys2Proof Sys2Proof.Machine

namespace Sys2Proof.Tests

set_option Elab.async false

/-! ### Small states -/

/-- The state after a command, or the same state where it stops. -/
def after (c : Instr) (s : State) : State :=
  match exec c s with
  | .next t => t
  | _ => s

/-- A bay after the survey, in a state, at the reservation of the default profile. -/
def bayIn (st : BayState) : BayRecord :=
  { BayRecord.reset with state := st, reservation := Profile.default.reservation st, surveyed := true, known := true }

/-- A quiet case: no survey, bay 0 as given, the other bays Empty, 12,000 mA with margin 10, no notice. -/
def case1 (r : BayRecord) : State :=
  { State.reset with
    now := 1000
    survey := { running := false, settle := none }
    bays := (Vector.replicate 24 (bayIn .empty)).set 0 r
    adm := { State.reset.adm with limit := 12000, effLimit := 10800, committed := r.reservation, overBudget := false }
    notices := { State.reset.notices with queue := [] }
    alertLine := false }

/-- The header of a request from source 1 with tag 7. -/
def hdr (target : Byte) : Header := { target := target, source := 1, tag := 7 }

/-- A frame of bay 0's station. -/
def frame0 (kind : Byte) (p : List Byte) : StationFrame := { initiator := 0x20, kind := kind, payload := p, check := stationCheck 0x20 kind p }

/-- An ACK of bay 0's station without payload. -/
def ack0 : AnswerFrame := { initiator := 0x20, payload := [], check := stationCheck 0x20 0x40 [] }

/-- A SAMPLES frame of sensor 0's node. -/
def samples0 (p : List Byte) : StationFrame := { initiator := 0x08, kind := 0x33, payload := p, check := stationCheck 0x08 0x33 p }

/-- Bay 0 Loading with its LOAD issued. -/
def loadingBay : BayRecord :=
  { bayIn .loading with
    queue := [{ kind := .load, origin := .upstream 1 7 none, payload := [], phase := .issued, wait := none }] }

/-- An attempt of an exchange that awaits its answer until 1,050. -/
def attempt (x : Exchange) (resends : Nat) : Current :=
  { ex := x, resends := resends, answerBy := some 1050, resendAt := none, disregarded := false, cutShort := false,
    replaced := false }

/-- The case with an attempt on the bus. -/
def onBus (c : Current) (s : State) : State := { s with bus := { idleBus [] with current := some c, transaction := .attempt } }

/-- An exchange to bay 0. -/
def toBay0 (k : ExKind) (o : Owner) (before : BayState) : Exchange :=
  { kind := k, target := .bay 0, owner := o, payload := [], rate := .hz400, bays := [], before := before }

/-! ### Ill-formed terms -/

theorem test_wellFormed_payload_64 : (Instr.load (hdr 0) (List.replicate 64 0)).wellFormed = true := by decide
theorem test_wellFormed_refuses_payload_65 : (Instr.load (hdr 0) (List.replicate 65 0)).wellFormed = false := by decide
theorem test_wellFormed_refuses_rest_64 : (Instr.tableWriteProfile (hdr 0x7F) (List.replicate 64 0)).wellFormed = false := by decide
theorem test_wellFormed_refuses_bus_payload_51 : (Instr.samples (samples0 (List.replicate 51 0))).wellFormed = false := by
  decide +kernel
theorem test_wellFormed_refuses_presence_51 : (Instr.presenceInserted 0x20 (List.replicate 51 0) 0).wellFormed = false := by
  decide +kernel
theorem test_wellFormed_refuses_known_kind_code : (Instr.badRequestKind 0x28 (hdr 0) []).wellFormed = false := by decide
theorem test_wellFormed_unknown_kind_code : (Instr.badRequestKind 0x29 (hdr 0) []).wellFormed = true := by decide

theorem test_wellFormed_refuses_another_kind_of_station_frame :
    (Instr.done (frame0 0x31 [42])).wellFormed = false ∧ (Instr.samples { samples0 [] with kind := 0x40 }).wellFormed = false := by decide +kernel
theorem test_wellFormed_unknown_station_kind : (Instr.fault (frame0 0x99 [])).wellFormed = true := by decide +kernel
theorem test_wellFormed_refuses_the_other_presence :
    (Instr.presenceInserted 0x20 [2] (stationCheck 0x20 0x32 [2])).wellFormed = false ∧ (Instr.presenceRemoved 0x20 [1] (stationCheck 0x20 0x32 [1])).wellFormed = false
      ∧ (Instr.presenceInserted 0x20 [3] (stationCheck 0x20 0x32 [3])).wellFormed = true := by decide +kernel
theorem test_wellFormed_refuses_the_other_nak :
    (nakFailed 0x20 3 5).wellFormed = false ∧ (nakRefusal 0x20 5).wellFormed = true
      ∧ (Instr.nakFailure 0x20 none [0] 0).wellFormed = false ∧ (Instr.nakFailure 0x20 none [] 0).wellFormed = true := by decide +kernel

/-- The table gives no row bits: no word spells a command. -/
theorem test_decode_none : decodeTableWord 16 0xFFFF = none := rfl

/-! ### Figures the spec prints -/

/-- R145: the check of the nine bytes "123456789" is 0x29B1 (the standard check value of this CRC). -/
theorem test_crc16 : crc16 [0x31, 0x32, 0x33, 0x34, 0x35, 0x36, 0x37, 0x38, 0x39] = 0x29B1 := by decide +kernel

/-- Chapter 4, the impact: the window sum 47,844 and its mean 2,990. -/
theorem test_window_after_impact :
    (List.replicate 8 (vibration 1725) ++ [vibration 25050000, vibration 17668900] ++ List.replicate 6 (vibration 1048576)).sum
      = 47844 ∧ 47844 / 16 = 2990 := by decide +kernel

/-- Chapter 4, a fall with a gap: 100 samples at 400 Hz are 306 mm, 120 are 441 mm. -/
theorem test_fall_heights : fallHeight 100 400 = 306 ∧ fallHeight 120 400 = 441 := by decide

/-- Chapter 3: a class with Peak 2,400, Idle 700, Active 900, Surge 300 books 1,000 mA while Loading. -/
theorem test_loading_reservation :
    ({ Profile.default with peak := 2400, idle := 700, active := 900, surge := 300 } : Profile).loadingReservation = 1000 := by decide

/-- Chapter 8, the policy table: a written Base and Span (8, 6) is stored as (8, 3), (4, 7) as (0, 7). -/
theorem test_windows_as_stored :
    (windowFrom [1, 4, 8, 6, 14]).map (fun w => (w.base, w.span)) = some (8, 3)
      ∧ (windowFrom [1, 2, 4, 7, 13]).map (fun w => (w.base, w.span)) = some (0, 7) := by decide +kernel

/-- R186: a bay bus frame of the part has its address first, the station's, the kind code, the length. -/
theorem test_bus_frame_bytes :
    ({ destination := 0x29, kind := 0x12, payload := [] } : BusFrame).bytes.take 4 = [0x01, 0x29, 0x12, 0x00] := by decide +kernel

/-- R185, R184: a BUDGET notice carries yes, 9,700, 8,100 and the time, little-endian, under kind byte 7. -/
theorem test_budget_notice_bytes :
    (Notice.frame (.budget true 9700 8100 216500)).take 15 =
      [0xA5, 11, 0x82, 7, 1, 0xE4, 0x25, 0, 0, 0xA4, 0x1F, 0xB4, 0x4D, 0x03, 0] := by decide +kernel

/-- R188: the records have the lengths the layouts give. -/
theorem test_record_lengths :
    State.reset.caseStatus.length = 39 ∧ (State.reset.bay 0).bytes.length = 64 ∧ (State.reset.sensors[0]).bytes.length = 112
      ∧ (firstFaultBytes none).length = 11 ∧ State.reset.admissionBytes.length = 1 := by decide +kernel

/-! ### Single steps of the worked sequences -/

/-- Chapter 1, survey: "at speed, heads unloaded" takes an Unknown bay to Idle at 800 mA. -/
theorem test_done_reconciles_unknown :
    let t := after (.done (frame0 0x30 [1, 2, 0])) State.reset
    ((t.bay 0).state, (t.bay 0).reservation, t.adm.committed) = (.idle, 800, 58300) := by decide +kernel

/-- Chapter 1, survey: "accelerating" takes it to Spinning with a deadline 25,000 ms ahead. -/
theorem test_done_reconciles_spinning :
    let t := after (.done (frame0 0x30 [1, 1, 0])) { State.reset with now := 500290 }
    ((t.bay 0).state, (t.bay 0).deadline.map (·.due)) = (.spinning, some 525290) := by decide +kernel

/-- Chapter 3: a LOAD to an Idle bay books 300 mA at once and its exchange starts on the free bus. -/
theorem test_load_admitted :
    let t := after (.load (hdr 0) []) (case1 (bayIn .idle))
    ((t.bay 0).state, t.adm.committed, t.bus.sent) = (.loading, 1100, [{ destination := 0x20, kind := 0x12, payload := [] }]) := by
  decide +kernel

/-- Chapter 2: a SPIN-UP books the Peak and closes the stagger for 1,500 ms. -/
theorem test_spin_up_admitted :
    let t := after (.spinUp (hdr 0) []) (case1 (bayIn .off))
    (t.adm.committed, t.adm.staggerDue) = (2500, some 2500) := by decide +kernel

/-- Chapter 8: a SPIN-UP to an Idle bay is answered Already. -/
theorem test_spin_up_already :
    (after (.spinUp (hdr 0) []) (case1 (bayIn .idle))).link.tx =
      some (.reply { tag := 7, completion := { code := .already, secondary := 0 }, payload := [], echo := none }) := by decide +kernel

/-- R10, R37: an UNLOAD of a Loaded bay starts at once and takes it to Unloading. -/
theorem test_unload_starts : ((after (.unload (hdr 0) []) (case1 (bayIn .loaded))).bay 0).state = .unloading := by decide +kernel

/-- R10, R37: a SPIN-DOWN of an Idle bay takes it to Stopping at Idle's 800 mA. -/
theorem test_spin_down_starts :
    let t := after (.spinDown (hdr 0) []) (case1 (bayIn .idle))
    ((t.bay 0).state, (t.bay 0).reservation) = (.stopping, 800) := by decide +kernel

/-- R43: a BARRIER alone in its queue is Done at once. -/
theorem test_barrier_done :
    (after (.barrier (hdr 0) []) (case1 (bayIn .idle))).link.tx =
      some (.reply { tag := 7, completion := { code := .done, secondary := 0 }, payload := [], echo := none }) := by decide +kernel

/-- R46: STATUS without a fresh cache sends a QUERY; R47: PASS sends its payload. -/
theorem test_status_and_pass_send :
    (after (.status (hdr 0) []) (case1 (bayIn .idle))).bus.sent = [{ destination := 0x20, kind := 0x15, payload := [] }]
      ∧ (after (.pass (hdr 0) [9, 8]) (case1 (bayIn .idle))).bus.sent = [{ destination := 0x20, kind := 0x16, payload := [9, 8] }] := by
  decide +kernel

/-- Chapter 8: RESERVE and RELEASE set and free the holder. -/
theorem test_reserve_and_release :
    let t := after (.reserve (hdr 0) []) (case1 (bayIn .idle))
    (t.bay 0).holder = some 1 ∧ ((after (.release (hdr 0) []) t).bay 0).holder = none := by decide +kernel

/-- Chapter 8: a RESERVE of row 0 whose bays 1 to 3 are Empty: BayEmpty, secondary 3, four entries. -/
theorem test_reserve_row :
    (after (.reserve (hdr 0x40) []) (case1 (bayIn .idle))).link.tx =
      some (.reply { tag := 7, completion := { code := .bayEmpty, secondary := 3 }, echo := none,
                     payload := [0, 0, 0, 1, 6, 0, 2, 6, 0, 3, 6, 0] }) := by decide +kernel

/-- Chapter 3: SUPPLY-SET 9,000 mA with margin 10 gives 8,100 mA; 9,700 mA committed are then over-budget. -/
theorem test_supply_set_over_budget :
    let s := case1 (bayIn .idle)
    let t := after (.supplySet (hdr 0x7F) [0x28, 0x23, 10]) { s with adm := { s.adm with committed := 9700 } }
    (t.adm.effLimit, t.adm.overBudget, t.notices.queue) = (8100, true, [.budget true 9700 8100 1000]) := by decide +kernel

/-- Chapter 6: a NAK Busy counts one resend, due 2 ms on. -/
theorem test_nak_busy_resends :
    let t := after (nakFailed 0x20 2 0)
      (onBus (attempt (toBay0 .load .head .idle) 0) (case1 loadingBay))
    ((t.bay 0).retry, t.bus.current.map (·.resends), t.bus.current.bind (·.resendAt)) = (1, some 1, some 1002) := by decide +kernel

/-- Chapter 6: the fourth attempt without an answer makes the bay Unreachable at 2,500 mA, fault Bus, NoAnswer. -/
theorem test_no_answer_exhausted :
    let s := onBus (attempt (toBay0 .load .head .idle) 3) (case1 loadingBay)
    let t := after .answerWindowExpiry { s with now := 1050 }
    ((t.bay 0).state, (t.bay 0).reservation, (t.bay 0).lastFault.map fun f => (f.cause, f.secondary)) =
      (.unreachable, 2500, some (.bus, 1)) := by decide +kernel

/-- Chapter 6: the ACK of a LOAD sets the deadline 3,000 ms ahead. -/
theorem test_ack_sets_deadline :
    ((after (.ack ack0) (onBus (attempt (toBay0 .load .head .idle) 3) (case1 loadingBay))).bay 0).deadline =
      some { due := 4000, kind := .load, group := false } := by decide +kernel

/-- R133: NAK Refused returns the bay to its state before the admission; the head completes BayRefused with the reason. -/
theorem test_nak_refused :
    let t := after (nakRefusal 0x20 5)
      (onBus (attempt (toBay0 .load .head .idle) 0) (case1 loadingBay))
    (t.bay 0).state = .idle ∧ t.link.tx =
      some (.reply { tag := 7, completion := { code := .bayRefused, secondary := 5 }, payload := [], echo := none }) := by
  decide +kernel

/-- Chapter 1: the deadline's expiry faults the bay with Timeout, Load at 2,500 mA. -/
theorem test_operation_deadline :
    let t := after (.operationDeadlineExpiry 0)
      (case1 { loadingBay with deadline := some { due := 1000, kind := .load, group := false } })
    ((t.bay 0).state, (t.bay 0).reservation, (t.bay 0).lastFault) =
      (.faulted, 2500, some { cause := .timeout, secondary := 2, time := 1000 }) := by decide +kernel

/-- Chapter 9: a FAULT frame with code 42 locks the First Fault Record. -/
theorem test_fault_captured :
    (after (.fault (frame0 0x31 [42])) (case1 (bayIn .idle))).ffr =
      some { subject := .bay 0, cause := .drive, secondary := 42, work := .none, time := 1000, later := 0 } := by decide +kernel

/-- R61: bay 0's QUERY exhausts, which books Peak, and the free bus starts bay 1's STOP, which falls from Active to Idle. The condition
is evaluated once, on the sum after both: a limit that only the sum between exceeds gives no BUDGET notice, one below both gives one. -/
theorem test_budget_evaluated_once :
    let s := onBus (attempt (toBay0 .query .insertion .idle) 3) (case1 (bayIn .idle))
    let s (limit : Nat) : State :=
      { s with
        bays := s.bays.set 1 { bayIn .loaded with
          queue := [{ kind := .spinDown, origin := .upstream 1 7 none, payload := [], phase := .issued, wait := none }] }
        bus := { s.bus with normal := [{ toBay0 .stop .head .loaded with target := .bay 1 }] }
        adm := { s.adm with effLimit := limit, committed := (bayIn .idle).reservation + (bayIn .loaded).reservation } }
    let final := (bayIn .faulted).reservation + (bayIn .stopping).reservation
    let budgets (limit : Nat) := (after .answerWindowExpiry { s limit with now := 1050 }).notices.queue.filter fun n => n.kind = 7
    (after .answerWindowExpiry { s final with now := 1050 }).adm.committed = final ∧ budgets final = []
      ∧ budgets (final - 1) = [.budget true final (final - 1) 1050] := by decide +kernel

/-- R17: a drive fault in another bay's resend gap removes the bay's queued UNLOAD, and leaves a queued park follow-up. -/
theorem test_fault_leaves_the_follow_up :
    let gap : Current := { attempt { toBay0 .query .head .idle with target := .bay 1 } 1 with answerBy := none, resendAt := some 1040 }
    let left := fun x => (after (.fault (frame0 0x31 [42]))
      { case1 (bayIn .parking) with bus := { idleBus [] with current := some gap, urgent := [x] } }).bus.urgent
    left (toBay0 .unload .protective .loaded) = [] ∧ left (toBay0 .query .followUp .parking) = [toBay0 .query .followUp .parking] := by
  decide +kernel

/-- R18, R20: a follow-up whose bay a fault has meanwhile made Faulted reports heads loaded and reconciles the bay. -/
theorem test_follow_up_after_the_fault :
    let s := onBus (attempt (toBay0 .query .followUp .faulted) 0) (case1 (bayIn .faulted))
    ((after (.ack { initiator := 0x20, payload := [1, 4, 0], check := stationCheck 0x20 0x40 [1, 4, 0] }) s).bay 0).state = .loaded
      ∧ ((after (nakRefusal 0x20 5) s).bay 0).lastFault = none := by decide +kernel

/-- R21, R22: an insertion takes an Empty bay to Off, a removal clears its holder and its last cache. -/
theorem test_presence :
    ((after (.presenceInserted 0x20 [1] (stationCheck 0x20 0x32 [1])) (case1 (bayIn .empty))).bay 0).state = .off
      ∧ ((after (.presenceRemoved 0x20 [2] (stationCheck 0x20 0x32 [2])) (case1 { bayIn .idle with holder := some 1 })).bay 0).holder
        = none := by decide +kernel

/-- Chapter 4: the first low-g sample (10, -5, 40) brings the window sum to 1,022 and Rolling asserts. -/
theorem test_first_low_g_sample :
    let t := after (.samples (samples0 [0xE8, 0x03, 10, 0, 0xFB, 0xFF, 40, 0])) (case1 (bayIn .idle))
    (t.sensors[0].vibSum, t.sensors[0].lowRun, t.sensors[0].conds.rolling, t.sensors[0].expected) =
      (1022, 1, true, some 1001) := by decide +kernel

/-- R95: the blind expiry at 250 ms makes a missing node Blind and locks the First Fault Record. -/
theorem test_blind :
    let t := after (.blindExpiry 0) { State.reset with now := 250 }
    (t.sensors[0].conds.blind, t.ffr.map (·.subject)) = (true, some (.sensor 0)) := by decide +kernel

/-- R1: the counter wraps. -/
theorem test_tick_wraps : (after .millisecondCounterTick { State.reset with now := 0xFFFFFFFF }).now = 0 := by decide +kernel

/-- R184: RECORD-READ of the First Fault Record byte by byte is the same command. -/
theorem test_bytes_are_the_command :
    let body : List Byte := [2, 0x7F, 1, 0x22, 7, 3, 0]
    (linkFrame body).foldl (fun s x => after (.linkByteReceipt x) s) (case1 (bayIn .idle)) =
      after (.recordReadFirstFaultRecord (hdr 0x7F) [0]) (case1 (bayIn .idle)) := by decide +kernel

/-- R157, chapter 7: the end of the last reply resets the part, with the settle deadline 200 ms ahead. -/
theorem test_soft_reset_taken :
    let t := after .transmissionEnd (after (.softReset (hdr 0x7F) []) (case1 (bayIn .loaded)))
    ((t.bay 0).state, t.survey.settle, t.link.resetPending) = (.unknown, some 1200, false) := by decide +kernel

/-- R1, R3: power-on reset from any state is the reset state but for the commands that wait. -/
theorem test_power_on_reset : after .powerOnReset (case1 loadingBay) = State.reset := by decide +kernel

/-- R23: the settle expiry places 24 QUERYs, the first of them on the bus. -/
theorem test_settle_expiry :
    let t := after .settleExpiry { State.reset with now := 200 }
    (t.bus.sent, t.bus.normal.length) = ([{ destination := 0x20, kind := 0x15, payload := [] }], 23) := by decide +kernel

/-- R56: Peak 2,000, Idle 2,400, Active 1,500, Surge 900 is stored as 2,000, 2,000, 2,000, 0. -/
theorem test_profile_write :
    let t := after (.tableWriteProfile (hdr 0x7F) [3, 0xD0, 7, 0x60, 9, 0xDC, 5, 0x84, 3, 1, 0, 1, 0, 1, 0, 1, 0, 1, 0]) (case1 (bayIn .idle))
    (t.adm.profiles[3].peak, t.adm.profiles[3].idle, t.adm.profiles[3].active, t.adm.profiles[3].surge) = (2000, 2000, 2000, 0) := by
  decide +kernel

/-- R105: a zone code that names no zone is refused BadRequest, Value. -/
theorem test_assignment_refused :
    (after (.tableWriteBayAssignment (hdr 0x7F) [0, 0, 5]) (case1 (bayIn .idle))).link.tx =
      some (.reply { tag := 7, completion := { code := .badRequest, secondary := 7 }, payload := [], echo := none }) := by decide +kernel

/-- R38: a Deferred head whose wait deadline expires completes Expired, Level. -/
theorem test_wait_expiry :
    (after (.waitDeadlineExpiry 0) (case1 { bayIn .idle with
      queue := [{ kind := .load, origin := .upstream 1 7 none, payload := [], phase := .deferred, wait := some 1000 }] })).link.tx =
      some (.reply { tag := 7, completion := { code := .expired, secondary := 1 }, payload := [], echo := none }) := by decide +kernel

/-- R145: a dropped frame is counted, up to 65,535. -/
theorem test_bad_frame :
    (after (.badFrame .badCrc) { State.reset with link := { State.reset.link with drops := 65535 } }).link.drops = 65535
      ∧ (after (.badFrame .badLength) State.reset).link.drops = 1 := by decide +kernel

/-- R28: a kind code that names no request is answered BadRequest, Kind. -/
theorem test_bad_kind :
    (after (.badRequestKind 0x0A (hdr 0) []) (case1 (bayIn .idle))).link.tx =
      some (.reply { tag := 7, completion := { code := .badRequest, secondary := 1 }, payload := [], echo := none }) := by decide +kernel

/-! ### Where a statement starts: the structures from decidable conditions -/

/-- The command answers a next state. -/
def answersNext (c : Instr) (s : State) : Bool :=
  match exec c s with
  | .next _ => true
  | _ => false

/-- `State.Unengaged` in decidable words; the next ones likewise. -/
abbrev UnengagedTest (s : State) : Prop :=
  s.bus.urgent = [] ∧ s.bus.normal = [] ∧ (∀ b, (s.bay b).waiting = []) ∧ s.adm.queue = []
    ∧ s.adm.overBudget = decide (s.adm.effLimit < s.adm.committed)

abbrev RestingTest (s : State) : Prop := s.survey.running = false ∧ s.bus.current = none ∧ s.bus.transaction = .free

abbrev BalancedTest (s : State) : Prop :=
  (∀ b, (s.bay b).reservation = (s.profileOf b).reservation (s.bay b).state) ∧ s.adm.committed = sumReservations s.bays

/-- What `State.CalmBut` says of the bays. -/
abbrev CalmButTest (s : State) (b : Bay) : Prop :=
  BalancedTest s ∧ (∀ c, c ≠ b → (s.bay c).queue = []) ∧ (∀ c, c ≠ b → (s.bay c).slot = none)
    ∧ ∀ c, c ≠ b → (s.bay c).restoreIntent = false

theorem unengaged_of {s : State} (h : UnengagedTest s) : s.Unengaged := ⟨h.1, h.2.1, h.2.2.1, h.2.2.2.1, h.2.2.2.2⟩

theorem resting_of {s : State} (h : UnengagedTest s) (k : RestingTest s) : s.Resting := ⟨unengaged_of h, k.1, k.2.1, k.2.2⟩

theorem busRests_of {s : State} (h : s.Resting) : s.BusRests :=
  ⟨h.survey, h.urgent, h.normal, h.current, h.free, h.waiting, h.flag⟩

theorem balanced_of {s : State} (h : BalancedTest s) : s.Balanced := h

theorem hears_of {s : State} {h : Header} {t : ReqTarget} {src : Source}
    (k : s.link.resetPending = false ∧ s.placeFree = true ∧ targetOf h.target = some t ∧ sourceOf h.source = some src) :
    s.Hears h t src := ⟨k.1, k.2.1, k.2.2.1, k.2.2.2⟩

theorem hearsManager_of {s : State} {h : Header} {src : Source} (k : (s.link.resetPending = false ∧ s.placeFree = true
    ∧ targetOf h.target = some .part ∧ sourceOf h.source = some src) ∧ s.manages src = true) : s.HearsManager h src :=
  ⟨hears_of k.1, k.2⟩

theorem calmBut_of {s : State} {b : Bay} (h : UnengagedTest s ∧ RestingTest s ∧ CalmButTest s b) : s.CalmBut b :=
  ⟨resting_of h.1 h.2.1, h.2.2.1, h.2.2.2.1, h.2.2.2.2.1, h.2.2.2.2.2⟩

theorem calm_of {s : State} (h : UnengagedTest s ∧ RestingTest s ∧ BalancedTest s ∧ (∀ b, (s.bay b).queue = [])
    ∧ (∀ b, (s.bay b).slot = none) ∧ ∀ b, (s.bay b).restoreIntent = false) : s.Calm :=
  ⟨resting_of h.1 h.2.1, h.2.2.1, h.2.2.2.1, h.2.2.2.2.1, h.2.2.2.2.2⟩

theorem singly_of {s : State} (h : s.bus.urgent = [] ∧ s.bus.normal = [] ∧ ∀ b, (s.bay b).waiting = []) : s.ExchangesStandSingly :=
  fun b => ⟨by simp [h.2.2 b], by simp [h.1, h.2.1], fun _ _ _ _ => by simp [h.1, h.2.1]⟩

theorem engaged_of {s : State} {b : Bay} {c : Current} {n : List Exchange} (h : (s.bus.current = some c ∧ s.bus.urgent = []
    ∧ s.bus.normal = n ∧ (∀ d, (s.bay d).waiting = []) ∧ (∀ d, d ≠ b → (s.bay d).slot = none)) ∧ s.survey.running = false
    ∧ s.adm.queue = [] ∧ s.adm.overBudget = decide (s.adm.effLimit < s.adm.committed) ∧ BalancedTest s) : s.Engaged b c n :=
  ⟨h.1.1, h.1.2.1, h.1.2.2.1, h.1.2.2.2.1, h.1.2.2.2.2, h.2.1, h.2.2.1, h.2.2.2.1, h.2.2.2.2⟩

theorem alone_of {s : State} {c : Current} {station : Byte} (h : UnengagedTest s ∧ s.survey.running = false ∧ s.bus.current = some c
    ∧ s.bus.transaction = .attempt ∧ c.answerBy.isSome = true ∧ c.resendAt = none
    ∧ (c.disregarded = false ∧ c.cutShort = false ∧ c.replaced = false) ∧ c.ex.target.address = station) : s.Alone c station :=
  ⟨unengaged_of h.1, h.2.1, h.2.2.1, h.2.2.2.1, h.2.2.2.2.1, h.2.2.2.2.2.1, h.2.2.2.2.2.2.1, h.2.2.2.2.2.2.2⟩

theorem sweeps_of {s : State} {b : Bay} {z : Zone} {l : Level} {k : ProtKind} (h : l = s.prot.levels.of z ∧ (s.level b).val < l.val
    ∧ (s.prot.action l).kind = some k ∧ (s.bay b).sweepLevel.val < l.val ∧ (s.bay b).state ≠ .empty) : s.Sweeps b z l k :=
  ⟨h.1, h.2.1, h.2.2.1, h.2.2.2.1, h.2.2.2.2⟩

/-- What `case1` promises of any bay 0 within the limit. -/
theorem case1_resting (r : BayRecord) (hw : r.waiting = []) (hr : r.reservation ≤ 10800) : (case1 r).Resting := by
  refine ⟨⟨rfl, rfl, fun b => ?_, rfl, ?_⟩, rfl, rfl, rfl⟩
  · by_cases h : b = 0
    · subst h; exact hw
    · have h0 : ¬ (0 = b.val) := fun e => h (Fin.ext e.symm)
      simp [case1, State.bay, h0, bayIn, BayRecord.reset]
  · show false = decide (10800 < r.reservation)
    exact (decide_eq_false (by omega)).symm

/-- `case1` with bay 0 in a state of the default profile is calm. -/
theorem case1_calm (st : BayState) : (case1 (bayIn st)).Calm := by
  cases st <;>
    exact ⟨case1_resting _ rfl (by decide), balanced_of (by decide +kernel), by decide +kernel, by decide +kernel, by decide +kernel⟩

/-- `case1` with such a bay 0 has it free. -/
theorem case1_free (st : BayState) : (case1 (bayIn st)).FreeBay 0 := by
  cases st <;> exact ⟨case1_resting _ rfl (by decide), balanced_of (by decide +kernel), rfl, rfl⟩

/-- A request of `hdr` to bay 0, to all bays and to the part is heard. -/
theorem case1_hears (st : BayState) : (case1 (bayIn st)).Hears (hdr 0) (.bay 0) 1 ∧ (case1 (bayIn st)).Hears (hdr 0x4F) .all 1
    ∧ (case1 (bayIn st)).HearsManager (hdr 0x7F) 1 := by
  cases st <;> exact ⟨hears_of (by decide +kernel), hears_of (by decide +kernel), hears_of (by decide +kernel), by decide +kernel⟩

/-- An attempt on the bus to bay 0 stands alone. -/
theorem onBus_alone (k : ExKind) (o : Owner) (before : BayState) (n : Nat) (r : BayRecord) (hw : r.waiting = [])
    (hr : r.reservation ≤ 10800) : (onBus (attempt (toBay0 k o before) n) (case1 r)).Alone (attempt (toBay0 k o before) n) 0x20 :=
  have h := case1_resting r hw hr
  ⟨⟨rfl, rfl, h.waiting, rfl, h.flag⟩, rfl, rfl, rfl, rfl, rfl, ⟨rfl, rfl, rfl⟩, rfl⟩

/-- A BARRIER waiting in a queue. -/
def barrier7 : Request := { kind := .barrier, origin := .upstream 1 7 none, payload := [], phase := .queued, wait := none }

/-- A Level Action table with Unload at 4, Park at 5 and 6, Stop at 7. -/
def someActions : Vector ActionEntry 8 := defaultActions.set 7 ⟨.parkStop, false, false⟩

/-- The quiet case with bay 0 in the zone of sensor 0, and the zones at levels 0, 4, 5, 2, and 7 for all. -/
def zoned (r : BayRecord) : State :=
  let s := case1 { r with zone := .sensor 0 }
  { s with prot := { s.prot with actions := someActions, levels := { sensor := #v[0, 4, 5, 2], all := 7 } } }

/-- A started protective operation. -/
def opAt (k : ProtKind) (l : Level) (fromLoaded : Bool) : ProtOp :=
  { kind := k, level := l, started := true, stopPhase := false, fromLoaded := fromLoaded }

/-- A head of bay 0 in this phase, from source 1 with tag 7. -/
def head7 (k : ReqKind) (p : Phase) : Request := { barrier7 with kind := k, phase := p }

/-! ### Hypotheses met: the queue, resets, invariants -/

theorem test_hyp_StepRunsTheFrontCommand : State.reset.pending = [] := rfl

theorem test_hyp_CommandsAnswerAndOnlyTheTickCounts :
    Instr.settleExpiry ≠ .millisecondCounterTick ∧ Instr.settleExpiry ≠ .powerOnReset := by decide

/-- A reply to send. -/
def reply7 : Reply := { tag := 7, completion := { code := .done, secondary := 0 }, payload := [], echo := none }

/-- The quiet case with a port of its own. -/
def sending (replies : List Reply) (pending : Bool) (notices : List Notice) : State :=
  let s := case1 (bayIn .idle)
  { s with link := { s.link with tx := some (.reply reply7), replies := replies, resetPending := pending }
           notices := { s.notices with queue := notices } }

theorem test_hyp_TransmissionEndTakesTheNextFrameOrResets :
    (case1 (bayIn .idle)).link.tx = none
      ∧ (∀ rs ns, (sending rs false ns).link.tx = some (.reply reply7) ∧ (sending rs false ns).link.resetPending = false)
      ∧ (∀ ns, (sending [reply7] true ns).link.tx = some (.reply reply7) ∧ (sending [reply7] true ns).link.resetPending = true
        ∧ (sending [reply7] true ns).link.replies ≠ [])
      ∧ (let s := sending [] true [];
        ({ s with link := { s.link with tx := some (.notice (.survey 3 9)) } } : State).link.tx = some (.notice (.survey 3 9)))
      ∧ (sending [] true []).link.tx = some (.reply reply7) ∧ (sending [] true []).link.resetPending = true
      ∧ (sending [] true []).link.replies = [] ∧ (sending [] true []).bus.current = none
      ∧ (onBus (attempt (toBay0 .query .head .idle) 0) (sending [] true [])).link = (sending [] true []).link :=
  ⟨rfl, fun _ _ => ⟨rfl, rfl⟩, fun _ => ⟨rfl, rfl, nofun⟩, rfl, rfl, rfl, rfl, rfl, rfl⟩

/-- A calm case with a LOAD waiting to arrive. -/
def loadWaits : State := { case1 (bayIn .idle) with pending := [.load (hdr 0) []] }

theorem loadWaits_steps : ∃ t, step loadWaits = .next t := by
  have h : answersNext (.load (hdr 0) []) (case1 (bayIn .idle)) = true := by decide +kernel
  show ∃ t, exec (.load (hdr 0) []) (case1 (bayIn .idle)) = .next t
  unfold answersNext at h
  split at h
  · exact ⟨_, by assumption⟩
  · cases h

theorem test_hyp_StepKeepsTheBooksBalanced : loadWaits.Balanced ∧ ∃ t, step loadWaits = .next t :=
  ⟨balanced_of (by decide +kernel), loadWaits_steps⟩

theorem test_hyp_StepKeepsTheQueues :
    loadWaits.notices.WellKept ∧ loadWaits.QueuesFit ∧ loadWaits.ExchangesStandSingly ∧ ∃ t, step loadWaits = .next t :=
  ⟨⟨by decide, List.Pairwise.nil⟩, by unfold State.QueuesFit; decide +kernel,
   singly_of (by decide +kernel), loadWaits_steps⟩

theorem test_hyp_StepKeepsTheLevelsTheFlagAndTheLine :
    loadWaits.LevelsHold ∧ loadWaits.CopiesHold ∧ loadWaits.FlagFollows ∧ loadWaits.LineFollows ∧ ∃ t, step loadWaits = .next t :=
  ⟨⟨by decide +kernel, rfl⟩, by unfold State.CopiesHold; decide +kernel, by unfold State.FlagFollows; decide +kernel,
   by unfold State.LineFollows; decide +kernel, loadWaits_steps⟩

/-- A SPIN-UP waits in Admitting behind a closed stagger, and its expiry is due. -/
def admitting : State :=
  let s := case1 { bayIn .off with
    queue := [{ kind := .spinUp, origin := .upstream 1 7 none, payload := [], phase := .admitting, wait := some 1000 }] }
  { s with adm := { s.adm with queue := [{ bay := 0, kind := .spinUp }], lastSpin := some 0, staggerDue := some 1000 } }

theorem test_hyp_StepKeepsTheAdmissionQueue :
    ({ admitting with pending := [.staggerExpiry] } : State).AdmissionConsistent ∧ answersNext .staggerExpiry admitting = true := by
  refine ⟨⟨List.pairwise_singleton _ _, fun e he => ?_⟩, by decide +kernel⟩
  rw [show e = { bay := 0, kind := .spinUp } from List.mem_singleton.mp he]
  exact ⟨_, rfl, rfl, rfl⟩

/-- The case with sensor 3 disabled, as its table write leaves it. -/
def oneDisabled : State := after (.tableWriteSensor (hdr 0x7F) [3, 0, 2]) loadWaits

theorem test_hyp_StepKeepsTheSettingsAndTheSensors :
    oneDisabled.ProfilesNormalized ∧ oneDisabled.SupplyHolds ∧ oneDisabled.SomeManager ∧ oneDisabled.sensors[3].enabled = false
      ∧ oneDisabled.DisabledSensorsRest ∧ oneDisabled.VibrationSumsHold ∧ answersNext (.load (hdr 0) []) oneDisabled = true :=
  ⟨by unfold State.ProfilesNormalized Profile.Normalized; decide +kernel, by unfold State.SupplyHolds; decide +kernel,
   ⟨0, by decide +kernel⟩, by decide +kernel, by unfold State.DisabledSensorsRest; decide +kernel,
   by unfold State.VibrationSumsHold; decide +kernel, by decide +kernel⟩

/-! ### Hypotheses met: rules for all commands and the arithmetic -/

/-- A captured fault and a set latch. -/
def faulted : State :=
  { case1 (bayIn .idle) with
    ffr := some { subject := .bay 0, cause := .drive, secondary := 42, work := .none, time := 9, later := 255 }
    latch := some { sensor := 0, height := 441, time := 9 } }

theorem test_hyp_TheFirstFaultAndTheLatchStay :
    faulted.ffr.isSome = true ∧ faulted.latch.isSome = true ∧ (Instr.fault (frame0 0x31 [42])).mayReset = false
      ∧ (∀ h p, Instr.fault (frame0 0x31 [42]) ≠ .faultRelease h p) ∧ ∀ h p, Instr.fault (frame0 0x31 [42]) ≠ .motionResume h p :=
  ⟨rfl, rfl, rfl, fun _ _ => nofun, fun _ _ => nofun⟩

theorem test_hyp_OnlyTableWritesChangeTables :
    Instr.transmissionEnd.mayWriteTables = false ∧ (Instr.supplySet (hdr 0x7F) [0, 0, 0]).mayWriteTables = false := by decide

theorem test_hyp_HoldersChangeOnlyByTheirRequests :
    (Instr.presenceRemoved 0x20 [2] (stationCheck 0x20 0x32 [2])).mayReset = false ∧ (∀ h p, Instr.presenceRemoved 0x20 [2] (stationCheck 0x20 0x32 [2]) ≠ .reserve h p)
      ∧ (∀ h p, Instr.presenceRemoved 0x20 [2] (stationCheck 0x20 0x32 [2]) ≠ .release h p) ∧ ∀ h p, Instr.presenceRemoved 0x20 [2] (stationCheck 0x20 0x32 [2]) ≠ .reservationsClear h p :=
  ⟨rfl, fun _ _ => nofun, fun _ _ => nofun, fun _ _ => nofun⟩

theorem test_hyp_R84SampleTestsAndR94Tilted :
    (-32768 ≤ (-32768 : Int) ∧ (-32768 : Int) ≤ 32767) ∧ 1024 ≤ { Thresholds.default with highG := 1024 }.highG
      ∧ { Thresholds.default with lowG := 1023 }.lowG ≤ 1023 ∧ { SensorRecord.reset with tiltRun := 65534 }.tiltRun < 65535
      ∧ SensorRecord.reset.untiltRun < 65535 ∧ SensorRecord.reset.conds.tilted = false
      ∧ { SensorRecord.reset with conds := { Conditions.clear with tilted := true } }.conds.tilted = true := by decide

theorem test_hyp_FallsAreClassifiedAndJoltsAssert :
    (SensorRecord.reset.highRun < 65535 ∧ SensorRecord.reset.conds.falling = false)
      ∧ ({ SensorRecord.reset with lowRun := 4 }.lowRun < 65535 ∧ { SensorRecord.reset with lowRun := 4 }.lowRun + 1 < Thresholds.default.nLow)
      ∧ Thresholds.default.nLow ≤ { SensorRecord.reset with lowRun := 5 }.lowRun + 1
      ∧ { SensorRecord.reset with conds := { Conditions.clear with falling := true } }.conds.falling = true
      ∧ { SensorRecord.reset with fallStart := some 1000 }.fallStart = some 1000
      ∧ (99 < State.reset.thresholds.fallMin ∧ State.reset.thresholds.fallMin ≤ 100 ∧ 1500 ≤ State.reset.thresholds.fallMax
          ∧ State.reset.thresholds.fallMax < 1501) := by decide +kernel

theorem test_hyp_VibrationAndRolling :
    SensorRecord.reset.window = 0 :: List.replicate 15 0 ∧ SensorRecord.reset.conds.rolling = false
      ∧ { SensorRecord.reset with conds := { Conditions.clear with rolling := true } }.conds.rolling = true := by decide

/-- Motion copies with sensor 1 as given and the others disabled. -/
def copyOf (c : MotionCopy) (latch : Bool) : Protection :=
  { State.reset.prot with copies := #v[⟨false, .clear⟩, c, ⟨false, .clear⟩, ⟨false, .clear⟩], latchCopy := latch }

/-- The reset state after an impact was handed over. -/
def latched : State :=
  { State.reset with
    latch := some { sensor := 0, height := 441, time := 0 }
    prot := { State.reset.prot with latchCopy := true, levels := { sensor := Vector.replicate 4 6, all := 6 } } }

theorem test_hyp_R103LevelsAndTheZonesAboveThem :
    (∀ (c : MotionCopy) (l : Bool), (copyOf c l).map = State.reset.prot.map ∧ (copyOf c l).copies[0].enabled = false
        ∧ (copyOf c l).copies[2].enabled = false ∧ (copyOf c l).copies[3].enabled = false ∧ (copyOf c l).copies[1] = c
        ∧ (copyOf c l).latchCopy = l)
      ∧ latched.LevelsHold ∧ latched.latch.isSome = true ∧ (∀ i : SensorId, State.reset.prot.copies[i].enabled = true)
      ∧ latched.timing.alertMask.getLsbD 0 = true ∧ latched.timing.alertThreshold ≤ latched.caseLevel.val :=
  ⟨fun _ _ => ⟨rfl, rfl, rfl, rfl, rfl, rfl⟩, ⟨by decide +kernel, rfl⟩, rfl, by decide +kernel, by decide, by decide +kernel⟩

/-- The example table of R108. -/
def exampleActions : Protection :=
  { State.reset.prot with
    actions := #v[⟨.none, true, true⟩, ⟨.none, false, true⟩, ⟨.none, true, true⟩, ⟨.park, true, true⟩, ⟨.unload, true, false⟩,
                  ⟨.none, true, true⟩, ⟨.park, false, false⟩, ⟨.park, false, false⟩] }

theorem test_hyp_R108ActionsAndPermits :
    (0 : Level).val ≤ (7 : Level).val ∧ exampleActions.permits 1 .load = false ∧ exampleActions.actions[1] = ⟨.none, false, true⟩ := by
  decide

theorem test_hyp_ProfilesLimitsAndWindows :
    Profile.default.Normalized ∧ 60000 ≤ 60000 ∧ 50 ≤ 50 ∧ ∃ w, windowFrom [1, 1, 31, 200, 15] = some w :=
  ⟨by unfold Profile.Normalized; decide, by decide, by decide, _, rfl⟩

/-- A notice queue with this many places taken, all by different bays or sensors. -/
def noticesFull : NoticeQueue :=
  { State.reset.notices with
    queue := allBays.map (fun b => .bay b .idle 800 0)
      ++ [.budget true 0 0 0, .survey 0 0, .impact 0 0 0, .retry 0 0 0 0, .retry 1 0 0 0, .retry 2 0 0 0, .retry 3 0 0 0, .retry 4 0 0 0] }

theorem test_hyp_StateChangesAndTheirNotices :
    ((State.reset.bay 0).state = .unknown ∧ (State.reset.bay 0).state ≠ .off ∧ State.reset.Balanced)
      ∧ (State.reset.notices.routing[(Notice.dip 0 99 0).kind] = false)
      ∧ noticesFull.WellKept ∧ noticesFull.queue.length = 32
      ∧ noticesFull.routing[(Notice.bay 0 .off 0 1).kind] = true
      ∧ noticesFull.queue = [] ++ Notice.bay 0 .idle 800 0 :: noticesFull.queue.tail
      ∧ (Notice.bay 0 .off 0 1).sameSubject (.bay 0 .idle 800 0) = true
      ∧ noticesFull.routing[(Notice.retry 5 16 16 1).kind] = true
      ∧ (∀ m ∈ noticesFull.queue, (Notice.retry 5 16 16 1).sameSubject m = false)
      ∧ State.reset.notices.queue.length < 32 ∧ ∀ m ∈ State.reset.notices.queue, (Notice.retry 5 16 16 1).sameSubject m = false := by
  refine ⟨⟨rfl, by decide +kernel, balanced_of (by decide +kernel)⟩, by decide, ⟨by decide, ?_⟩, by decide +kernel⟩
  decide +kernel

theorem test_hyp_AdmissionKeepsWithinTheLimit :
    admitting.adm.queue = [{ bay := 0, kind := .spinUp }] ∧ admitting.admits { bay := 0, kind := .spinUp } = false
      ∧ (admitting.bay 0).queue.length = 1 ∧ (admitting.bay 0).state ≠ AdmKind.spinUp.state
      ∧ admitting.queuedFor 0 = false ∧ admitting.currentFor 0 = false
      ∧ ({ admitting with adm := { admitting.adm with staggerDue := none } } : State).admits { bay := 0, kind := .spinUp } = true := by
  decide +kernel

/-! ### Hypotheses met: requests to bays -/

theorem test_hyp_UnloadAndSpinDownStart :
    (∀ st, (case1 (bayIn st)).FreeBay 0 ∧ (case1 (bayIn st)).Hears (hdr 0) (.bay 0) 1)
      ∧ (case1 (bayIn .loaded)).accessFailure .unload 1 0 = none ∧ headCheck .unload .loaded = .issue .unload
      ∧ startState .unload .loaded = some .unloading
      ∧ (case1 (bayIn .faulted)).accessFailure .spinDown 1 0 = none ∧ headCheck .spinDown .faulted = .issue .stop
      ∧ startState .stop .faulted = some .faulted :=
  ⟨fun st => ⟨case1_free st, (case1_hears st).1⟩, by decide +kernel⟩

theorem test_hyp_SpinUpAndLoadAreAdmitted :
    (∀ st, (case1 (bayIn st)).FreeBay 0 ∧ (case1 (bayIn st)).Hears (hdr 0) (.bay 0) 1)
      ∧ (case1 (bayIn .off)).accessFailure .spinUp 1 0 = none ∧ headCheck .spinUp .off = .permit .spinUp
      ∧ (case1 (bayIn .off)).permits 0 .spinUp = true ∧ (case1 (bayIn .off)).admits { bay := 0, kind := .spinUp } = true
      ∧ (case1 (bayIn .idle)).accessFailure .load 1 0 = none ∧ headCheck .load .idle = .permit .load
      ∧ (case1 (bayIn .idle)).permits 0 .load = true ∧ (case1 (bayIn .idle)).admits { bay := 0, kind := .load } = true :=
  ⟨fun st => ⟨case1_free st, (case1_hears st).1⟩, by decide +kernel⟩

/-- The quiet case with every zone at a level. -/
def atLevel (l : Level) (st : BayState) : State :=
  let s := case1 (bayIn st)
  { s with prot := { s.prot with levels := { sensor := Vector.replicate 4 l, all := l } } }

/-- The quiet case with a stagger that is closed. -/
def staggered : State :=
  let s := case1 (bayIn .off)
  { s with adm := { s.adm with lastSpin := some 999, staggerDue := some 2499 } }

theorem test_hyp_SpinUpAndLoadWait :
    ((atLevel 2 .idle).FreeBay 0 ∧ (atLevel 2 .idle).Hears (hdr 0) (.bay 0) 1 ∧ headCheck .load .idle = .permit .load
        ∧ (atLevel 2 .idle).permits 0 .load = false)
      ∧ (staggered.FreeBay 0 ∧ staggered.Hears (hdr 0) (.bay 0) 1 ∧ headCheck .spinUp .off = .permit .spinUp
        ∧ staggered.permits 0 .spinUp = true ∧ staggered.admits { bay := 0, kind := .spinUp } = false)
      ∧ (case1 (bayIn .spinning)).FreeBay 0 ∧ headCheck .load .spinning = .hold
      ∧ ((atLevel 2 .idle).accessFailure .load 1 0 = none ∧ staggered.accessFailure .spinUp 1 0 = none
        ∧ (case1 (bayIn .spinning)).accessFailure .load 1 0 = none)
      ∧ (let s := fun n => case1 { bayIn .idle with queue := List.replicate n barrier7, restoreIntent := true };
        (s 1).Resting ∧ (s 3).Resting ∧ (s 1).Hears (hdr 0) (.bay 0) 1 ∧ (s 3).Hears (hdr 0) (.bay 0) 1
          ∧ ((s 1).bay 0).queue ≠ [] ∧ ((s 3).bay 0).queue.length < 4 ∧ ∀ k, (s 1).accessFailure k 1 0 = none) :=
  have r (st : BayState) := case1_free st
  ⟨⟨⟨⟨⟨rfl, rfl, (r .idle).waiting, rfl, (r .idle).flag⟩, rfl, rfl, rfl⟩, (r .idle).balanced, rfl, rfl⟩, hears_of (by decide +kernel),
    by decide +kernel⟩,
   ⟨⟨⟨⟨rfl, rfl, (r .off).waiting, rfl, (r .off).flag⟩, rfl, rfl, rfl⟩, (r .off).balanced, rfl, rfl⟩, hears_of (by decide +kernel),
    by decide +kernel⟩,
   r .spinning, rfl, by decide +kernel, case1_resting _ rfl (by decide), case1_resting _ rfl (by decide), hears_of (by decide +kernel),
   hears_of (by decide +kernel), by decide +kernel, by decide +kernel, fun k => by cases k <;> decide +kernel⟩

theorem test_hyp_RequestsThatCompleteAtOnce :
    (∀ st, (case1 (bayIn st)).FreeBay 0 ∧ (case1 (bayIn st)).Hears (hdr 0) (.bay 0) 1)
      ∧ (case1 (bayIn .idle)).accessFailure .spinUp 1 0 = none
      ∧ headCheck .spinUp .idle = .complete { code := .already, secondary := 0 }
      ∧ (case1 (bayIn .idle)).accessFailure .barrier 1 0 = none
      ∧ headCheck .barrier .idle = .complete { code := .done, secondary := 0 } :=
  ⟨fun st => ⟨case1_free st, (case1_hears st).1⟩, by decide +kernel⟩

/-- Bay 0 Idle with a report of this age. -/
def cachedAt (time : Count) : BayRecord :=
  { bayIn .idle with cache := some { report := { present := true, condition := 2, code := 0 }, time := time } }

theorem test_hyp_StatusAndPassAreServed :
    (case1 (bayIn .idle)).FreeBay 0 ∧ (case1 (bayIn .idle)).Hears (hdr 0) (.bay 0) 1
      ∧ (case1 (bayIn .idle)).accessFailure .status 1 0 = none ∧ (case1 (bayIn .idle)).freshCache 0 = none
      ∧ (case1 (bayIn .idle)).accessFailure .pass 1 0 = none ∧ (List.replicate 32 (0 : Byte)).length ≤ 32
      ∧ (case1 (cachedAt 500)).Resting ∧ (case1 (cachedAt 500)).Hears (hdr 0) (.bay 0) 1
      ∧ (case1 (cachedAt 500)).accessFailure .status 1 0 = none ∧ Timing.default.freshness ≠ 0
      ∧ ((1000 : Count) - 500).toNat ≤ Timing.default.freshness :=
  ⟨case1_free .idle, (case1_hears .idle).1, by decide +kernel, by decide +kernel, by decide +kernel, by decide,
   case1_resting _ rfl (by decide), hears_of (by decide +kernel), by decide +kernel, by decide, by decide⟩

/-- The quiet case with one window, which source 1 does not stand in. -/
def windowed : State :=
  let s := case1 (bayIn .idle)
  { s with windows := s.windows.set 0 { enabled := true, sources := 1, base := 0, span := 31, perms := 15 } }

theorem test_hyp_RequestsThatFailACheckAreAnswered :
    (State.reset.Hears (hdr 0) (.bay 0) 1 ∧ State.reset.survey.running = true
        ∧ (Instr.load (hdr 0) []).frame = some (some (.queued .load), hdr 0, []) ∧ (ReqTarget.bay 0) ≠ .part)
      ∧ ((case1 (bayIn .idle)).placeFree = true ∧ (case1 (bayIn .idle)).survey.running = false ∧ targetOf 0x7F = some .part)
      ∧ (targetOf 0x7E = none ∧ (Instr.load (hdr 0x7E) []).frame = some (some (.queued .load), hdr 0x7E, [])
        ∧ (Instr.softReset (hdr 0) []).frame = some (some (.management .softReset), hdr 0, []) ∧ targetOf 0 = some (.bay 0)
        ∧ (Instr.reserve (hdr 0x7F) []).frame = some (some .reserve, hdr 0x7F, [])
        ∧ (Instr.status (hdr 0x40) []).frame = some (some (.queued .status), hdr 0x40, []) ∧ targetOf 0x40 = some (.row 0)
        ∧ ∀ b, ReqTarget.row 0 ≠ .bay b)
      ∧ (targetOf 0x17 = some (.bay 23) ∧ 8 ≤ ({ hdr 0x17 with source := 8 } : Header).source.toNat
        ∧ (Instr.pass { hdr 0x17 with source := 8 } []).frame = some (some (.queued .pass), { hdr 0x17 with source := 8 }, []))
      ∧ ((case1 (bayIn .idle)).Hears (hdr 0) (.bay 0) 1 ∧ 32 < (List.replicate 33 (0 : Byte)).length
        ∧ (List.replicate 33 (0 : Byte)).length ≤ 64 ∧ (case1 (bayIn .idle)).Hears (hdr 0x4F) .all 1
        ∧ (case1 (bayIn .idle)).Hears (hdr 0x45) (.row 5) 1
        ∧ (Instr.reserve (hdr 0x45) [0]).frame = some (some .reserve, hdr 0x45, [0])
        ∧ (Instr.barrier (hdr 0x4F) [0]).frame = some (some (.queued .barrier), hdr 0x4F, [0])
        ∧ (∀ m, FrameKind.reserve ≠ .management m) ∧ ∀ m, FrameKind.queued .barrier ≠ .management m)
      ∧ (windowed.Resting ∧ windowed.Hears (hdr 0) (.bay 0) 1 ∧ windowed.windowAllows 1 ReqKind.load.permission 0 = false)
      ∧ ((case1 { bayIn .idle with holder := some 2 }).Resting ∧ (case1 { bayIn .idle with holder := some 2 }).Hears (hdr 0) (.bay 0) 1
        ∧ (case1 { bayIn .idle with holder := some 2 }).windowAllows 1 ReqKind.load.permission 0 = true ∧ (2 : Source) ≠ 1)
      ∧ ((case1 (bayIn .empty)).Resting ∧ (case1 (bayIn .empty)).windowAllows 1 ReqKind.status.permission 0 = true
        ∧ (case1 (bayIn .empty)).freshCache 0 = none)
      ∧ ((case1 { bayIn .idle with queue := List.replicate 4 barrier7 }).Resting
        ∧ (case1 { bayIn .idle with queue := List.replicate 4 barrier7 }).Hears (hdr 0) (.bay 0) 1
        ∧ (case1 { bayIn .idle with queue := List.replicate 4 barrier7 }).windowAllows 1 ReqKind.load.permission 0 = true) := by
  have r (st : BayState) := (case1_free st).toResting
  refine ⟨⟨hears_of (by decide +kernel), rfl, rfl, by decide⟩, by decide +kernel, by decide +kernel, by decide +kernel,
    ⟨(case1_hears .idle).1, by decide, by decide, (case1_hears .idle).2.1, hears_of (by decide +kernel), rfl, rfl, nofun, nofun⟩,
    ⟨⟨⟨rfl, rfl, (r .idle).waiting, rfl, (r .idle).flag⟩, rfl, rfl, rfl⟩, hears_of (by decide +kernel), by decide +kernel⟩,
    ⟨case1_resting _ rfl (by decide), hears_of (by decide +kernel), by decide +kernel, by decide⟩,
    ⟨r .empty, by decide +kernel, by decide +kernel⟩,
    ⟨case1_resting _ rfl (by decide), hears_of (by decide +kernel), by decide +kernel⟩⟩

/-- The quiet case with every group record in use. -/
def allGroups : State :=
  { case1 (bayIn .idle) with groups := Vector.replicate 8 (some { tag := 7, members := [], outstanding := 1 }) }

/-- Row 0 with bay 0 as given, a BARRIER in bay 1, bay 2 Loaded and bay 3 Spinning. -/
def mixedRow (r : BayRecord) : State :=
  let s := case1 r
  { s with bays := ((s.bays.set 1 { bayIn .idle with queue := [barrier7] }).set 2 (bayIn .loaded)).set 3 (bayIn .spinning) }

/-- Row 0 with its four bays Loaded. -/
def loadedRow : State :=
  let s := case1 (bayIn .loaded)
  { s with bays := ((s.bays.set 1 (bayIn .loaded)).set 2 (bayIn .loaded)).set 3 (bayIn .loaded), adm := { s.adm with committed := 4000 } }

/-- Row 0's record with bay 0 pending, and with another one where `more`. -/
def rowRecord (more : Bool) : GroupRecord :=
  { tag := 7, outstanding := if more then 2 else 1
    members := [{ bay := 0, result := none }, { bay := 1, result := if more then none else some (.plain .done) },
                { bay := 2, result := some (.plain .already) }, { bay := 3, result := some (.plain .denied) }] }

/-- A request of the member for bay 0 of the record with index 2. -/
def member (k : ReqKind) (p : Phase) : Request :=
  { kind := k, origin := .upstream 1 7 (some 2), payload := [], phase := p, wait := some 1000 }

/-- Bay 0 in a state with this member, the record in use. -/
def inGroup (st : BayState) (r : Request) (more : Bool) : State :=
  let s := case1 { bayIn st with queue := [r] }
  { s with groups := s.groups.set 2 (some (rowRecord more)) }

theorem row_0 (p : Bay → Prop) (h : p 0 ∧ p 1 ∧ p 2 ∧ p 3) : ∀ b ∈ targetBays (.row 0), p b := by
  rw [show targetBays (.row 0) = [0, 1, 2, 3] from rfl]
  simpa using h

theorem test_hyp_GroupRequestsAnswerForEveryMember :
    ((case1 (bayIn .empty)).Resting ∧ (case1 (bayIn .empty)).Hears (hdr 0x4F) .all 1
        ∧ ∀ b ∈ targetBays .all, (case1 (bayIn .empty)).memberFailure .load 1 b = some { code := .bayEmpty, secondary := 0 })
      ∧ (allGroups.Resting ∧ allGroups.Hears (hdr 0x4F) .all 1 ∧ ∀ g : Fin 8, allGroups.groups[g] ≠ none)
      ∧ ((State.reset.groups[0] = none)
        ∧ ∀ b ∈ targetBays (.row 5), State.reset.memberFailure .barrier 1 b = none ∧ (State.reset.bay b).queue = []
          ∧ (State.reset.bay b).slot = none)
      ∧ ({ State.reset with survey := { running := false, settle := none } } : State).Resting
      ∧ ({ State.reset with survey := { running := false, settle := none } } : State).Hears (hdr 0x45) (.row 5) 1 :=
  ⟨⟨(case1_free .empty).toResting, (case1_hears .empty).2.1, by decide +kernel⟩,
   ⟨resting_of (by decide +kernel) (by decide), hears_of (by decide +kernel), by decide +kernel⟩, by decide +kernel,
   resting_of (by decide +kernel) (by decide), hears_of (by decide +kernel)⟩

/-- A LOAD to a row: bay 0 fails a check, bay 1 is queued behind others, bay 2 completes Already, bay 3 is held. -/
theorem test_hyp_GroupRequests_pending :
    (mixedRow (bayIn .empty)).Resting ∧ (mixedRow (bayIn .empty)).Hears (hdr 0x40) (.row 0) 1
      ∧ (mixedRow (bayIn .empty)).groups[0] = none
      ∧ ∀ b ∈ targetBays (.row 0), ∃ result entry, (mixedRow (bayIn .empty)).MemberGets .load 1 b result entry []
        ∧ (result = none ↔ b = 1 ∨ b = 3) :=
  ⟨resting_of (by decide +kernel) (by decide), hears_of (by decide +kernel), rfl,
   row_0 _ ⟨⟨_, none, .inl ⟨⟨.plain .bayEmpty, by decide +kernel, rfl⟩, rfl, rfl⟩, by decide⟩,
     ⟨none, _, .inr ⟨by decide +kernel, .inl ⟨by decide +kernel, rfl, rfl, rfl⟩⟩, by decide⟩,
     ⟨_, none, .inr ⟨by decide +kernel, .inr (.inl ⟨rfl, ⟨.plain .already, ⟨rfl, rfl⟩, rfl⟩, rfl, rfl⟩)⟩, by decide⟩,
     ⟨none, _, .inr ⟨by decide +kernel, .inr (.inr ⟨rfl, rfl, .checking, .inl ⟨.inr rfl, rfl, rfl⟩, rfl⟩)⟩, by decide⟩⟩⟩

/-- SPIN-UP at a closed stagger waits in Admitting; UNLOAD to four Loaded bays issues each; the ends of a member. -/
theorem test_hyp_GroupRequests_members :
    (staggered.HeadWaits 0 .spinUp .admitting [{ bay := 0, kind := .spinUp }] ∧ (atLevel 2 .idle).HeadWaits 0 .load .deferred [])
      ∧ (loadedRow.Resting ∧ loadedRow.Balanced ∧ loadedRow.Hears (hdr 0x40) (.row 0) 1 ∧ targetBays (.row 0) = 0 :: [1, 2, 3]
        ∧ (∀ b ∈ targetBays (.row 0), loadedRow.memberFailure .unload 1 b = none ∧ (loadedRow.bay b).queue = []
          ∧ (loadedRow.bay b).slot = none ∧ headCheck .unload (loadedRow.bay b).state = .issue .unload)
        ∧ startState .unload .loaded = some .unloading)
      ∧ (∀ more, (inGroup .idle (member .load .deferred) more).BusRests
        ∧ (inGroup .idle (member .load .deferred) more).WaitedFor 0 (member .load .deferred) 1
        ∧ (inGroup .idle (member .load .deferred) more).groups[2] = some (rowRecord more))
      ∧ (∀ more, (inGroup .loading (member .load .issued) more).Resting ∧ (inGroup .loading (member .load .issued) more).Balanced
        ∧ (inGroup .loading (member .load .issued) more).expires (member .load .deferred).wait = true
        ∧ ReqKind.load.goalOf .loading = true
        ∧ completionState .loading .headsLoaded = some .loaded) := by
  refine ⟨⟨.inr ⟨rfl, .spinUp, rfl, .inr (by decide +kernel)⟩, .inr ⟨rfl, .load, rfl, .inl (by decide +kernel)⟩⟩,
    ⟨resting_of (by decide +kernel) (by decide), balanced_of (by decide +kernel), hears_of (by decide +kernel), rfl,
     by decide +kernel, rfl⟩,
    fun more => ⟨⟨rfl, rfl, rfl, rfl, rfl, ?_, ?_⟩, .inl ⟨rfl, rfl, rfl⟩, ?_⟩,
    fun more => ⟨resting_of ?_ ?_, balanced_of ?_, ?_, rfl, rfl⟩⟩ <;> cases more <;>
  first
  | decide +kernel
  | (unfold State.FlagFollows; decide +kernel)

theorem test_hyp_ReserveAndReleaseAreDecidedAtOnce :
    (case1 (bayIn .idle)).Hears (hdr 0x4F) .all 1 ∧ ReqTarget.all ≠ .part ∧ (case1 (bayIn .idle)).survey.running = false
      ∧ (case1 { bayIn .idle with holder := some 2 }).windowAllows 1 2 0 = true
      ∧ (case1 { bayIn .idle with holder := some 2 }).bay 0 = { bayIn .idle with holder := some 2 } ∧ (2 : Source) ≠ 1
      ∧ ((case1 (bayIn .idle)).bay 0).holder = none ∧ ((case1 (bayIn .idle)).bay 1).state = .empty
      ∧ windowed.windowAllows 1 2 0 = false :=
  ⟨(case1_hears .idle).2.1, by decide, rfl, by decide +kernel⟩

/-! ### Hypotheses met: the link and management -/

/-- The quiet case with a receiver. -/
def receiving (rx : Receiver) : State :=
  let s := case1 (bayIn .idle)
  { s with link := { s.link with rx := rx, gap := some 1005 } }

theorem test_hyp_FramesAreReceivedOrDropped :
    ((let s : State := { State.reset with now := 5, link := { State.reset.link with rx := .inFrame [], gap := some 5 } };
        s.expires s.link.gap = true) ∧ State.reset.expires State.reset.link.gap = false
        ∧ (sending [] true []).link.resetPending = true
        ∧ (sending (List.replicate 128 reply7) false []).placeFree = false ∧ 64 < (List.replicate 65 (0 : Byte)).length
        ∧ (Instr.spinUp (hdr 0) []).frame = some (some (.queued .spinUp), hdr 0, []))
      ∧ State.reset.link.rx = .hunting ∧ (receiving (.inFrame [])).link.rx = .inFrame [] ∧ 64 < (65 : Byte).toNat ∧ (64 : Byte).toNat ≤ 64
      ∧ ((receiving (.inFrame [0, 0])).link.rx = .inFrame (0 :: [0]) ∧ [(0 : Byte)].length + 2 ≠ (0 : Byte).toNat + 7)
      ∧ ((receiving (.inFrame (0 :: [0, 1, 1, 7] ++ [0]))).link.rx = .inFrame (0 :: [0, 1, 1, 7] ++ [0])
        ∧ [(0 : Byte), 1, 1, 7].length = (0 : Byte).toNat + 4 ∧ [(0 : Byte), 0] ≠ crcBytes (0 :: [0, 1, 1, 7]))
      ∧ ((Instr.spinUp (hdr 0) []).frame = some (frameKindOf 1, hdr 0, [])
        ∧ ∃ lo x, [lo, x] = crcBytes ([byte 0, 0, 1, 1, 7] ++ [])) :=
  ⟨by decide +kernel, rfl, rfl, by decide, by decide, ⟨rfl, by decide⟩, ⟨rfl, by decide, by decide +kernel⟩, ⟨rfl, _, _, rfl⟩⟩

theorem test_hyp_PlainTableWritesStoreAndAnswer :
    (case1 (bayIn .idle)).HearsManager (hdr 0x7F) 1 ∧ (List.replicate 26 (0 : Byte)).length = 26
      ∧ (∃ w, windowFrom [1, 0xFF, 31, 31, 15] = some w) ∧ (∃ j : Fin 8, ((case1 (bayIn .idle)).sources.set 7 (lenient 0))[j] = true)
      ∧ (∀ j : Fin 8, ((Vector.replicate 8 false).set 7 (lenient 0))[j] = false)
      ∧ ({ case1 (bayIn .idle) with sources := (Vector.replicate 8 false).set 1 true } : State).HearsManager (hdr 0x7F) 1
      ∧ ∀ j : Fin 8, (((Vector.replicate 8 false).set 1 true).set 1 (lenient 0))[j] = false :=
  ⟨(case1_hears .idle).2.2, by decide, ⟨_, rfl⟩, by decide +kernel, by decide, ⟨hears_of (by decide +kernel), by decide +kernel⟩, by decide⟩

theorem test_hyp_ProfileAndAssignmentWritesRebook :
    (case1 (bayIn .loaded)).HearsManager (hdr 0x7F) 1 ∧ (case1 (bayIn .loaded)).Resting ∧ (case1 (bayIn .loaded)).Balanced
      ∧ (List.replicate 18 (0 : Byte)).length = 18
      ∧ (case1 (bayIn .loaded)).prot.levels.of (.sensor 3) = (case1 (bayIn .loaded)).level 0
      ∧ ((case1 (bayIn .loaded)).bay 23).state = .empty :=
  ⟨(case1_hears .loaded).2.2, (case1_free .loaded).toResting, (case1_free .loaded).balanced, by decide, by decide +kernel, by decide +kernel⟩

theorem test_hyp_LevelAndTimingTableWrites :
    (case1 (bayIn .loaded)).HearsManager (hdr 0x7F) 1 ∧ (case1 (bayIn .loaded)).Calm ∧ (7 : Level).val = min (255 : Byte).toNat 7
      ∧ (List.replicate 15 (0 : Byte)).length = 15 := ⟨(case1_hears .loaded).2.2, case1_calm .loaded, by decide⟩

/-- The quiet case with sensor 0 falling. -/
def falling0 : State :=
  let s := case1 (bayIn .idle)
  { s with sensors := s.sensors.set 0 { SensorRecord.reset with conds := { Conditions.clear with falling := true }, fallStart := some 9 } }

/-- The quiet case with bay 0 Off and sensor 0 falling or not. -/
def spunDown (falling : Bool) : State :=
  let s := case1 (bayIn .off)
  { s with sensors := s.sensors.set 0 { SensorRecord.reset with conds := { Conditions.clear with falling := falling }, lastHigh := some 3 } }

theorem test_hyp_SensorWriteEnablesDisablesAndAsksForTheRate :
    falling0.HearsManager (hdr 0x7F) 1 ∧ Rate.hz800 ≠ falling0.sensors[0].tableRate ∧ falling0.sensors[0].conds.falling = true ∧ falling0.Resting
      ∧ lenient 2 = falling0.sensors[1].enabled ∧ Rate.hz400 = falling0.sensors[1].tableRate ∧ falling0.sensors[1].enabled = true
      ∧ oneDisabled.sensors[3].enabled = false ∧ oneDisabled.HearsManager (hdr 0x7F) 1 ∧ (case1 (bayIn .idle)).Resting
      ∧ (case1 (bayIn .idle)).sensors[0].conds.falling = false
      ∧ (∀ falling, (spunDown falling).HearsManager (hdr 0x7F) 1 ∧ (spunDown falling).Calm
        ∧ (∀ b, ((spunDown falling).bay b).state = .off ∨ ((spunDown falling).bay b).state = .empty) ∧ lenient 0 = false
        ∧ (spunDown falling).sensors[0].enabled = true ∧ Rate.hz400 = (spunDown falling).sensors[0].tableRate
        ∧ (spunDown falling).sensors[0].conds.falling = falling)
      ∧ Rate.hz400 = oneDisabled.sensors[3].tableRate ∧ lenient 1 = true := by
  refine ⟨⟨hears_of (by decide +kernel), by decide +kernel⟩, by decide +kernel, rfl,
    resting_of (by decide +kernel) (by decide), by decide +kernel, by decide +kernel, rfl,
    by decide +kernel, ⟨hears_of (by decide +kernel), by decide +kernel⟩, (case1_free .idle).toResting, rfl,
    fun falling => ⟨hearsManager_of ?_, calm_of ?_, ?_, rfl, rfl, rfl, rfl⟩, by decide +kernel, rfl⟩ <;>
  cases falling <;> decide +kernel

theorem test_hyp_LayoutsOfTablesRecordsAndFrames :
    (List.replicate 18 (0 : Byte)).length = 18 ∧ (List.replicate 26 (0 : Byte)).length = 26 ∧ (List.replicate 15 (0 : Byte)).length = 15
      ∧ SensorRecord.reset.window.length = 16 ∧ 10 < (11 : Byte).toNat ∧ 4 < (5 : Byte).toNat ∧ [(2 : Byte)].length < 2
      ∧ tableLength ([0, 0].getD 0 0) = none ∧ tableLength ([2, 23, 0, 0].getD 0 0) = some 2 ∧ recordCount ([5, 0].getD 0 0) = 0 := by
  decide

theorem test_hyp_ReadsAnswerAndChangeNothing :
    (case1 (bayIn .idle)).HearsManager (hdr 0x7F) 1 ∧ (23 : Byte).toNat < tableEntries 2 ∧ (0 : Byte).toNat < tableEntries 10 :=
  ⟨(case1_hears .idle).2.2, by decide⟩

theorem test_hyp_SettingsAndClearsTakeEffect :
    ((case1 (bayIn .loaded)).HearsManager (hdr 0x7F) 1 ∧ (case1 (bayIn .loaded)).Resting
        ∧ 60000 = min ((0xFF : Byte).toNat + 256 * (0xFF : Byte).toNat) 60000 ∧ 50 = min (51 : Byte).toNat 50)
      ∧ (∀ b, ((case1 (bayIn .idle)).bay b).holder = none)
      ∧ ((case1 { bayIn .idle with holder := some 2 }).bay 0).holder.isSome = true :=
  ⟨⟨(case1_hears .loaded).2.2, (case1_free .loaded).toResting, by decide⟩, by decide +kernel, rfl⟩

/-- The quiet case with the latch set and its level handed over. -/
def impacted : State :=
  { case1 (bayIn .idle) with latch := latched.latch, prot := latched.prot, alertLine := true }

theorem test_hyp_MotionResumeClearsTheLatch :
    (falling0.HearsManager (hdr 0x7F) 1 ∧ falling0.Resting ∧ falling0.sensors[0].enabled = true)
      ∧ ((case1 (bayIn .idle)).HearsManager (hdr 0x7F) 1 ∧ (case1 (bayIn .idle)).Resting ∧ (case1 (bayIn .idle)).latch = none)
      ∧ (impacted.HearsManager (hdr 0x7F) 1 ∧ impacted.Calm ∧ impacted.latch.isSome = true ∧ impacted.LevelsHold
        ∧ ∀ j : SensorId, ¬ (impacted.sensors[j].enabled = true ∧ impacted.sensors[j].conds.falling = true)) := by
  have c := case1_calm .idle
  exact ⟨⟨⟨hears_of (by decide +kernel), by decide +kernel⟩, ⟨⟨rfl, rfl, c.waiting, rfl, c.flag⟩, rfl, rfl, rfl⟩, rfl⟩,
    ⟨(case1_hears .idle).2.2, c.toResting, rfl⟩,
    ⟨⟨hears_of (by decide +kernel), by decide +kernel⟩,
     ⟨⟨⟨rfl, rfl, c.waiting, rfl, c.flag⟩, rfl, rfl, rfl⟩, c.balanced, c.queue, c.slot, c.intent⟩, rfl,
     ⟨by decide +kernel, rfl⟩, by decide +kernel⟩⟩

/-- The quiet case in which source 1 may not manage. -/
def unmanaged : State := { case1 (bayIn .idle) with sources := (Vector.replicate 8 true).set 1 false }

theorem test_hyp_ManagementRequestsAreChecked :
    (Instr.tableRead (hdr 0x7F) [2, 24]).frame = some (some (.management .tableRead), hdr 0x7F, [2, 24])
      ∧ (case1 (bayIn .idle)).Resting ∧ (case1 (bayIn .idle)).Hears (hdr 0x7F) .part 1 ∧ (case1 (bayIn .idle)).manages 1 = true
      ∧ mgmtForm .tableRead [0] = some 4 ∧ mgmtForm .tableRead [2, 24] = none ∧ tableEntries 2 ≤ (24 : Byte).toNat
      ∧ mgmtForm .recordRead [2, 4] = none ∧ recordCount 2 ≤ (4 : Byte).toNat
      ∧ unmanaged.Resting ∧ unmanaged.Hears (hdr 0x7F) .part 1 ∧ unmanaged.manages 1 = false
      ∧ (8 ≤ (8 : Byte).toNat ∧ 5 ≤ (5 : Byte).toNat ∧ 4 ≤ (4 : Byte).toNat ∧ 1 < (2 : Byte).toNat ∧ 31 < (32 : Byte).toNat
        ∧ 15 < (16 : Byte).toNat ∧ 24 ≤ (24 : Byte).toNat ∧ (254 : Byte).toNat < 255) := by
  have c := case1_calm .idle
  exact ⟨rfl, c.toResting, (case1_hears .idle).2.2.toHears, by decide +kernel, by decide, by decide, by decide, by decide, by decide,
    ⟨⟨rfl, rfl, c.waiting, rfl, c.flag⟩, rfl, rfl, rfl⟩, hears_of (by decide +kernel), by decide +kernel, by decide⟩

/-! ### Hypotheses met: expiries -/

theorem test_hyp_CommandsThatAreNotDueDoNothing :
    let s := case1 { bayIn .loading with deadline := some { due := 1001, kind := .load, group := false } }
    (Instr.ack ack0).answerFrom = some 0x20 ∧ s.bus.current = none ∧ s.expires s.survey.settle = false
      ∧ s.expires ((s.bay 0).deadline.map (·.due)) = false ∧ s.expires ((s.head 0).bind (·.wait)) = false
      ∧ s.expires s.adm.staggerDue = false
      ∧ (∀ i : SensorId, s.expires s.sensors[i].debounceDue = false ∧ s.expires s.sensors[i].joltDue = false)
      ∧ State.reset.expires State.reset.sensors[0].blindDue = false
      ∧ s.expires (s.bus.current.bind (·.answerBy)) = false ∧ s.expires (s.bus.current.bind (·.resendAt)) = false
      ∧ s.bus.transaction ≠ .groupPark := by decide +kernel

/-- The reset part at its settle deadline, with its BUDGET notice. -/
def settling : State := { State.reset with now := 200 }

/-- The reset part with its survey's QUERYs placed: bay 0's last attempt on the bus, those of the given bays waiting their turn. -/
def surveying (rest : List Bay) : State :=
  { settling with
    survey := { running := true, settle := none }
    bus := { idleBus [] with current := some (attempt (settling.exchangeFor 0 .query .survey []) 3), transaction := .attempt
                             normal := rest.map fun d => settling.exchangeFor d .query .survey [] } }

/-- A Parking bay at its group deadline. -/
def groupParked : State :=
  case1 { bayIn .parking with deadline := some { due := 1000, kind := .park, group := true },
                              slot := some { kind := .park, level := 7, started := true, stopPhase := false, fromLoaded := true } }

theorem test_hyp_SettleAndGroupDeadlinesSendQueries :
    (settling.Unengaged ∧ settling.survey = { running := true, settle := some 200 } ∧ settling.expires (some 200) = true
        ∧ (settling.bay 0).surveyed = false)
      ∧ groupParked.Resting ∧ groupParked.expires (some 1000) = true
      ∧ (groupParked.bay 0).deadline = some { due := 1000, kind := .park, group := true } :=
  ⟨⟨unengaged_of (by decide +kernel), rfl, by decide, rfl⟩, case1_resting _ rfl (by decide), by decide, rfl⟩

/-- Bay 0 Faulted by its drive with code 42. -/
def driveFaulted : BayRecord := { bayIn .faulted with lastFault := some { cause := .drive, secondary := 42, time := 9 } }

theorem test_hyp_TimeoutsAndDriveFaultsFaultTheBay :
    (∀ p : BayRecord, p = { loadingBay with deadline := some { due := 1000, kind := .load, group := false } }
          ∨ p = { bayIn .parking with deadline := some { due := 1000, kind := .park, group := false }, slot := some (opAt .park 5 true) } →
        (case1 p).Resting ∧ (case1 p).Balanced ∧ (∃ rs w, (case1 p).Interrupts 0 .timeout rs w) ∧ (case1 p).expires (some 1000) = true)
      ∧ ((case1 loadingBay).Resting ∧ (case1 loadingBay).Balanced ∧ (∃ rs w, (case1 loadingBay).Interrupts 0 .drive rs w)
        ∧ (case1 loadingBay).Receives 0x31 (frame0 0x31 [255]) ∧ bayAt 0x20 = some 0 ∧ (255 : Byte) ≠ 0
        ∧ ((case1 loadingBay).bay 0).state ≠ .empty)
      ∧ ((case1 driveFaulted).Resting ∧ (case1 driveFaulted).Balanced ∧ (∃ rs w, (case1 driveFaulted).Interrupts 0 .drive rs w)
        ∧ (case1 driveFaulted).Receives 0x31 (frame0 0x31 [43]) ∧ (case1 driveFaulted).Receives 0x31 (frame0 0x31 [42])
        ∧ ((case1 driveFaulted).bay 0).lastFault = some { cause := .drive, secondary := (42 : Byte).toNat, time := 9 }
        ∧ (42 : Nat) ≠ (43 : Byte).toNat) := by
  refine ⟨fun p h => ?_, ⟨case1_resting _ rfl (by decide), balanced_of (by decide +kernel),
      ⟨_, _, .inr ⟨_, 1, 7, rfl, rfl, rfl, rfl, rfl, rfl⟩⟩, ⟨rfl, rfl, by decide +kernel⟩, by decide +kernel⟩,
    case1_resting _ rfl (by decide), balanced_of (by decide +kernel), ⟨_, _, .inl ⟨rfl, rfl, rfl⟩⟩, ⟨rfl, rfl, by decide +kernel⟩,
    ⟨rfl, rfl, by decide +kernel⟩, rfl, by decide⟩
  obtain rfl | rfl := h
  · exact ⟨case1_resting _ rfl (by decide), balanced_of (by decide +kernel), ⟨_, _, .inr ⟨_, 1, 7, rfl, rfl, rfl, rfl, rfl, rfl⟩⟩,
      by decide⟩
  · exact ⟨case1_resting _ rfl (by decide), balanced_of (by decide +kernel), ⟨_, _, .inl ⟨rfl, rfl, rfl⟩⟩, by decide⟩

/-- A head of bay 0 whose wait deadline is due. -/
def dueHead (k : ReqKind) (p : Phase) : Request :=
  { kind := k, origin := .upstream 1 7 none, payload := [], phase := p, wait := some 1000 }

/-- An attempt of an exchange of bay 1's head. -/
def toBay1 (k : ExKind) : Current := attempt { toBay0 k .head .idle with target := .bay 1 } 0

/-- Bay 0's LOAD queued behind an exchange of bay 1's, its head's wait deadline due. -/
def queuedLoad : State :=
  { case1 { bayIn .loading with queue := [dueHead .load .issued] } with
    bus := { idleBus [] with current := some (toBay1 .query), transaction := .attempt, normal := [toBay0 .load .head .idle] } }

theorem test_hyp_WaitDeadlinesExpireTheHead :
    (let s := case1 { bayIn .idle with queue := [dueHead .load .deferred] };
      s.BusRests ∧ s.expires (dueHead .load .deferred).wait = true ∧ (s.bay 0).queue = [dueHead .load .deferred]
          ∧ s.WaitedFor 0 (dueHead .load .deferred) 1)
      ∧ (admitting.BusRests ∧ (admitting.bay 0).queue = [dueHead .spinUp .admitting]
        ∧ admitting.WaitedFor 0 (dueHead .spinUp .admitting) 2)
      ∧ (let s := case1 { bayIn .parking with
                            queue := [dueHead .load .checking]
                            slot := some { kind := .park, level := 5, started := true, stopPhase := false, fromLoaded := true } };
        s.BusRests ∧ s.WaitedFor 0 (dueHead .load .checking) 1)
      ∧ (let s := case1 { bayIn .spinning with queue := [dueHead .load .checking] };
        s.BusRests ∧ s.WaitedFor 0 (dueHead .load .checking) 3 ∧ (s.bay 0).restoreIntent = false)
      ∧ (∀ k, let s := case1 { bayIn .loaded with queue := [dueHead .load .checking, head7 k .queued] };
        s.BusRests ∧ s.WaitedFor 0 (dueHead .load .checking) 3 ∧ s.Balanced ∧ (s.bay 0).slot = none)
      ∧ ((case1 (bayIn .spinning)).HeadWaits 0 .load .checking [] ∧ (case1 (bayIn .loaded)).HeadCompletes 0 .barrier (.plain .done)
        ∧ headCheck .unload .loaded = .issue .unload ∧ ExKind.unload.stateChanging = true
        ∧ startState .unload .loaded = some .unloading)
      ∧ (∀ k x, (k, x) = (ReqKind.status, ExKind.query) ∨ (k, x) = (.pass, .pass) →
        let s := case1 { bayIn .spinning with
                           deadline := some { due := 2000, kind := .spinUp, group := false }
                           queue := [dueHead .load .checking, head7 k .queued] };
        s.BusRests ∧ s.WaitedFor 0 (dueHead .load .checking) 3 ∧ (s.bay 0).slot = none
          ∧ headCheck k (s.bay 0).state = .issue x ∧ x.stateChanging = false)
      ∧ (queuedLoad.Balanced ∧ queuedLoad.FlagFollows ∧ queuedLoad.bus.normal = [toBay0 .load .head .idle]
        ∧ queuedLoad.bus.current = some (toBay1 .query) ∧ (toBay1 .query).ex.serves 0 = false ∧ (∀ d, (queuedLoad.bay d).waiting = [])
        ∧ (toBay0 .load .head .idle).before ≠ (queuedLoad.bay 0).state ∧ (queuedLoad.bay 0).queue = [dueHead .load .issued]
        ∧ queuedLoad.expires (dueHead .load .issued).wait = true) :=
  ⟨⟨busRests_of (case1_resting _ rfl (by decide)), by decide, rfl, .inl ⟨rfl, rfl, rfl⟩⟩,
   ⟨⟨rfl, rfl, rfl, rfl, rfl, by decide +kernel, by unfold State.FlagFollows; decide +kernel⟩, rfl, .inr (.inl ⟨rfl, rfl, _, rfl⟩)⟩,
   ⟨busRests_of (case1_resting _ rfl (by decide)), .inr (.inr (.inl ⟨rfl, rfl, rfl, rfl⟩))⟩,
   ⟨busRests_of (case1_resting _ rfl (by decide)), .inr (.inr (.inr ⟨rfl, rfl, rfl, rfl⟩)), rfl⟩,
   fun k => ⟨busRests_of (case1_resting _ rfl (show (bayIn .loaded).reservation ≤ 10800 by decide)), .inr (.inr (.inr ⟨rfl, rfl, rfl, rfl⟩)),
     balanced_of (by cases k <;> decide +kernel), rfl⟩,
   ⟨.inl ⟨.inr rfl, rfl, rfl⟩, ⟨rfl, rfl⟩, rfl, rfl, rfl⟩,
   fun k x h => by
     obtain h | h := h <;> obtain ⟨rfl, rfl⟩ := Prod.mk.inj h <;>
       exact ⟨busRests_of (case1_resting _ rfl (by decide)), .inr (.inr (.inr ⟨rfl, rfl, rfl, rfl⟩)), rfl, rfl, rfl⟩,
   balanced_of (by decide +kernel), by unfold State.FlagFollows; decide +kernel, by decide +kernel⟩

/-- A closed stagger that opens now. -/
def staggerDue : State :=
  let s := case1 (bayIn .spinning)
  { s with adm := { s.adm with lastSpin := some 0, staggerDue := some 1000 } }

/-- The all-bays QUICKPARK on the bus. -/
def parkOnBus : State := { case1 (bayIn .parking) with bus := { idleBus [] with transaction := .groupPark } }

/-- A resend that is due. -/
def resendDue : State :=
  { case1 loadingBay with
    bus := { idleBus [] with
      current := some { attempt (toBay0 .load .head .idle) 1 with answerBy := none, resendAt := some 1000 } } }

theorem test_hyp_StaggerDebounceParkEndAndResend :
    (staggerDue.Resting ∧ staggerDue.expires staggerDue.adm.staggerDue = true)
      ∧ State.reset.expires { SensorRecord.reset with debounceDue := some 0 }.debounceDue = true
      ∧ (parkOnBus.Unengaged ∧ parkOnBus.survey.running = false ∧ parkOnBus.bus.current = none
        ∧ parkOnBus.bus.transaction = .groupPark)
      ∧ (resendDue.expires (resendDue.bus.current.bind (·.resendAt)) = true ∧ resendDue.bus.transaction = .free) :=
  ⟨⟨resting_of (by decide +kernel) (by decide), by decide +kernel⟩, by decide, ⟨unengaged_of (by decide +kernel), rfl, rfl, rfl⟩,
   by decide +kernel⟩

/-- The quiet case with Jolt handed over for sensor 0, its hold and its blind deadline due. -/
def jolted (falling : Bool) : State :=
  let s := case1 (bayIn .off)
  let c : Conditions := { Conditions.clear with jolt := true, falling := falling }
  let p := { s.prot with copies := s.prot.copies.set 0 ⟨true, c⟩ }
  { s with sensors := s.sensors.set 0 { SensorRecord.reset with conds := c, joltDue := some 1000, blindDue := some 1000 }
           prot := { p with levels := p.computeLevels } }

theorem test_hyp_JoltHoldAndBlindExpiries : ∀ falling, (jolted falling).expires (jolted falling).sensors[0].joltDue = true
      ∧ (jolted falling).sensors[0].conds.jolt = true ∧ (jolted falling).Calm ∧ (jolted falling).LevelsHold ∧ (jolted falling).CopiesHold
      ∧ (jolted falling).prot.copies[0].enabled = (jolted falling).sensors[0].enabled
      ∧ (jolted falling).expires (jolted falling).sensors[0].blindDue = true ∧ (jolted falling).sensors[0].conds.blind = false
      ∧ (∀ b, ((jolted falling).bay b).state = .off ∨ ((jolted falling).bay b).state = .empty)
      ∧ (jolted falling).sensors[1].conds.jolt = false := by
  intro falling
  cases falling <;> exact ⟨by decide +kernel, rfl, calm_of (by decide +kernel), ⟨rfl, rfl⟩, by unfold State.CopiesHold; decide +kernel,
    rfl, by decide +kernel, rfl, by decide +kernel, rfl⟩

/-- The survey at bay 0's QUERY, the last for its last bay: all others counted, at the given levels of zone All. -/
def lastSurveyed (l : Level) : State :=
  let s := surveying []
  { s with
    bays := (Vector.replicate 24 (bayIn .off)).set 0 BayRecord.reset
    adm := (s.adm.committing 2500)
    prot := { s.prot with levels := { s.prot.levels with all := l } } }

theorem test_hyp_SurveyAnswersCountTheBays :
    (∀ s rest, (s = surveying allBays.tail ∧ rest = allBays.tail) ∨ (s = surveying [] ∧ rest = [])
          ∨ (s = lastSurveyed 0 ∧ rest = []) ∨ (s = lastSurveyed 4 ∧ rest = []) →
        s.Surveying 0 (attempt (settling.exchangeFor 0 .query .survey []) 3) 0x20 rest)
      ∧ (∃ d, d ≠ 0 ∧ ((surveying []).bay d).surveyed = false) ∧ conditionOf 8 = none ∧ conditionOf 7 = some .decelerating
      ∧ Timing.default.retryLimit ≤ 3 ∧ (surveying []).FailsBy (attempt (settling.exchangeFor 0 .query .survey []) 3) 0x20 .busy
          (nakFailed 0x20 2 0)
      ∧ (∀ d, d ≠ 0 → ((lastSurveyed 0).bay d).surveyed = true) ∧ (∀ d, (lastSurveyed 0).level d = 0)
      ∧ (∀ d, d ≠ 0 → ((lastSurveyed 4).bay d).surveyed = true)
      ∧ (∀ d, d ≠ 0 → ((lastSurveyed 4).bay d).state = .off ∨ ((lastSurveyed 4).bay d).state = .empty)
      ∧ (lastSurveyed 4).prot.action ((lastSurveyed 4).level 0) = .unload ∧ 0 < ((lastSurveyed 4).level 0).val := by
  refine ⟨fun s rest h => ?_, by decide +kernel, by decide, by decide, by decide, .inr (.inr (.inl ⟨rfl, 0, rfl⟩)), by decide +kernel⟩
  obtain ⟨rfl, rfl⟩ | ⟨rfl, rfl⟩ | ⟨rfl, rfl⟩ | ⟨rfl, rfl⟩ := h <;>
    exact ⟨rfl, rfl, rfl, rfl, ⟨rfl, rfl, rfl, rfl⟩, rfl, by decide, rfl, rfl, by decide, by decide +kernel, rfl,
      by unfold State.FlagFollows; decide +kernel, balanced_of (by decide +kernel), rfl, by decide +kernel, by decide +kernel,
      by decide +kernel⟩

/-! ### Hypotheses met: protective operations -/

/-- The forms of a rise of bay 0 alone: the record, the zone it moves to and the level there. -/
def rises : List (BayRecord × Zone × Level) :=
  [(bayIn .idle, .sensor 3, 2), ({ bayIn .loaded with sweepLevel := 4 }, .sensor 1, 4), (bayIn .off, .sensor 1, 4),
   ({ bayIn .unloading with slot := some (opAt .unload 5 true) }, .sensor 2, 5), (bayIn .unloading, .sensor 1, 4),
   (bayIn .stopping, .all, 7), ({ bayIn .parking with slot := some (opAt .park 5 true) }, .all, 7), (bayIn .loaded, .sensor 2, 5),
   (bayIn .spinning, .all, 7), ({ bayIn .unloading with slot := some (opAt .unload 4 true) }, .sensor 2, 5)]

/-- What the statement asks of each of them, in decidable words. -/
abbrev RiseTest (s : State) (z : Zone) (l : Level) : Prop :=
  (((s.link.resetPending = false ∧ s.placeFree = true ∧ targetOf (hdr 0x7F).target = some .part
        ∧ sourceOf (hdr 0x7F).source = some 1) ∧ s.manages 1 = true)
      ∧ (UnengagedTest s ∧ RestingTest s ∧ CalmButTest s 0))
    ∧ ((s.bay 0).queue = [] ∧ (s.bay 0).restoreIntent = false ∧ (s.bay 0).state ≠ .empty)
    ∧ ((s.bay 0).slot.all (·.started) = true ∧ l = s.prot.levels.of z ∧ (s.level 0).val < l.val)

theorem rises_hold : ∀ f ∈ rises, RiseTest (zoned f.1) f.2.1 f.2.2 := by decide +kernel

theorem test_hyp_RisesSweepTheBay :
    (∀ f ∈ rises, let s := zoned f.1;
        s.HearsManager (hdr 0x7F) 1 ∧ s.CalmBut 0 ∧ ((s.bay 0).queue = [] ∧ (s.bay 0).restoreIntent = false ∧ (s.bay 0).state ≠ .empty)
          ∧ (∀ op, (s.bay 0).slot = some op → op.started = true) ∧ f.2.2 = s.prot.levels.of f.2.1 ∧ (s.level 0).val < f.2.2.val)
      ∧ ((zoned (bayIn .idle)).prot.action 2 = .none
        ∧ (4 : Level).val ≤ ((zoned { bayIn .loaded with sweepLevel := 4 }).bay 0).sweepLevel.val
        ∧ ((zoned (bayIn .off)).prot.action 4).kind = some .unload ∧ protEntry .unload .off = .none
        ∧ (5 : Level).val ≤ (opAt .unload 5 true).level.val)
      ∧ ((zoned (bayIn .unloading)).Sweeps 0 (.sensor 1) 4 .unload ∧ protEntry .unload .unloading = .adopt
        ∧ (zoned (bayIn .stopping)).Sweeps 0 .all 7 .stop ∧ protEntry .stop .stopping = .adopt
        ∧ (zoned { bayIn .parking with slot := some (opAt .park 5 true) }).Sweeps 0 .all 7 .stop
        ∧ protEntry (ProtKind.stop.stronger .park) .parking = .adopt ∧ (opAt .park 5 true).level.val < (7 : Level).val)
      ∧ ((zoned (bayIn .loaded)).Sweeps 0 (.sensor 2) 5 .park ∧ protEntry .park .loaded = .exchange .quickPark
        ∧ startState .quickPark .loaded = some .parking ∧ (zoned (bayIn .spinning)).Sweeps 0 .all 7 .stop
        ∧ protEntry .stop .spinning = .exchange .stop ∧ startState .stop .spinning = some .stopping
        ∧ (zoned { bayIn .unloading with slot := some (opAt .unload 4 true) }).Sweeps 0 (.sensor 2) 5 .park
        ∧ protEntry (ProtKind.park.stronger .unload) .unloading = .exchange .quickPark) := by
  refine ⟨fun f h => ?_, by decide +kernel, ⟨sweeps_of (by decide +kernel), rfl, sweeps_of (by decide +kernel), rfl,
    sweeps_of (by decide +kernel), rfl, by decide⟩, sweeps_of (by decide +kernel), rfl, rfl, sweeps_of (by decide +kernel), rfl, rfl,
    sweeps_of (by decide +kernel), rfl⟩
  obtain ⟨⟨manager, calm⟩, bay, started, level⟩ := rises_hold f h
  exact ⟨hearsManager_of manager, calmBut_of calm, bay, fun op e => by simpa [e] using started, level⟩

theorem test_hyp_SweepsMeetTheHeadAndTheBus :
    ((let s := zoned { bayIn .loading with queue := [head7 .load .issued] };
        s.HearsManager (hdr 0x7F) 1 ∧ s.Sweeps 0 (.sensor 2) 5 .park ∧ s.CalmBut 0 ∧ (s.bay 0).slot = none
          ∧ (s.bay 0).queue = [head7 .load .issued] ∧ protEntry .park .loading = .exchange .quickPark
          ∧ startState .quickPark .loading = some .parking)
      ∧ (let s := zoned { bayIn .spinning with queue := [head7 .spinUp .issued] };
        s.HearsManager (hdr 0x7F) 1 ∧ s.Sweeps 0 .all 7 .stop ∧ s.CalmBut 0 ∧ (s.bay 0).slot = none
          ∧ (s.bay 0).queue = [head7 .spinUp .issued] ∧ protEntry .stop .spinning = .exchange .stop
          ∧ startState .stop .spinning = some .stopping)
      ∧ (let s := zoned { bayIn .unloading with queue := [head7 .unload .issued] };
        s.HearsManager (hdr 0x7F) 1 ∧ s.Sweeps 0 (.sensor 2) 5 .park ∧ s.CalmBut 0 ∧ (s.bay 0).slot = none
          ∧ (s.bay 0).queue = [head7 .unload .issued] ∧ protEntry .park .unloading = .exchange .quickPark
          ∧ startState .quickPark .unloading = some .parking
          ∧ ¬ (ReqKind.unload = .load ∨ (ReqKind.unload = .spinUp ∧ ProtKind.park = .stop))))
      ∧ (∀ k : ReqKind, k = .status ∨ k = .pass → ∀ x : ExKind, x = .query ∨ x = .pass →
        (let s : State := { zoned { bayIn .loaded with queue := [head7 k .issued] } with
            bus := { idleBus [] with current := some (toBay1 .query), transaction := .attempt, normal := [toBay0 x .head .loaded] } };
          s.HearsManager (hdr 0x7F) 1 ∧ s.Sweeps 0 (.sensor 2) 5 .park ∧ s.Engaged 0 (toBay1 .query) [toBay0 x .head .loaded]
            ∧ (toBay1 .query).ex.serves 0 = false ∧ (s.bay 0).slot = none ∧ (s.bay 0).queue = [head7 k .issued])
        ∧ (let c := attempt (toBay0 x .head .loaded) 1;
          let s : State := onBus c (zoned { bayIn .loaded with queue := [head7 k .issued] });
          s.HearsManager (hdr 0x7F) 1 ∧ s.Sweeps 0 (.sensor 2) 5 .park ∧ s.Engaged 0 c [] ∧ c.ex.target = .bay 0 ∧ c.ex.owner = .head
            ∧ c.resendAt = none ∧ c.disregarded = false ∧ (s.bay 0).slot = none ∧ (s.bay 0).queue = [head7 k .issued]))
      ∧ (let c := attempt (toBay0 .unload .protective .loaded) 0;
        let s : State := onBus c (zoned { bayIn .unloading with slot := some (opAt .unload 4 true) });
        s.HearsManager (hdr 0x7F) 1 ∧ s.Sweeps 0 (.sensor 2) 5 .park ∧ s.Engaged 0 c [] ∧ c.ex.owner = .protective
          ∧ c.ex.kind ≠ .quickPark ∧ (s.bay 0).slot = some (opAt .unload 4 true) ∧ (opAt .unload 4 true).level.val < (5 : Level).val
          ∧ protEntry (ProtKind.park.stronger .unload) .unloading = .exchange .quickPark) := by
  refine ⟨⟨⟨hearsManager_of (by decide +kernel), sweeps_of (by decide +kernel), calmBut_of (by decide +kernel), rfl, rfl, rfl, rfl⟩,
      ⟨hearsManager_of (by decide +kernel), sweeps_of (by decide +kernel), calmBut_of (by decide +kernel), rfl, rfl, rfl, rfl⟩,
      hearsManager_of (by decide +kernel), sweeps_of (by decide +kernel), calmBut_of (by decide +kernel), rfl, rfl, rfl, rfl, by decide⟩,
    fun k hk x hx => ?_,
    hearsManager_of (by decide +kernel), sweeps_of (by decide +kernel), engaged_of (by decide +kernel), rfl, by decide, rfl, by decide, rfl⟩
  obtain rfl | rfl := hk <;> obtain rfl | rfl := hx <;>
    exact ⟨⟨hearsManager_of (by decide +kernel), sweeps_of (by decide +kernel), engaged_of (by decide +kernel), rfl, rfl, rfl⟩,
      hearsManager_of (by decide +kernel), sweeps_of (by decide +kernel), engaged_of (by decide +kernel), rfl, rfl, rfl, rfl, rfl, rfl⟩

/-- The case under an all-bays QUICKPARK with a LOAD of bay 0 queued, whose zone forbids it. -/
def blockedLoad (rest : List Exchange) : State :=
  { zoned { bayIn .loading with zone := .sensor 1 } with
    prot := { State.reset.prot with levels := { sensor := Vector.replicate 4 4, all := 4 } }
    bus := { idleBus [] with transaction := .groupPark, normal := toBay0 .load .head .idle :: rest } }

theorem test_hyp_MarkedAndBlockedExchanges :
    (let c := attempt (toBay0 .unload .protective .loaded) 0;
      let s := onBus c (case1 { bayIn .unloading with slot := some (opAt .unload 4 true) });
      s.Alone c 0x20 ∧ s.EndsAttempt c 0x20 (.ack ack0)
        ∧ ({ s with now := 1050 } : State).Alone c 0x20 ∧ ({ s with now := 1050 } : State).EndsAttempt c 0x20 .answerWindowExpiry
        ∧ s.Balanced ∧ c.ex.owner = .protective ∧ c.ex.kind = .unload ∧ (s.bay 0).state = .unloading
        ∧ (s.bay 0).slot = some (opAt .unload 4 true) ∧ (s.bay 0).queue = [])
      ∧ (∀ k : ReqKind, k = .status ∨ k = .pass → ∀ x : ExKind, x = .query ∨ x = .pass →
        (let c := attempt (toBay0 x .head .loaded) 0;
        let s := onBus c (case1 { bayIn .loaded with slot := some (opAt .park 5 true), queue := [head7 k .issued] });
        s.Alone c 0x20 ∧ s.Balanced ∧ (s.bay 0).queue = [head7 k .issued] ∧ (head7 k .issued).origin = .upstream 1 7 none
          ∧ (s.bay 0).restoreIntent = false ∧ startState .quickPark (s.bay 0).state = some .parking
          ∧ s.FailsBy c 0x20 .check (nakFailed 0x20 1 0)))
      ∧ ExKind.pass ≠ .query ∧ (List.replicate 32 (0 : Byte)).length ≤ 32
      ∧ (∀ rest, (blockedLoad rest).bus.normal = toBay0 .load .head .idle :: rest ∧ (blockedLoad rest).survey.running = false
        ∧ (blockedLoad rest).bus.current = none ∧ (blockedLoad rest).bus.transaction = .groupPark ∧ (blockedLoad rest).bus.urgent = [])
      ∧ (∀ d, ((blockedLoad []).bay d).waiting = []) ∧ (blockedLoad []).adm.queue = [] ∧ (blockedLoad []).FlagFollows
      ∧ (blockedLoad []).permits 0 .load = false
      ∧ ({ toBay0 .query .insertion .off with target := .bay 1 } : Exchange).target = .bay 1 ∧ Owner.insertion ≠ .head := by
  refine ⟨⟨alone_of (by decide +kernel), .inl rfl, alone_of (by decide +kernel), .inr ⟨rfl, by decide⟩, balanced_of (by decide +kernel),
      rfl, rfl, rfl, rfl, rfl⟩, fun k hk x hx => ?_, by decide, by decide, fun _ => ⟨rfl, rfl, rfl, rfl, rfl⟩, by decide +kernel, rfl,
    by unfold State.FlagFollows; decide +kernel, by decide +kernel, rfl, by decide⟩
  obtain rfl | rfl := hk <;> obtain rfl | rfl := hx <;>
    exact ⟨alone_of (by decide +kernel), balanced_of (by decide +kernel), rfl, rfl, rfl, rfl, .inr (.inl ⟨rfl, 0, rfl⟩)⟩

/-- Bays 0 and 2 at risk, Park at level 4, and sensor 0's blind deadline due. -/
def twoAtRisk : State :=
  let s := case1 (bayIn .loaded)
  { s with
    bays := s.bays.set 2 (bayIn .loading)
    adm := s.adm.committing 2100
    prot := { s.prot with actions := defaultActions.set 4 ⟨.park, false, false⟩ }
    sensors := s.sensors.set 0 { SensorRecord.reset with blindDue := some 1000 } }

theorem test_hyp_GroupParksAndTheirFollowUps :
    (let t := after (.blindExpiry 0) twoAtRisk;
      twoAtRisk.Calm ∧ twoAtRisk.expires twoAtRisk.sensors[0].blindDue = true ∧ twoAtRisk.sensors[0].conds.blind = false
        ∧ [0, 2] = allBays.filter (fun b => (twoAtRisk.bay b).state.atRisk)
        ∧ (∀ b, b ∉ ([0, 2] : List Bay) → (twoAtRisk.bay b).state = .off ∨ (twoAtRisk.bay b).state = .empty)
        ∧ answersNext (.blindExpiry 0) twoAtRisk = true
        ∧ ∀ b ∈ ([0, 2] : List Bay), (twoAtRisk.level b).val < (t.level b).val ∧ (twoAtRisk.bay b).sweepLevel.val < (t.level b).val
            ∧ (twoAtRisk.prot.action (t.level b) = .park ∨ twoAtRisk.prot.action (t.level b) = .parkStop))
      ∧ (∀ p : BayRecord, p = bayIn .parking ∨ p = { bayIn .parking with slot := some (opAt .park 5 false) }
            ∨ p = { bayIn .parking with queue := [head7 .unload .issued] } →
          (let c := attempt (toBay0 .query .followUp .parking) 0;
          let s := onBus c (case1 p);
          s.Alone c 0x20 ∧ s.Balanced ∧ (s.bay 0).state = .parking ∧ (s.bay 0).restoreIntent = false
            ∧ ∃ rs w, s.Interrupts 0 .timeout rs w))
      ∧ ProtKind.park ≠ .stop ∧ (opAt .park 5 false).fromLoaded = false ∧ conditionOf 5 = some .headsUnloading ∧ Condition.headsUnloading ≠ .atSpeed := by
  refine ⟨⟨calm_of (by decide +kernel), by decide +kernel, rfl, by decide +kernel, by decide +kernel, by decide +kernel, by decide +kernel⟩,
    fun p h => ?_, by decide⟩
  obtain rfl | rfl | rfl := h
  · exact ⟨alone_of (by decide +kernel), balanced_of (by decide +kernel), rfl, rfl, _, _, .inl ⟨rfl, rfl, rfl⟩⟩
  · exact ⟨alone_of (by decide +kernel), balanced_of (by decide +kernel), rfl, rfl, _, _, .inl ⟨rfl, rfl, rfl⟩⟩
  · exact ⟨alone_of (by decide +kernel), balanced_of (by decide +kernel), rfl, rfl, _, _, .inr ⟨_, 1, 7, rfl, rfl, rfl, rfl, rfl, rfl⟩⟩

/-- The case at level 4 for all zones, where the restore is not due. -/
def zoned4 (r : BayRecord) : State :=
  let s := case1 r
  { s with prot := { s.prot with levels := { sensor := Vector.replicate 4 4, all := 4 } } }

theorem test_hyp_ProtectiveOperationsEndAndRestore :
    (∀ s : State, s = case1 { bayIn .unloading with slot := some (opAt .unload 4 false) }
          ∨ s = zoned4 { bayIn .parking with slot := some (opAt .park 5 true) }
          ∨ s = case1 { bayIn .unloading with slot := some (opAt .unload 4 true), queue := [head7 .spinUp .checking] }
          ∨ s = case1 { bayIn .unloading with slot := some (opAt .unload 4 true) }
          ∨ s = case1 { bayIn .parking with slot := some (opAt .stop 7 true) } →
        s.CalmBut 0 ∧ s.Receives 0x30 (frame0 0x30 [1, 2, 0]) ∧ (∃ op, (s.bay 0).slot = some op) ∧ (s.bay 0).restoreIntent = false
          ∧ ((s.bay 0).state = .unloading ∨ (s.bay 0).state = .parking))
      ∧ (State.reset.timing.restoreCeiling < ((zoned4 (bayIn .parking)).level 0).val
        ∧ headCheck .spinUp .idle = .complete { code := .already, secondary := 0 } ∧ ReqKind.spinUp.governed = true
        ∧ ((case1 (bayIn .unloading)).level 0).val ≤ (case1 (bayIn .unloading)).timing.restoreCeiling
        ∧ (case1 (bayIn .unloading)).permits 0 .load = true ∧ (opAt .stop 7 true).stopPhase = false)
      ∧ (let s := case1 { bayIn .stopping with slot := some { opAt .stop 7 true with stopPhase := true } };
        s.CalmBut 0 ∧ s.Receives 0x30 (frame0 0x30 [1, 0, 0]) ∧ (s.bay 0).state = .stopping ∧ (s.bay 0).queue = [])
      ∧ (let s := { zoned { bayIn .idle with restoreIntent := true } with
            bays := (Vector.replicate 24 (bayIn .empty)).set 0 { bayIn .idle with zone := .sensor 1, restoreIntent := true } };
        s.HearsManager (hdr 0x7F) 1 ∧ s.CalmBut 0 ∧ (s.bay 0).slot = none ∧ (s.bay 0).restoreIntent = true ∧ (s.bay 0).state = .idle
          ∧ 0 = s.prot.levels.of (.sensor 0) ∧ (0 : Level).val < (s.level 0).val ∧ (0 : Level).val ≤ s.timing.restoreCeiling
          ∧ s.prot.permits 0 .load = true
          ∧ s.adm.committed + (s.profileOf 0).loadingReservation - (s.bay 0).reservation ≤ s.adm.effLimit) := by
  refine ⟨fun s h => ?_, by decide +kernel, ⟨calmBut_of (by decide +kernel), ⟨rfl, rfl, by decide +kernel⟩, rfl, rfl⟩,
    hearsManager_of (by decide +kernel), calmBut_of (by decide +kernel), by decide +kernel⟩
  obtain rfl | rfl | rfl | rfl | rfl := h <;>
    exact ⟨calmBut_of (by decide +kernel), ⟨rfl, rfl, by decide +kernel⟩, ⟨_, rfl⟩, rfl, by decide +kernel⟩

/-! ### Hypotheses met: the bay bus -/

/-- A RATE exchange to node 0. -/
def rate0 : Exchange := rateExchange 0 .hz800

/-- The quiet case with an attempt of it. -/
def rating (n : Nat) : State :=
  let s := onBus (attempt rate0 n) (case1 (bayIn .idle))
  { s with sensors := s.sensors.set 0 { SensorRecord.reset with requested := some .hz800 } }

theorem rating_alone (n : Nat) : (rating n).Alone (attempt rate0 n) 0x08 :=
  have h := case1_calm .idle
  ⟨⟨rfl, rfl, h.waiting, rfl, h.flag⟩, rfl, rfl, rfl, rfl, rfl, ⟨rfl, rfl, rfl⟩, rfl⟩

theorem test_hyp_FailuresAreResentOrExhausted :
    (∀ n, (onBus (attempt (toBay0 .query .followUp .idle) n) (case1 (bayIn .idle))).Alone (attempt (toBay0 .query .followUp .idle) n) 0x20)
      ∧ 2 < Timing.default.retryLimit ∧ Timing.default.retryLimit ≤ 3
      ∧ (onBus (attempt (toBay0 .query .followUp .idle) 3) (case1 (bayIn .idle))).Balanced
      ∧ (∀ p : BayRecord, p = loadingBay ∨ p = { bayIn .unloading with slot := some (opAt .unload 4 true) } →
        (onBus (attempt (toBay0 .load .head .idle) 3) (case1 p)).Balanced
          ∧ ∃ rs w, (onBus (attempt (toBay0 .load .head .idle) 3) (case1 p)).Interrupts 0 .bus rs w)
      ∧ ((rating 3).Alone (attempt rate0 3) 0x08 ∧ (rating 3).sensors[0].furtherRate = false)
      ∧ (let c := attempt (toBay0 .query .followUp .idle) 3;
        let s := onBus c (case1 (bayIn .idle));
        ({ s with now := 1050 } : State).FailsBy c 0x20 .noAnswer .answerWindowExpiry
          ∧ s.FailsBy c 0x20 .check (nakFailed 0x20 1 0)
          ∧ s.FailsBy c 0x20 .busy (nakFailed 0x20 2 0)
          ∧ s.FailsBy c 0x20 .replyCheckBad (.ack ack0)
          ∧ s.FailsBy c 0x20 .replyCheckBad (.nakRefused 0x20 [0] 0)
          ∧ s.FailsBy c 0x20 .replyCheckBad (.nakFailure 0x20 (some 1) [0] 0)) := by
  refine ⟨fun n => onBus_alone _ _ _ _ _ rfl (by decide), by decide, by decide, balanced_of (by decide +kernel), fun p h => ?_, ⟨rating_alone 3, rfl⟩,
    .inl ⟨rfl, rfl, by decide⟩, .inr (.inl ⟨rfl, 0, rfl⟩), .inr (.inr (.inl ⟨rfl, 0, rfl⟩)),
    .inr (.inr (.inr (.inl ⟨rfl, [], _, rfl, .inr (by decide)⟩))), .inr (.inr (.inr (.inr (.inl ⟨rfl, 0, 0, rfl, by decide +kernel⟩)))),
    .inr (.inr (.inr (.inr (.inr ⟨rfl, 1, 0, 0, rfl, by decide +kernel⟩))))⟩
  obtain rfl | rfl := h
  · exact ⟨balanced_of (by decide +kernel), _, _, .inr ⟨_, 1, 7, rfl, rfl, rfl, rfl, rfl, rfl⟩⟩
  · exact ⟨balanced_of (by decide +kernel), _, _, .inl ⟨rfl, rfl, rfl⟩⟩

/-- Bay 0 Idle with an issued head. -/
def issuedHead (k : ReqKind) : BayRecord := { bayIn .idle with queue := [{ barrier7 with kind := k, phase := .issued }] }

theorem test_hyp_RefusalsReturnTheBay :
    (∀ (p : BayRecord) (c : Current), (p = loadingBay ∧ c = attempt (toBay0 .load .head .idle) 0)
          ∨ (p = { bayIn .unloading with queue := [head7 .unload .issued], slot := some (opAt .unload 4 true) }
              ∧ c = attempt (toBay0 .unload .head .loading) 0) →
        (onBus c (case1 p)).Alone c 0x20 ∧ (onBus c (case1 p)).Balanced ∧ c.ex.kind.stateChanging = true
          ∧ c.ex.before ≠ ((onBus c (case1 p)).bay 0).state
          ∧ (∃ r, ((onBus c (case1 p)).bay 0).queue = [r] ∧ r.phase = .issued ∧ r.origin = .upstream 1 7 none)
          ∧ ((onBus c (case1 p)).bay 0).restoreIntent = false)
      ∧ (let c := attempt (toBay0 .quickPark .protective .loading) 0
        let s := onBus c (case1 { bayIn .parking with slot := some (opAt .park 5 true) })
        s.Alone c 0x20 ∧ s.Balanced ∧ c.ex.before ≠ (s.bay 0).state ∧ (s.bay 0).queue = [] ∧ (s.bay 0).slot = some (opAt .park 5 true))
      ∧ (∀ k q, (onBus (attempt (toBay0 q .head .idle) 0) (case1 (issuedHead k))).Alone (attempt (toBay0 q .head .idle) 0) 0x20
        ∧ ((case1 (issuedHead k)).bay 0).queue = [head7 k .issued]
        ∧ (onBus (attempt (toBay0 q .head .idle) 0) (case1 (issuedHead k))).Balanced)
      ∧ ((rating 0).Alone (attempt rate0 0) 0x08 ∧ (rating 0).Balanced ∧ (rating 0).sensors[0].furtherRate = false)
      ∧ (onBus (attempt (toBay0 .query .insertion .off) 0) (case1 (bayIn .off))).Alone (attempt (toBay0 .query .insertion .off) 0) 0x20 := by
  refine ⟨fun p c h => ?_, ⟨alone_of (by decide +kernel), balanced_of (by decide +kernel), by decide, rfl, rfl⟩,
    fun k q => ⟨onBus_alone _ _ _ _ _ rfl (show 800 ≤ 10800 by decide), rfl, balanced_of ?_⟩,
    ⟨rating_alone 0, balanced_of (by decide +kernel), rfl⟩, onBus_alone _ _ _ _ _ rfl (by decide)⟩
  · obtain ⟨rfl, rfl⟩ | ⟨rfl, rfl⟩ := h
    · exact ⟨alone_of (by decide +kernel), balanced_of (by decide +kernel), rfl, by decide, ⟨_, rfl, rfl, rfl⟩, rfl⟩
    · exact ⟨alone_of (by decide +kernel), balanced_of (by decide +kernel), rfl, by decide, ⟨_, rfl, rfl, rfl⟩, rfl⟩
  · cases k <;> cases q <;> decide +kernel

theorem test_hyp_AcknowledgementsEndTheExchange :
    (∀ k, (onBus (attempt (toBay0 k .head .idle) 0) (case1 loadingBay)).Alone (attempt (toBay0 k .head .idle) 0) 0x20)
      ∧ ExKind.load.opKind = some .load
      ∧ (∀ k q, (onBus (attempt (toBay0 q .head .idle) 0) (case1 (issuedHead k))).Alone (attempt (toBay0 q .head .idle) 0) 0x20
        ∧ ((case1 (issuedHead k)).bay 0).queue = [{ barrier7 with kind := k, phase := .issued }]
        ∧ ((case1 (issuedHead k)).bay 0).restoreIntent = false)
      ∧ (List.replicate 32 (0 : Byte)).length ≤ 32 ∧ conditionOf 2 = some .atSpeed ∧ Condition.atSpeed.state = .idle
      ∧ BayState.idle.transitional = false ∧ ((rating 0).Alone (attempt rate0 0) 0x08 ∧ (rating 0).sensors[0].furtherRate = false) :=
  ⟨fun _ => onBus_alone _ _ _ _ _ rfl (by decide), rfl, fun _ _ => ⟨onBus_alone _ _ _ _ _ rfl (show 800 ≤ 10800 by decide), rfl, rfl⟩,
   by decide, by decide, by decide, by decide, rating_alone 0, rfl⟩

theorem test_hyp_DoneCompletesOrReconciles :
    ((case1 loadingBay).Resting ∧ (case1 loadingBay).Balanced ∧ (case1 loadingBay).Receives 0x30 (frame0 0x30 [1, 4, 0])
        ∧ conditionOf 4 = some .headsLoaded ∧ completionState .loading .headsLoaded = some .loaded
        ∧ ReqKind.load.goalOf .loading = true ∧ ((case1 (bayIn .loading)).bay 0).queue = [])
      ∧ ((case1 (bayIn .idle)).Calm ∧ (case1 (bayIn .idle)).Receives 0x30 (frame0 0x30 [1, 7, 0]) ∧ bayAt 0x20 = some 0
        ∧ conditionOf 7 = some .decelerating ∧ Condition.decelerating.state ≠ .idle ∧ BayState.idle.transitional = false
        ∧ (case1 (bayIn .idle)).level 0 = 0)
      ∧ (conditionOf 2 = some .atSpeed ∧ (5 : Byte) ≠ 0 ∧ (case1 (bayIn .idle)).Receives 0x30 (frame0 0x30 [1, 2, 5])
        ∧ ((case1 (bayIn .idle)).bay 0).state ≠ .faulted ∧ (zoned (bayIn .loaded)).Calm
        ∧ (zoned (bayIn .loaded)).Receives 0x30 (frame0 0x30 [1, 4, 5]) ∧ ((zoned (bayIn .loaded)).bay 0).state.transitional = false) :=
  ⟨⟨case1_resting _ rfl (by decide), balanced_of (by decide +kernel), ⟨rfl, rfl, by decide +kernel⟩, by decide +kernel⟩,
   ⟨case1_calm .idle, ⟨rfl, rfl, by decide +kernel⟩, by decide +kernel⟩,
   by decide, by decide, ⟨rfl, rfl, by decide +kernel⟩, by decide +kernel, calm_of (by decide +kernel), ⟨rfl, rfl, by decide +kernel⟩,
   by decide +kernel⟩

theorem test_hyp_PresenceNotices :
    (∀ st, (case1 (bayIn st)).Resting ∧ (case1 (bayIn st)).Balanced ∧ ((case1 (bayIn st)).bay 0).state = st
        ∧ ((case1 (bayIn st)).bay 0).queue = []) ∧ bayAt 0x20 = some 0 ∧ bayAt 0x37 = some 23
      ∧ ((case1 { bayIn .idle with queue := List.replicate 4 barrier7 }).Resting
        ∧ (case1 { bayIn .idle with queue := List.replicate 4 barrier7 }).Balanced
        ∧ ∀ r ∈ ((case1 { bayIn .idle with queue := List.replicate 4 barrier7 }).bay 0).queue, r.origin = .upstream 1 7 none)
      ∧ (∀ s : State, s = settling ∨ s = surveying allBays.tail → s.survey.running = true
        ∧ (s.survey.settle.isSome = true ∨ ∃ d, (s.bay d).surveyed = false) ∧ s.Balanced ∧ s.FlagFollows ∧ s.adm.queue = []
        ∧ (∀ d, (s.bay d).waiting = []) ∧ (s.bus.current.isSome = true ∨ (s.bus.urgent = [] ∧ s.bus.normal = []))
        ∧ (s.bay 0).state = .unknown)
      ∧ settling.Receives 0x32 (frame0 0x32 [1]) := by
  refine ⟨fun st => ⟨(case1_free st).toResting, (case1_free st).balanced, rfl, rfl⟩, by decide, by decide,
   ⟨case1_resting _ rfl (by decide), balanced_of (by decide +kernel), by decide +kernel⟩, fun s h => ?_, rfl, rfl, by decide +kernel⟩
  obtain rfl | rfl := h <;>
    exact ⟨rfl, by decide +kernel, balanced_of (by decide +kernel), by unfold State.FlagFollows; decide +kernel, rfl, by decide +kernel,
      by decide +kernel, rfl⟩

/-- One low-g sample with counter 1,000. -/
def sample1000 : StationFrame := samples0 [0xE8, 0x03, 10, 0, 0xFB, 0xFF, 40, 0]

theorem test_hyp_SamplesAreDiscardedOrTaken :
    (case1 (bayIn .idle)).Receives 0x33 sample1000 ∧ sensorAt 0x08 = some 0
      ∧ sampleFrameOf sample1000.payload = some (1000, [(10, -5, 40)])
      ∧ oneDisabled.sensors[3].enabled = false ∧ (rating 0).sensors[0].requested.isSome = true
      ∧ 32768 ≤ ((1000 : Half) - (1000 + 32768)).toNat ∧ ((1000 : Half) - (1000 - 32767)).toNat < 32768
      ∧ ((1000 : Half) - 1000).toNat < 32768 ∧ SensorRecord.reset.expected = none ∧ SensorRecord.reset.enabled = true :=
  ⟨⟨rfl, rfl, by decide +kernel⟩, by decide +kernel⟩

theorem test_hyp_SamplesAreTakenOneByOne : SensorRecord.reset.lowRun ≤ 65535 ∧ SensorRecord.reset.highRun ≤ 65535
    ∧ SensorRecord.reset.tiltRun ≤ 65535 ∧ { SensorRecord.reset with untiltRun := 65535 }.untiltRun ≤ 65535
    ∧ ({ SensorRecord.reset with conds := { Conditions.clear with falling := true } }.conds.falling && !false) = true := by decide

theorem test_hyp_StationFramesNotTaken :
    (Instr.done (frame0 0x30 [1, 2, 0])).station = some (frame0 0x30 [1, 2, 0]) ∧ parkOnBus.bus.transaction ≠ .free
      ∧ (case1 (bayIn .idle)).Resting ∧ { frame0 0x30 [1, 2, 0] with check := 0 }.check ≠ stationCheck 0x20 0x30 [1, 2, 0]
      ∧ (frame0 0x99 []).check = stationCheck 0x20 0x99 [] ∧ (0x99 : Byte) ∉ ([0x30, 0x31, 0x32, 0x33, 0x40, 0x41] : List Byte)
      ∧ reportOf (frame0 0x30 [1, 8, 0]).payload = none ∧ (frame0 0x31 [0]).payload = [0] ∧ bayAt 0x38 = none ∧ sensorAt 0x0C = none
      ∧ sampleFrameOf [0, 0] = none ∧ (frame0 0x32 [3]).payload ≠ [1] ∧ (frame0 0x32 [3]).payload ≠ [2] :=
  ⟨rfl, by decide, (case1_free .idle).toResting, by decide +kernel⟩

end Sys2Proof.Tests
end

section
/-! PROOFS. The tests on one sample (R84, R94) and the tilt runs (R94): one lemma per function of the classifier, and O14 from
them. -/

namespace Sys2Proof.Machine

/-! ### The squared magnitude (R84) -/

/-- The `Nat` of the model loses nothing, since a sum of squares is not negative. -/
theorem squaredMagnitude_cast (x y z : Int) : (squaredMagnitude x y z : Int) = x * x + y * y + z * z :=
  Int.toNat_of_nonneg (add_nonneg (add_nonneg (mul_self_nonneg x) (mul_self_nonneg y)) (mul_self_nonneg z))

/-- The square of a sample's component is greatest at −32,768. -/
theorem component_sq_le {x : Int} (lo : -32768 ≤ x) (hi : x ≤ 32767) : x * x ≤ 32768 * 32768 := by
  simpa only [pow_two] using sq_le_sq' lo (show x ≤ 32768 by omega)

theorem squaredMagnitude_le {x y z : Int} (hx : x * x ≤ 32768 * 32768) (hy : y * y ≤ 32768 * 32768)
    (hz : z * z ≤ 32768 * 32768) : squaredMagnitude x y z ≤ 3221225472 := by
  have := squaredMagnitude_cast x y z
  omega

/-! ### The high-g, low-g and tilt tests (R84, R94) -/

theorem high_iff (t : Thresholds) (m : Nat) : t.high m = true ↔ t.highG ^ 2 < m := by
  rw [Thresholds.high, decide_eq_true_iff, pow_two]

theorem low_iff (t : Thresholds) (m : Nat) (d : Option Count) : t.low m d = true ↔ m < t.lowG ^ 2 ∧ d = none := by
  rw [Thresholds.low, Bool.and_eq_true, decide_eq_true_iff, Option.isNone_iff_eq_none, pow_two]

/-- With LowG not above HighG, LowG² is not above HighG², and no sample lies below the one and above the other. -/
theorem not_high_and_low {t : Thresholds} (h : t.lowG ≤ t.highG) (m : Nat) (d : Option Count) :
    ¬ (t.high m = true ∧ t.low m d = true) := by
  rw [high_iff, low_iff]
  rintro ⟨above, below, -⟩
  have sq : t.lowG ^ 2 ≤ t.highG ^ 2 := Nat.pow_le_pow_left h 2
  omega

/-- The model compares natural numbers; as z² is not negative, the comparison is that of the exact products. -/
theorem tilts_iff (t : Thresholds) (m : Nat) (z : Int) :
    t.tilts m z = true ↔ z ≤ 0 ∨ 65536 * (z * z) < (t.tiltC : Int) * (m : Int) := by
  have sq : ((z * z).toNat : Int) = z * z := Int.toNat_of_nonneg (mul_self_nonneg z)
  rw [Thresholds.tilts, Bool.or_eq_true, decide_eq_true_iff, decide_eq_true_iff, ← Nat.cast_lt (α := Int)]
  push_cast [sq]
  rfl

/-! ### The tilt runs and Tilted (R94) -/

/-- A run below its greatest value grows by one at a sample of its kind. -/
theorem runAfter_true {n : Nat} (h : n < 65535) : runAfter true n = n + 1 := by
  simp [runAfter, satSucc, h]

@[simp] theorem runAfter_false (n : Nat) : runAfter false n = 0 := rfl

@[simp] theorem tiltStep_tiltRun (r : SensorRecord) (t : Thresholds) (tilted : Bool) :
    (r.tiltStep t tilted).tiltRun = runAfter tilted r.tiltRun := rfl

@[simp] theorem tiltStep_untiltRun (r : SensorRecord) (t : Thresholds) (tilted : Bool) :
    (r.tiltStep t tilted).untiltRun = runAfter (!tilted) r.untiltRun := rfl

theorem tiltStep_runs_of_tilted {r : SensorRecord} (h : r.tiltRun < 65535) (t : Thresholds) :
    (r.tiltStep t true).tiltRun = r.tiltRun + 1 ∧ (r.tiltStep t true).untiltRun = 0 := by
  simp [runAfter_true h]

theorem tiltStep_runs_of_untilted {r : SensorRecord} (h : r.untiltRun < 65535) (t : Thresholds) :
    (r.tiltStep t false).untiltRun = r.untiltRun + 1 ∧ (r.tiltStep t false).tiltRun = 0 := by
  simp [runAfter_true h]

/-- Tilted, where clear, looks at the tilt run after the sample only. -/
theorem tiltStep_asserts_iff {r : SensorRecord} (h : r.conds.tilted = false) (t : Thresholds) (tilted : Bool) :
    (r.tiltStep t tilted).conds.tilted = true ↔ t.nTilt ≤ (r.tiltStep t tilted).tiltRun := by
  simp [SensorRecord.tiltStep, SensorRecord.withConds, h]

/-- Tilted, where asserted, looks at the untilt run after the sample only. -/
theorem tiltStep_clears_iff {r : SensorRecord} (h : r.conds.tilted = true) (t : Thresholds) (tilted : Bool) :
    (r.tiltStep t tilted).conds.tilted = false ↔ t.nTilt ≤ (r.tiltStep t tilted).untiltRun := by
  simp [SensorRecord.tiltStep, SensorRecord.withConds, h]

end Sys2Proof.Machine

namespace Sys2Proof.Proofs

open Sys2Proof.Machine

/-- Settles O14: the general clauses are the lemmas above, and the figures of R84's table and of R94 are evaluated. -/
theorem r84SampleTestsAndR94Tilted : Obligations.R84SampleTestsAndR94Tilted := by
  unfold Obligations.R84SampleTestsAndR94Tilted
  exact ⟨fun x y z x0 x1 y0 y1 z0 z1 => ⟨squaredMagnitude_cast x y z,
      squaredMagnitude_le (component_sq_le x0 x1) (component_sq_le y0 y1) (component_sq_le z0 z1)⟩,
    high_iff, low_iff, fun t m d highG_ge lowG_le => not_high_and_low (by omega) m d,
    -- R84: the squares of the defaults, the five squared magnitudes of the table, the tests of the five samples
    by decide, by decide,
    by decide, by decide, by decide, by decide, by decide,
    by decide, by decide, by decide, by decide, by decide, by decide, by decide, by decide,
    tilts_iff,
    fun r t h => tiltStep_runs_of_tilted h t,
    fun r t h => tiltStep_runs_of_untilted h t,
    fun r t tilted h => tiltStep_asserts_iff h t tilted,
    fun r t tilted h => tiltStep_clears_iff h t tilted,
    -- R94: the default N_tilt and its 500 ms, the sample (0, 0, 0), the two samples of the tilt figure
    by decide, by decide,
    fun t => (tilts_iff t (squaredMagnitude 0 0 0) 0).mpr (.inl le_rfl),
    by decide, by decide, by decide, by decide⟩

end Sys2Proof.Proofs
end

section
/-! PROOFS. The alert levels (R103, R104): one lemma per function of the level computation, and O17 from them. -/

namespace Sys2Proof.Machine

/-! ### The sensor level and the case-wide level (R103) -/

theorem sensorLevel_of_disabled {p : Protection} {i : SensorId} (h : p.copies[i].enabled = false) : p.sensorLevel i = 0 := by
  simp only [Protection.sensorLevel, h, Bool.false_eq_true, if_false]

theorem sensorLevel_val_of_enabled {p : Protection} {i : SensorId} (h : p.copies[i].enabled = true) :
    (p.sensorLevel i).val =
      max (max (if p.copies[i].conds.rolling then p.map[0].val else 0) (if p.copies[i].conds.tilted then p.map[1].val else 0))
        (max (if p.copies[i].conds.jolt then p.map[3].val else 0) (if p.copies[i].conds.blind then p.map[2].val else 0)) := by
  simp only [Protection.sensorLevel, h, if_true, maxLevel_val, levelTerm_val]
  rfl

theorem someFalling_iff (p : Protection) :
    p.someFalling = true ↔ ∃ i : SensorId, p.copies[i].enabled = true ∧ p.copies[i].conds.falling = true := by
  have listed : ∀ i : SensorId, i ∈ allSensors := by decide
  simp [Protection.someFalling, listed]

theorem caseWide_val (p : Protection) :
    p.caseWide.val = max (if p.someFalling then p.map[4].val else 0) (if p.latchCopy then p.map[5].val else 0) := by
  simp only [Protection.caseWide, maxLevel_val, levelTerm_val]
  rfl

theorem impact_le_caseWide {p : Protection} (h : p.latchCopy = true) : p.map[5].val ≤ p.caseWide.val := by
  rw [caseWide_val, h]
  exact le_max_right _ _

/-- As `caseWide_val`, with any Boolean that says whether an enabled copy has Falling. -/
theorem caseWide_val_of_falling {p : Protection} {f : Bool}
    (h : f = true ↔ ∃ i : SensorId, p.copies[i].enabled = true ∧ p.copies[i].conds.falling = true) :
    p.caseWide.val = max (if f then p.map[4].val else 0) (if p.latchCopy then p.map[5].val else 0) := by
  have same : f = p.someFalling := Bool.eq_iff_iff.mpr (h.trans (someFalling_iff p).symm)
  rw [same, caseWide_val]

/-! ### The rule's table: sensor 1 alone enabled, or none (R103) -/

/-- The default Level Map, with sensor 1's copy and the latch copy as given and the other copies disabled. -/
def onlySensor1 (c : MotionCopy) (latch : Bool) : Protection :=
  { State.reset.prot with copies := #v[⟨false, .clear⟩, c, ⟨false, .clear⟩, ⟨false, .clear⟩], latchCopy := latch }

theorem sensorLevel_congr {p q : Protection} {i : SensorId} (map : p.map = q.map) (copy : p.copies[i] = q.copies[i]) :
    p.sensorLevel i = q.sensorLevel i := by
  simp only [Protection.sensorLevel, Protection.rolling, Protection.tilted, Protection.jolt, Protection.blind, map, copy]

theorem caseWide_congr {p q : Protection} (map : p.map = q.map) (falling : p.someFalling = q.someFalling)
    (latch : p.latchCopy = q.latchCopy) : p.caseWide = q.caseWide := by
  simp only [Protection.caseWide, Protection.falling, Protection.impact, map, falling, latch]

/-- Falling of the case is that of sensor 1 while the other copies are disabled. -/
theorem someFalling_of_only_sensor1 {p : Protection} (h0 : p.copies[0].enabled = false) (h2 : p.copies[2].enabled = false)
    (h3 : p.copies[3].enabled = false) : p.someFalling = (p.copies[1].enabled && p.copies[1].conds.falling) := by
  simp [Protection.someFalling, allSensors, h0, h2, h3]

/-- The two levels read nothing else: the conditions that a disabled copy keeps do not count. -/
theorem levels_of_only_sensor1 {p : Protection} (map : p.map = State.reset.prot.map) (h0 : p.copies[0].enabled = false)
    (h2 : p.copies[2].enabled = false) (h3 : p.copies[3].enabled = false) {c : MotionCopy} {latch : Bool}
    (copy : p.copies[1] = c) (hl : p.latchCopy = latch) :
    p.sensorLevel 1 = (onlySensor1 c latch).sensorLevel 1 ∧ p.caseWide = (onlySensor1 c latch).caseWide := by
  refine ⟨sensorLevel_congr map copy, caseWide_congr map ?_ hl⟩
  rw [someFalling_of_only_sensor1 h0 h2 h3, someFalling_of_only_sensor1 (p := onlySensor1 c latch) rfl rfl rfl, copy]
  rfl

/-! ### The zone levels (R104) -/

theorem maxLevel_eq_or (a b : Level) : maxLevel a b = a ∨ maxLevel a b = b := by
  unfold maxLevel
  split
  · exact .inr rfl
  · exact .inl rfl

theorem computeLevels_sensor (p : Protection) (i : SensorId) :
    p.computeLevels.sensor[i] = maxLevel p.caseWide (p.sensorLevel i) := by
  fin_cases i <;> rfl

theorem computeLevels_all_val (p : Protection) :
    p.computeLevels.all.val = max p.caseWide.val
      (max (max (p.sensorLevel 0).val (p.sensorLevel 1).val) (max (p.sensorLevel 2).val (p.sensorLevel 3).val)) := by
  simp only [Protection.computeLevels, maxLevel_val]

theorem caseWide_le_all (p : Protection) : p.caseWide.val ≤ p.computeLevels.all.val := by
  rw [computeLevels_all_val]
  exact le_max_left _ _

theorem sensorLevel_le_all (p : Protection) (i : SensorId) : (p.sensorLevel i).val ≤ p.computeLevels.all.val := by
  rw [computeLevels_all_val]
  fin_cases i <;> simp

/-- The level of zone All is one of those it is taken from. -/
theorem all_eq_caseWide_or_sensorLevel (p : Protection) :
    p.computeLevels.all = p.caseWide ∨ ∃ i : SensorId, p.computeLevels.all = p.sensorLevel i := by
  have ofPair : ∀ {l : Level} (i j : SensorId), l = maxLevel (p.sensorLevel i) (p.sensorLevel j) → ∃ k, l = p.sensorLevel k := by
    rintro l i j rfl
    exact (maxLevel_eq_or _ _).elim (⟨i, ·⟩) (⟨j, ·⟩)
  obtain wide | sensors := maxLevel_eq_or p.caseWide
      (maxLevel (maxLevel (p.sensorLevel 0) (p.sensorLevel 1)) (maxLevel (p.sensorLevel 2) (p.sensorLevel 3)))
  · exact .inl wide
  · obtain low | high := maxLevel_eq_or (maxLevel (p.sensorLevel 0) (p.sensorLevel 1))
      (maxLevel (p.sensorLevel 2) (p.sensorLevel 3))
    · exact .inr (ofPair 0 1 (sensors.trans low))
    · exact .inr (ofPair 2 3 (sensors.trans high))

/-- A disabled sensor's level is 0: where zone All takes it, the case-wide level is 0 too. -/
theorem all_eq_caseWide_or_enabled (p : Protection) :
    p.computeLevels.all = p.caseWide
      ∨ ∃ i : SensorId, p.copies[i].enabled = true ∧ p.computeLevels.all = p.sensorLevel i := by
  obtain wide | ⟨i, sensor⟩ := all_eq_caseWide_or_sensorLevel p
  · exact .inl wide
  · cases enabled : p.copies[i].enabled with
    | true => exact .inr ⟨i, enabled, sensor⟩
    | false =>
      have zero : p.computeLevels.all.val = 0 := by rw [sensor, sensorLevel_of_disabled enabled]; rfl
      have le := caseWide_le_all p
      exact .inl (Fin.ext (by omega))

theorem caseWide_le_of (p : Protection) (z : Zone) : p.caseWide.val ≤ (p.computeLevels.of z).val := by
  cases z with
  | sensor i =>
    rw [ZoneLevels.of, computeLevels_sensor, maxLevel_val]
    exact le_max_left _ _
  | all => exact caseWide_le_all p

theorem of_le_all (p : Protection) (z : Zone) : (p.computeLevels.of z).val ≤ p.computeLevels.all.val := by
  cases z with
  | sensor i =>
    rw [ZoneLevels.of, computeLevels_sensor, maxLevel_val]
    exact max_le (caseWide_le_all p) (sensorLevel_le_all p i)
  | all => exact le_rfl

/-! ### The Case Alert Level (R104) -/

theorem case_val (z : ZoneLevels) :
    z.case.val = max (max (max (z.of (.sensor 0)).val (z.of (.sensor 1)).val)
      (max (z.of (.sensor 2)).val (z.of (.sensor 3)).val)) (z.of .all).val := by
  simp only [ZoneLevels.case, maxLevel_val]
  rfl

/-- No sensor's zone stands above zone All, so the greatest of the five is the level of zone All. -/
theorem case_computeLevels (p : Protection) : p.computeLevels.case = p.computeLevels.all := by
  have le := of_le_all p
  exact Fin.ext ((case_val _).trans (max_eq_right (max_le (max_le (le _) (le _)) (max_le (le _) (le _)))))

theorem caseLevel_of_levelsHold {s : State} (h : s.LevelsHold) : s.caseLevel = s.prot.computeLevels.all := by
  rw [State.caseLevel, h.1, case_computeLevels]

theorem alertHolds_of_level {s : State} (mask : s.timing.alertMask.getLsbD 0 = true)
    (reached : s.timing.alertThreshold ≤ s.caseLevel.val) : s.alertHolds = true := by
  simp [State.alertHolds, State.sourceLevel, mask, reached]

end Sys2Proof.Machine

namespace Sys2Proof.Proofs

open Sys2Proof.Machine

/-- Settles O17: the clauses of R103 and R104 are the lemmas above; the rows of the table are evaluated from the one copy that
counts. -/
theorem r103LevelsAndTheZonesAboveThem : Obligations.R103LevelsAndTheZonesAboveThem := by
  unfold Obligations.R103LevelsAndTheZonesAboveThem
  refine ⟨fun p i => ⟨fun h => congrArg Fin.val (sensorLevel_of_disabled h), sensorLevel_val_of_enabled⟩,
    fun p f => caseWide_val_of_falling, ?rows,
    fun p i => by rw [computeLevels_sensor, maxLevel_val],
    fun p => ⟨caseWide_le_all p, fun i _ => sensorLevel_le_all p i, all_eq_caseWide_or_enabled p⟩,
    fun s h => ⟨?caseLevel, ?greatest, ?latched⟩,
    fun s => alertHolds_of_level, fun s => rfl, fun s b => ⟨rfl, rfl⟩⟩
  case rows =>
    intro p map h0 h2 h3
    have row {c : MotionCopy} {latch : Bool} := levels_of_only_sensor1 (c := c) (latch := latch) map h0 h2 h3
    refine ⟨?_, ?_, ?_, ?_, ?_⟩ <;> intro copy latch <;> rw [(row copy latch).1, (row copy latch).2] <;> decide
  case caseLevel => rw [caseLevel_of_levelsHold h, h.1]
  case greatest =>
    intro z
    rw [caseLevel_of_levelsHold h, h.1]
    exact of_le_all _ z
  case latched =>
    intro latch z
    rw [h.1]
    exact (impact_le_caseWide (h.2.trans latch)).trans (caseWide_le_of _ z)

end Sys2Proof.Proofs
end

section
/-! PROOFS. The Level Action Table normalized at use (R108): the entries up to a level, the strongest of their actions and what all
of them permit, and O18 from them. -/

namespace Sys2Proof.Machine

/-! ### The order of the actions (R107) -/

theorem stronger_code (a b : Action) : (a.stronger b).code = max a.code b.code := by
  unfold Action.stronger
  split <;> omega

theorem stronger_eq_or (a b : Action) : a.stronger b = a ∨ a.stronger b = b := by
  unfold Action.stronger
  split
  · exact .inr rfl
  · exact .inl rfl

/-- The strongest of a start and the actions of a list is not weaker than any of them. -/
theorem le_foldl_stronger (es : List ActionEntry) (a : Action) :
    a.code ≤ (es.foldl (fun a e => a.stronger e.action) a).code
      ∧ ∀ e ∈ es, e.action.code ≤ (es.foldl (fun a e => a.stronger e.action) a).code := by
  induction es generalizing a with
  | nil => exact ⟨le_rfl, nofun⟩
  | cons e es ih =>
    obtain ⟨start, rest⟩ := ih (a.stronger e.action)
    rw [stronger_code] at start
    exact ⟨(le_max_left _ _).trans start, List.forall_mem_cons.mpr ⟨(le_max_right _ _).trans start, rest⟩⟩

/-- The strongest of a start and the actions of a list is one of them. -/
theorem foldl_stronger_mem (es : List ActionEntry) (a : Action) :
    es.foldl (fun a e => a.stronger e.action) a = a
      ∨ ∃ e ∈ es, e.action = es.foldl (fun a e => a.stronger e.action) a := by
  induction es generalizing a with
  | nil => exact .inl rfl
  | cons e es ih =>
    obtain start | ⟨f, mem, eq⟩ := ih (a.stronger e.action)
    · obtain first | first := stronger_eq_or a e.action
      · exact .inl (start.trans first)
      · exact .inr ⟨e, List.mem_cons_self, (start.trans first).symm⟩
    · exact .inr ⟨f, List.mem_cons_of_mem _ mem, eq⟩

/-! ### The entries up to a level, their action and their permissions (R108) -/

theorem mem_entriesTo {p : Protection} {l : Level} {e : ActionEntry} :
    e ∈ p.entriesTo l ↔ ∃ k : Level, k.val ≤ l.val ∧ p.actions[k] = e := by
  rw [Protection.entriesTo, List.mem_take_iff_getElem]
  constructor
  · rintro ⟨i, bound, rfl⟩
    simp only [Vector.length_toList] at bound
    exact ⟨⟨i, by omega⟩, show i ≤ l.val by omega, rfl⟩
  · rintro ⟨k, le, rfl⟩
    exact ⟨k.val, by simp only [Vector.length_toList]; omega, rfl⟩

theorem entry_code_le_action (p : Protection) {l k : Level} (h : k.val ≤ l.val) :
    (p.actions[k]).action.code ≤ (p.action l).code :=
  (le_foldl_stronger _ _).2 _ (mem_entriesTo.mpr ⟨k, h, rfl⟩)

theorem action_eq_none_or_entry (p : Protection) (l : Level) :
    p.action l = .none ∨ ∃ k : Level, k.val ≤ l.val ∧ (p.actions[k]).action = p.action l := by
  obtain none | ⟨e, mem, eq⟩ := foldl_stronger_mem (p.entriesTo l) .none
  · exact .inl none
  · obtain ⟨k, le, rfl⟩ := mem_entriesTo.mp mem
    exact .inr ⟨k, le, eq⟩

theorem permits_iff (p : Protection) (l : Level) (a : AdmKind) :
    p.permits l a = true ↔ ∀ k : Level, k.val ≤ l.val → (p.actions[k]).permits a = true := by
  rw [Protection.permits, List.all_eq_true]
  exact ⟨fun h k le => h _ (mem_entriesTo.mpr ⟨k, le, rfl⟩),
    fun h e mem => by obtain ⟨k, le, rfl⟩ := mem_entriesTo.mp mem; exact h k le⟩

/-- The entry that gives the action of the lower level also stands below the higher one. -/
theorem action_code_mono (p : Protection) {l m : Level} (h : l.val ≤ m.val) : (p.action l).code ≤ (p.action m).code := by
  obtain none | ⟨k, le, eq⟩ := action_eq_none_or_entry p l
  · rw [none]
    exact Nat.zero_le _
  · rw [← eq]
    exact entry_code_le_action p (le.trans h)

/-- The entry that forbids the kind at the lower level also stands below the higher one. -/
theorem permits_eq_false_mono (p : Protection) {l m : Level} {a : AdmKind} (h : l.val ≤ m.val) (forbidden : p.permits l a = false) :
    p.permits m a = false := by
  rw [Bool.eq_false_iff, ne_eq, permits_iff] at forbidden ⊢
  exact fun permitted => forbidden fun k le => permitted k (le.trans h)

/-- A read of the Level Action Table returns the stored entry (R151). -/
theorem tableEntry_levelAction (s : State) (l : Level) : s.tableEntry 4 l.val = s.prot.actions[l].bytes :=
  dif_pos l.isLt

end Sys2Proof.Machine

namespace Sys2Proof.Proofs

open Sys2Proof.Machine

/-- Settles O18: the general clauses are the lemmas above; the example table reads only its six given entries and is evaluated. -/
theorem r108ActionsAndPermits : Obligations.R108ActionsAndPermits := by
  unfold Obligations.R108ActionsAndPermits
  refine ⟨fun p l => ⟨fun k => entry_code_le_action p, action_eq_none_or_entry p l, permits_iff p l .load,
      permits_iff p l .spinUp⟩,
    fun p l m a le => ⟨action_code_mono p le, permits_eq_false_mono p le⟩, tableEntry_levelAction, ?table⟩
  case table =>
    rintro ⟨map, actions, copies, latch, levels⟩ x y rfl
    exact ⟨rfl, rfl, rfl⟩

end Sys2Proof.Proofs
end

section
/-! PROOFS. What an event is made of: the elementary changes, each with what the invariants of chapters 1 to 6 and 10 need to know of it,
and one lemma per operation that says that its work is a sequence of them. -/

namespace Sys2Proof.Machine

set_option Elab.async false

/-! ### Elementary changes -/

/-- No Admission Queue entry rests on bay `b`'s head: the head is in another phase than Admitting, or the bay has no entry (R62). -/
def State.Unadmitted (s : State) (b : Bay) : Prop :=
  (∀ r, s.head b = some r → r.phase ≠ .admitting) ∨ ∀ e ∈ s.adm.queue, e.bay ≠ b

/-- The individual exchanges for a bay in the two queues (R127). -/
def BusController.individuals (u : BusController) (b : Bay) : List Exchange := (u.urgent ++ u.normal).filter (·.individual b)

/-- What an event may do besides its ordinary work: `moves`, take an Empty bay to another state or capture
a fault; `removes`, change a reservation holder
or remove a drive; `releases`, release the First Fault Record. -/
structure Leave where
  moves : Bool
  removes : Bool
  releases : Bool

/-- The kind and the phase of a queue's first entry. -/
def headMark (q : List Request) : Option (ReqKind × Phase) := q.head?.map fun r => (r.kind, r.phase)

/-- `r` may take the place of bay `b`'s record: the books are the same, what is new in the waiting place is the bay's own, the queue
fits where it did, and the head's kind and phase stay where an Admission Queue entry may rest on them. -/
structure BayKept (l : Leave) (s : State) (b : Bay) (r : BayRecord) : Prop where
  state : r.state = (s.bay b).state
  cls : r.cls = (s.bay b).cls
  reservation : r.reservation = (s.bay b).reservation
  holder : r.holder = (s.bay b).holder ∨ l.removes = true
  waiting : ∀ x ∈ r.waiting, x ∈ (s.bay b).waiting ∨ x.target = .bay b
  fits : (s.bay b).queue.length ≤ Config.bayQueuePlaces → r.queue.length ≤ Config.bayQueuePlaces
  head : headMark r.queue = headMark (s.bay b).queue ∨ s.Unadmitted b

/-- The elementary changes. -/
inductive Change (l : Leave) (s : State) : State → Prop
  /-- Neither bays, nor admission, nor bus; notices only leave their queue. -/
  | aside {t : State} (bays : t.bays = s.bays) (adm : t.adm = s.adm) (bus : t.bus = s.bus)
      (notices : t.notices.queue.Sublist s.notices.queue) (ffr : t.ffr = s.ffr ∨ l.releases = true) : Change l s t
  | bay {b : Bay} {f : BayRecord → BayRecord} (kept : BayKept l s b (f (s.bay b))) : Change l s (s.updBay b f)
  | put {b : Bay} {st : BayState} (leave : l.moves = true ∨ (s.bay b).state ≠ .empty ∨ st = .empty) : Change l s (putState b st s)
  | post (n : Notice) : Change l s (postNotice n s)
  | capture (x : Subject) (c : Cause) (n : Nat) (w : Work) (leave : l.moves = true) : Change l s (captureFault x c n w s)
  /-- Entries only leave the Admission Queue. -/
  | adm {f : Admission → Admission} (profiles : (f s.adm).profiles = s.adm.profiles)
      (committed : (f s.adm).committed = s.adm.committed) (queue : (f s.adm).queue.Sublist s.adm.queue) : Change l s (s.updAdm f)
  /-- A head enters the Admission Queue (R35, R63). -/
  | join {b : Bay} {k : AdmKind} {r : Request} (head : s.head b = some r) (kind : r.kind = k.request)
      (state : (s.bay b).state ≠ .empty) (free : s.Unadmitted b) :
      Change l s (setPhase b .admitting (s.updAdm fun a => { a with queue := a.queue ++ [{ bay := b, kind := k }] }))
  /-- The head of the Admission Queue is admitted (R68). -/
  | granted {e : AdmEntry} {rest : List AdmEntry} (queue : s.adm.queue = e :: rest) :
      Change l s (changeState e.bay e.kind.state (setPhase e.bay .issued (s.updAdm fun a => { a with queue := a.queue.tail })))
  /-- No queue gains an individual exchange, and no exchange becomes current. -/
  | bus {f : BusController → BusController} (queued : ∀ b, ((f s.bus).individuals b).length ≤ (s.bus.individuals b).length)
      (current : ∀ c, (f s.bus).current = some c → ∃ d, s.bus.current = some d ∧ c.ex = d.ex) : Change l s (s.updBus f)
  /-- An exchange joins a queue where no other stands for its bay (R127, R136). -/
  | enqueue {x : Exchange} (alone : ∀ b, x.individual b = true → s.bus.individuals b = []
      ∧ ∀ c, s.bus.current = some c → c.ex.individual b = true → c.ex.owner = .protective) : Change l s (enqueue x s)
  /-- A waiting exchange moves up (R136). -/
  | release {b : Bay} {x : Exchange} {rest : List Exchange} (waits : (s.bay b).waiting = x :: rest)
      (queued : s.queuedFor b = false) (current : s.currentFor b = false) : Change l s (enqueue x (updWaiting b (fun _ => rest) s))
  /-- A chosen exchange becomes current (R128). -/
  | start {x y : Exchange} {t : State} (chosen : s.choose = some (x, t)) (target : y.target = x.target) (owner : y.owner = x.owner) :
      Change l s (makeCurrent y t)
  /-- The record of a removed drive (R22). -/
  | remove {b : Bay} (leave : l.removes = true) : Change l s (leaveAdmission b (s.updBay b (·.removed)))
  /-- Profiles or a class are written and the reservations booked anew (R4, R57). -/
  | rebook {t : State} (books : s.Balanced → t.Balanced)
      (bays : ∀ b, (t.bay b).state = (s.bay b).state ∧ (t.bay b).holder = (s.bay b).holder ∧ (t.bay b).queue = (s.bay b).queue
        ∧ (t.bay b).waiting = (s.bay b).waiting)
      (queue : t.adm.queue = s.adm.queue) (bus : t.bus = s.bus) (notices : t.notices = s.notices) (ffr : t.ffr = s.ffr) : Change l s t

/-- A sequence of elementary changes. -/
abbrev Works (l : Leave) : State → State → Prop := Relation.ReflTransGen (Change l)

variable {l : Leave}

/-- A promise that every elementary change keeps is kept by a sequence of them. -/
theorem Works.keeps {P : State → Prop} (h : ∀ s t, Change l s t → P s → P t) {s t : State} (w : Works l s t) (hs : P s) : P t := by
  induction w with
  | refl => exact hs
  | tail _ c ih => exact h _ _ c ih

/-- A pass over a list is a sequence of changes when each visit is. -/
theorem Works.foldl {α : Type} {f : State → α → State} (h : ∀ s a, Works l s (f s a)) (as : List α) (s : State) :
    Works l s (as.foldl f s) := by
  induction as generalizing s with
  | nil => exact .refl
  | cons a as ih => exact (h s a).trans (ih _)

theorem ite_works {c : Prop} [Decidable c] {s t u : State} (h : c → Works l s t) (k : ¬ c → Works l s u) :
    Works l s (if c then t else u) := by
  split
  · exact h ‹_›
  · exact k ‹_›

/-- What touches neither bays, nor admission, nor bus, notices or faults. -/
theorem aside_works {s t : State} (bays : t.bays = s.bays := by rfl) (adm : t.adm = s.adm := by rfl) (bus : t.bus = s.bus := by rfl)
    (notices : t.notices.queue = s.notices.queue := by rfl) (ffr : t.ffr = s.ffr := by rfl) : Works l s t :=
  .single (.aside bays adm bus (by rw [notices]) (.inl ffr))

/-! ### Bay Records -/

/-- A write at a Bay Record that leaves its books, its queue and its waiting place. -/
theorem mark_works {s : State} {b : Bay} {f : BayRecord → BayRecord}
    (h : ∀ r, (f r).state = r.state ∧ (f r).cls = r.cls ∧ (f r).reservation = r.reservation ∧ (f r).holder = r.holder
      ∧ (f r).waiting = r.waiting ∧ (f r).queue = r.queue := by intro r; exact ⟨rfl, rfl, rfl, rfl, rfl, rfl⟩) :
    Works l s (s.updBay b f) := by
  obtain ⟨h1, h2, h3, h4, h5, h6⟩ := h (s.bay b)
  exact .single (.bay ⟨h1, h2, h3, .inl h4, fun x hx => .inl (h5 ▸ hx), fun q => h6 ▸ q, .inl (by rw [h6])⟩)

theorem setSlot_works (b : Bay) (op : Option ProtOp) (s : State) : Works l s (setSlot b op s) := mark_works

theorem setDeadline_works (b : Bay) (d : Option OpDeadline) (s : State) : Works l s (setDeadline b d s) := mark_works

theorem freshDeadline_works (b : Bay) (s : State) : Works l s (freshDeadline b s) := setDeadline_works _ _ _

theorem countBay_works (b : Bay) (s : State) : Works l s (countBay b s) := mark_works

theorem storeReport_works (b : Bay) (rep : Report) (s : State) : Works l s (storeReport b rep s) := mark_works

theorem surveyKnown_works (b : Bay) (s : State) : Works l s (surveyKnown b s) := by
  unfold surveyKnown
  exact ite_works (fun _ => mark_works) fun _ => .refl

theorem postNotice_works (n : Notice) (s : State) : Works l s (postNotice n s) := .single (.post n)

theorem changeState_works {b : Bay} {st : BayState} {s : State}
    (leave : l.moves = true ∨ (s.bay b).state ≠ .empty ∨ st = .empty) : Works l s (changeState b st s) := by
  unfold changeState
  exact ite_works (fun _ => .refl) fun _ => .tail (.single (.put leave)) (.post _)

theorem placeReply_works (r : Reply) (s : State) : Works l s (placeReply r s) := aside_works

theorem recordMember_works (g : Fin 8) (b : Bay) (c : Completion) (s : State) : Works l s (recordMember g b c s) := by
  unfold recordMember
  split
  · exact .refl
  · exact ite_works (fun _ => aside_works) fun _ => aside_works

theorem deliver_works (b : Bay) (r : Request) (c : Completion) (p : List Byte) (s : State) : Works l s (deliver b r c p s) := by
  unfold deliver
  split
  · exact .refl
  · exact placeReply_works _ _
  · exact recordMember_works _ _ _ _

/-! ### Heads as they stand -/

/-- An operation that leaves the bay queues and the Admission Queue leaves the heads and what rests on them. -/
structure HeadsStay (s t : State) : Prop where
  queue : ∀ b, (t.bay b).queue = (s.bay b).queue
  admission : t.adm.queue = s.adm.queue

theorem HeadsStay.refl (s : State) : HeadsStay s s := ⟨fun _ => rfl, rfl⟩

theorem HeadsStay.trans {s t u : State} (h : HeadsStay s t) (k : HeadsStay t u) : HeadsStay s u :=
  ⟨fun b => (k.queue b).trans (h.queue b), k.admission.trans h.admission⟩

theorem HeadsStay.head {s t : State} (h : HeadsStay s t) (b : Bay) : t.head b = s.head b := by
  simp only [State.head, h.queue b]

theorem HeadsStay.unadmitted {s t : State} (h : HeadsStay s t) {b : Bay} : t.Unadmitted b ↔ s.Unadmitted b := by
  simp only [State.Unadmitted, h.head b, h.admission]

theorem updBay_stays {s : State} {b : Bay} {f : BayRecord → BayRecord} (h : ∀ r, (f r).queue = r.queue := by intro r; rfl) :
    HeadsStay s (s.updBay b f) := by
  refine ⟨fun c => ?_, rfl⟩
  rw [updBay_bay]
  split
  · next e => rw [h, e]
  · rfl

theorem updBus_stays (f : BusController → BusController) (s : State) : HeadsStay s (s.updBus f) := ⟨fun _ => rfl, rfl⟩

theorem enqueue_stays (x : Exchange) (s : State) : HeadsStay s (enqueue x s) := updBus_stays _ _

theorem updWaiting_stays (b : Bay) (f : List Exchange → List Exchange) (s : State) : HeadsStay s (updWaiting b f s) := updBay_stays

theorem placeFor_stays (b : Bay) (x : Exchange) (s : State) : HeadsStay s (placeFor b x s) := by
  unfold placeFor
  split
  · exact updWaiting_stays _ _ _
  · exact enqueue_stays _ _

theorem releaseWaiting_stays (b : Bay) (s : State) : HeadsStay s (releaseWaiting b s) := by
  unfold releaseWaiting
  split
  · exact .refl s
  · split
    · exact .refl s
    · exact (updWaiting_stays _ _ _).trans (enqueue_stays _ _)

theorem takeOut_stays (b : Bay) (p : Exchange → Bool) (s : State) : HeadsStay s (takeOut b p s) :=
  ((updBus_stays _ s).trans updBay_stays).trans (releaseWaiting_stays _ _)

theorem leaveBaySet_stays (b : Bay) (s : State) : HeadsStay s (leaveBaySet b s) :=
  (updBus_stays _ s).trans (releaseWaiting_stays _ _)

theorem endCurrent_stays (s : State) : HeadsStay s (endCurrent s) := by
  unfold endCurrent
  split
  · exact .refl s
  · dsimp only
    split
    · exact (updBus_stays _ s).trans (releaseWaiting_stays _ _)
    · exact updBus_stays _ s

theorem countBay_stays (b : Bay) (s : State) : HeadsStay s (countBay b s) := updBay_stays

theorem disregard_stays (b : Bay) (p : Exchange → Bool) (s : State) : HeadsStay s (disregard b p s) := by
  unfold disregard
  split
  · exact .refl s
  · next c _ =>
    have h : HeadsStay s (if c.ex.owner = .survey then countBay b s else s) := by
      split
      · exact countBay_stays _ _
      · exact .refl s
    dsimp only
    split
    · split
      · exact h.trans (endCurrent_stays _)
      · exact h.trans (updBus_stays _ _)
    · exact .refl s

theorem putState_stays (b : Bay) (st : BayState) (s : State) : HeadsStay s (putState b st s) := by
  refine ⟨fun c => ?_, rfl⟩
  simp only [putState, setReservation, updBay_bay, updAdm_bay]
  split
  · next e => simp [e]
  · rfl

theorem changeState_stays (b : Bay) (st : BayState) (s : State) : HeadsStay s (changeState b st s) := by
  unfold changeState
  split
  · exact .refl s
  · exact (putState_stays b st s).trans ⟨fun _ => rfl, rfl⟩

theorem undoAdmission_stays (b : Bay) (x : Exchange) (s : State) : HeadsStay s (undoAdmission b x s) := by
  unfold undoAdmission
  split
  · dsimp only
    split
    · exact (changeState_stays _ _ _).trans (disregard_stays _ _ _)
    · exact changeState_stays _ _ _
  · exact .refl s

theorem withdrawHead_stays (b : Bay) (s : State) : HeadsStay s (withdrawHead b s) := by
  unfold withdrawHead
  split
  · exact .refl s
  · exact (takeOut_stays _ _ _).trans (undoAdmission_stays _ _ _)

/-! ### The exchange queues -/

theorem individual_iff {x : Exchange} {b : Bay} : x.individual b = true ↔ x.target = .bay b := by
  simp [Exchange.individual]

theorem serves_of_individual {x : Exchange} {b : Bay} (h : x.individual b = true) : x.serves b = true := by
  simp [Exchange.serves, individual_iff.mp h]

theorem individuals_of_not_queued {s : State} {b : Bay} (h : s.queuedFor b = false) : s.bus.individuals b = [] := by
  rw [BusController.individuals, List.filter_eq_nil_iff]
  simp only [State.queuedFor, Bool.or_eq_false_iff, List.any_eq_false] at h
  intro x hx hi
  rcases List.mem_append.mp hx with hu | hn
  · exact h.1 x hu (serves_of_individual hi)
  · exact h.2 x hn (serves_of_individual hi)

theorem current_not_individual {s : State} {b : Bay} (h : s.currentFor b = false) {c : Current} (hc : s.bus.current = some c) :
    c.ex.individual b = false := by
  simp only [State.currentFor, hc] at h
  by_contra hi
  rw [serves_of_individual (by simpa using hi)] at h
  exact absurd h (by decide)

/-- Where nothing stands for the bay an exchange of it stands alone in its queue. -/
theorem enqueue_alone_works {s : State} {b : Bay} {x : Exchange} (hx : x.target = .bay b) (hq : s.queuedFor b = false)
    (hc : ∀ c, s.bus.current = some c → c.ex.individual b = true → c.ex.owner = .protective) : Works l s (enqueue x s) := by
  refine .single (.enqueue fun d hd => ?_)
  obtain rfl : b = d := by simpa [individual_iff, hx] using hd
  exact ⟨individuals_of_not_queued hq, hc⟩

/-- What is put into a waiting place is the bay's own. -/
theorem updWaiting_works {b : Bay} {f : List Exchange → List Exchange} {s : State}
    (h : ∀ x ∈ f (s.bay b).waiting, x ∈ (s.bay b).waiting ∨ x.target = .bay b) : Works l s (updWaiting b f s) :=
  .single (.bay ⟨rfl, rfl, rfl, .inl rfl, h, id, .inl rfl⟩)

/-- A write at the bus that takes exchanges out of the queues and leaves the current one. -/
theorem thin_works {s : State} {f : BusController → BusController}
    (h : ∀ b, ((f s.bus).individuals b).length ≤ (s.bus.individuals b).length)
    (hc : (f s.bus).current = s.bus.current := by rfl) : Works l s (s.updBus f) :=
  .single (.bus h fun c e => ⟨c, by rw [← hc, e], rfl⟩)

theorem individuals_filter_le (b : Bay) (p q : Exchange → Bool) (u v : List Exchange) :
    (((u.filter p) ++ (v.filter q)).filter (·.individual b)).length ≤ ((u ++ v).filter (·.individual b)).length :=
  (List.Sublist.filter _ (List.filter_sublist.append List.filter_sublist)).length_le

theorem releaseWaiting_works (b : Bay) (s : State) : Works l s (releaseWaiting b s) := by
  unfold releaseWaiting
  split
  · exact .refl
  · next x rest hw =>
    split
    · exact .refl
    · next h =>
      simp only [Bool.or_eq_true, not_or, Bool.not_eq_true] at h
      exact .single (.release hw h.1 h.2)

theorem placeFor_works {b : Bay} {x : Exchange} {s : State} (hx : x.target = .bay b) : Works l s (placeFor b x s) := by
  unfold placeFor
  split
  · exact updWaiting_works fun y hy => by
      rcases List.mem_append.mp hy with h | h
      · exact .inl h
      · exact .inr (by rw [List.mem_singleton.mp h, hx])
  · next h =>
    simp only [Bool.or_eq_true, not_or, Bool.not_eq_true] at h
    exact enqueue_alone_works hx h.1 fun c hc hi => absurd hi (by simp [current_not_individual h.2 hc])

theorem takeOut_works (b : Bay) (p : Exchange → Bool) (s : State) : Works l s (takeOut b p s) := by
  refine ((thin_works (l := l) (s := s) fun c => ?_).trans (.single (.bay ?_))).trans (releaseWaiting_works _ _)
  · exact individuals_filter_le _ _ _ _ _
  · exact ⟨rfl, rfl, rfl, .inl rfl, fun x hx => .inl (List.mem_of_mem_filter hx), id, .inl rfl⟩

/-- A change of the bay sets of all-bays frames does not touch the individual exchanges. -/
theorem individuals_map (b : Bay) {f : Exchange → Exchange} (h : ∀ x, (f x).target = x.target)
    (hf : ∀ x, x.target ≠ .allBays → f x = x) (u : List Exchange) :
    (u.map f).filter (·.individual b) = u.filter (·.individual b) := by
  induction u with
  | nil => rfl
  | cons x u ih =>
    rw [List.map_cons, List.filter_cons, List.filter_cons, ih]
    by_cases hx : x.target = .allBays
    · simp [Exchange.individual, h, hx]
    · rw [hf x hx]

theorem leaveBaySet_works (b : Bay) (s : State) : Works l s (leaveBaySet b s) := by
  refine (thin_works (l := l) (s := s) fun c => ?_).trans (releaseWaiting_works _ _)
  simp only [BusController.individuals, List.filter_append, List.length_append, Nat.add_le_add_iff_right]
  refine (List.Sublist.filter _ List.filter_sublist).length_le.trans (le_of_eq (congrArg _ (individuals_map c ?_ ?_ _)))
  · intro x; split <;> rfl
  · intro x hx; rw [if_neg hx]

theorem updCurrent_works {f : Current → Current} {s : State} (h : ∀ c, (f c).ex = c.ex := by intro c; rfl) :
    Works l s (updCurrent f s) := by
  refine .single (.bus (fun _ => le_rfl) fun c hc => ?_)
  obtain ⟨d, hd, rfl⟩ := Option.map_eq_some_iff.mp hc
  exact ⟨d, hd, h d⟩

theorem endCurrent_works (s : State) : Works l s (endCurrent s) := by
  unfold endCurrent
  split
  · exact .refl
  · have h : Works l s (s.updBus fun u =>
        { u with current := none, transaction := if u.transaction = .attempt then .free else u.transaction }) :=
      .single (.bus (fun _ => le_rfl) fun c hc => by cases hc)
    dsimp only
    split
    · exact h.trans (releaseWaiting_works _ _)
    · exact h

theorem disregard_works (b : Bay) (p : Exchange → Bool) (s : State) : Works l s (disregard b p s) := by
  unfold disregard
  split
  · exact .refl
  · next c _ =>
    have h : Works l s (if c.ex.owner = .survey then countBay b s else s) := ite_works (fun _ => countBay_works _ _) fun _ => .refl
    refine ite_works (fun _ => ?_) fun _ => .refl
    exact ite_works (fun _ => h.trans (endCurrent_works _)) fun _ => h.trans updCurrent_works

theorem leaveAdmission_works (b : Bay) (s : State) : Works l s (leaveAdmission b s) :=
  .single (.adm rfl rfl List.filter_sublist)

theorem unadmitted_leaveAdmission (b : Bay) (s : State) : (leaveAdmission b s).Unadmitted b :=
  .inr fun e he => by simpa using (List.mem_filter.mp he).2

theorem undoAdmission_works {b : Bay} {x : Exchange} {s : State} (leave : l.moves = true ∨ (s.bay b).state ≠ .empty) :
    Works l s (undoAdmission b x s) := by
  have h : Works l s (changeState b x.before s) := changeState_works (leave.imp_right .inl)
  unfold undoAdmission
  refine ite_works (fun _ => ?_) fun _ => .refl
  exact ite_works (fun _ => h.trans (disregard_works _ _ _)) fun _ => h

theorem releaseWaiting_state (b c : Bay) (s : State) : ((releaseWaiting b s).bay c).state = (s.bay c).state := by
  unfold releaseWaiting
  split
  · rfl
  · split
    · rfl
    · simp only [enqueue, updWaiting, updBus_bay, updBay_bay]
      split
      · next e => rw [e]
      · rfl

theorem takeOut_state (b c : Bay) (p : Exchange → Bool) (s : State) : ((takeOut b p s).bay c).state = (s.bay c).state := by
  simp only [takeOut, releaseWaiting_state, updBay_bay, updBus_bay]
  split
  · next e => rw [e]
  · rfl

theorem withdrawHead_works {b : Bay} {s : State} (leave : l.moves = true ∨ (s.bay b).state ≠ .empty) :
    Works l s (withdrawHead b s) := by
  unfold withdrawHead
  split
  · exact .refl
  · exact (takeOut_works _ _ _).trans (undoAdmission_works (by rwa [takeOut_state]))

end Sys2Proof.Machine
end

section
/-! PROOFS. The work of bay queues, admission, protective operations and level changes is made of elementary changes. -/

namespace Sys2Proof.Machine

set_option Elab.async false

variable {l : Leave}

/-! ### Heads -/

/-- A write at the head of a bay that no Admission Queue entry rests on. -/
theorem updHead_works {b : Bay} {f : Request → Request} {s : State} (free : s.Unadmitted b) : Works l s (updHead b f s) := by
  refine .single (.bay ⟨rfl, rfl, rfl, .inl rfl, fun _ hx => .inl hx, fun h => ?_, .inr free⟩)
  dsimp only
  split
  · exact Nat.zero_le _
  · next e => rw [e] at h; exact h

/-- A write at the head of a bay that leaves its kind and phase. -/
theorem updHead_marked_works {b : Bay} {f : Request → Request} {s : State}
    (h : ∀ r, (f r).kind = r.kind ∧ (f r).phase = r.phase := by intro r; exact ⟨rfl, rfl⟩) : Works l s (updHead b f s) := by
  refine .single (.bay ⟨rfl, rfl, rfl, .inl rfl, fun _ hx => .inl hx, fun q => ?_, .inl ?_⟩)
  · dsimp only
    split
    · exact Nat.zero_le _
    · next e => rw [e] at q; exact q
  · dsimp only
    split
    · next e => rw [e]
    · next r rest e => rw [e]; simp only [headMark, List.head?_cons, Option.map_some, (h r).1, (h r).2]

theorem unadmitted_of_phase {s : State} {b : Bay} {r : Request} (h : s.head b = some r) (hp : r.phase ≠ .admitting) :
    s.Unadmitted b := .inl fun q hq => by rw [h] at hq; cases hq; exact hp

theorem unadmitted_of_empty {s : State} {b : Bay} (h : (s.bay b).queue = []) : s.Unadmitted b :=
  .inl fun q hq => by simp [State.head, h] at hq

theorem headStarted_unadmitted {s : State} {b : Bay} (h : s.headStarted b = true) : s.Unadmitted b := by
  unfold State.headStarted at h
  split at h
  · next r hr =>
    rw [Bool.and_eq_true, decide_eq_true_iff] at h
    exact unadmitted_of_phase hr (by rw [h.1]; decide)
  · exact absurd h (by decide)

theorem becomeHead_works {b : Bay} {s : State} (free : s.Unadmitted b) : Works l s (becomeHead b s) := updHead_works free

theorem setPhase_works {b : Bay} {p : Phase} {s : State} (free : s.Unadmitted b) : Works l s (setPhase b p s) := updHead_works free

/-- A bay queue replaced, where no Admission Queue entry rests on its head. -/
theorem requeue_works {b : Bay} {q : List Request} {s : State} (free : s.Unadmitted b)
    (fits : (s.bay b).queue.length ≤ Config.bayQueuePlaces → q.length ≤ Config.bayQueuePlaces) :
    Works l s (s.updBay b fun r => { r with queue := q }) :=
  .single (.bay ⟨rfl, rfl, rfl, .inl rfl, fun _ hx => .inl hx, fits, .inr free⟩)

theorem restoreCheck_works (b : Bay) (s : State) : Works l s (restoreCheck b s) := by
  unfold restoreCheck
  refine ite_works (fun h => ?_) fun _ => .refl
  have hq : (s.bay b).queue = [] := by
    simp only [State.restoreDue, Bool.and_eq_true, List.isEmpty_iff] at h
    exact h.1.2
  refine .trans (b := s.updBay b fun r => { r with restoreIntent := false, queue := [restoreRequest] }) (.single (.bay ?_))
    (becomeHead_works (unadmitted_of_phase (r := restoreRequest) (by simp [State.head]) (by decide)))
  exact ⟨rfl, rfl, rfl, .inl rfl, fun _ hx => .inl hx, fun _ => show 1 ≤ 4 by decide, .inr (unadmitted_of_empty hq)⟩

/-- A completion takes the head out, so no Admission Queue entry may rest on it. -/
theorem popHead_works {b : Bay} {c : Completion} {p : List Byte} {s : State} (free : s.Unadmitted b) :
    Works l s (popHead b c p s) := by
  unfold popHead
  split
  · exact .refl
  · exact ((requeue_works free fun _ => Nat.zero_le _).trans (deliver_works _ _ _ _ _)).trans (restoreCheck_works _ _)
  · next r next rest hq =>
    have h : Works l s (becomeHead b (s.updBay b fun e => { e with queue := next :: rest })) := by
      have e : becomeHead b (s.updBay b fun e => { e with queue := next :: rest })
          = s.updBay b fun e => { e with queue := { next with phase := .checking, wait := s.waitDeadline } :: rest } := by
        simp only [becomeHead, updHead, updBay_updBay]; rfl
      rw [e]
      exact requeue_works free fun h => by rw [hq] at h; simp only [List.length_cons] at h ⊢; omega
    exact h.trans (deliver_works _ _ _ _ _)

/-- The head check permits a kind only to a request of that kind, and never on an Empty bay (R34). -/
theorem headCheck_permit {k : ReqKind} {st : BayState} {a : AdmKind} (h : headCheck k st = .permit a) :
    k = a.request ∧ st ≠ .empty := by
  cases k <;> cases st <;> simp_all [headCheck, refusedState, already] <;> subst h <;> rfl

theorem permissionCheck_works {b : Bay} {k : AdmKind} {s : State} {r : Request} (head : s.head b = some r)
    (permit : headCheck r.kind (s.bay b).state = .permit k) (free : s.Unadmitted b) : Works l s (permissionCheck b k s) := by
  unfold permissionCheck
  exact ite_works (fun _ => .single (.join head (headCheck_permit permit).1 (headCheck_permit permit).2 free))
    fun _ => setPhase_works free

theorem issueHead_works {b : Bay} {k : ExKind} {p : List Byte} {s : State} (free : s.Unadmitted b) :
    Works l s (issueHead b k p s) :=
  .trans (placeFor_works rfl) (setPhase_works ((placeFor_stays _ _ _).unadmitted.mpr free))

theorem checkHeads_works (n : Nat) (b : Bay) (s : State) : Works l s (checkHeads n b s) := by
  induction n generalizing s with
  | zero => exact .refl
  | succ n ih =>
    unfold checkHeads
    split
    · exact .refl
    · next r hr =>
      refine ite_works (fun _ => .refl) fun hc => ?_
      have free : s.Unadmitted b := unadmitted_of_phase hr (by
        rw [show r.phase = .checking by by_contra h; exact hc (.inl h)]; decide)
      split
      · exact .refl
      · next k hk => exact permissionCheck_works hr hk free
      · exact issueHead_works free
      · exact (popHead_works free).trans (ih _)

theorem checkHead_works (b : Bay) (s : State) : Works l s (checkHead b s) := checkHeads_works 6 b s

theorem completeHead_works {b : Bay} {c : Completion} {p : List Byte} {s : State} (free : s.Unadmitted b) :
    Works l s (completeHead b c p s) := (popHead_works free).trans (checkHead_works _ _)

theorem applyOutcome_works {b : Bay} {r : Request} {s : State} (head : s.head b = some r) (free : s.Unadmitted b) :
    Works l s (applyOutcome b r (headCheck r.kind (s.bay b).state) s) := by
  unfold applyOutcome
  split
  · exact setPhase_works free
  · next k hk => exact ite_works (fun _ => setPhase_works free) fun _ => permissionCheck_works head hk free
  · exact issueHead_works free
  · exact completeHead_works free

theorem recheckDeferred_works (b : Bay) (s : State) : Works l s (recheckDeferred b s) := by
  unfold recheckDeferred
  split
  · next r hr =>
    exact ite_works (fun h => applyOutcome_works hr (unadmitted_of_phase hr (by rw [h]; decide))) fun _ => .refl
  · exact .refl

theorem restoreNow_works (b : Bay) (s : State) : Works l s (restoreNow b s) := by
  unfold restoreNow
  exact ite_works (fun _ => (restoreCheck_works _ _).trans (checkHead_works _ _)) fun _ => .refl

theorem recheckHead_works (b : Bay) (s : State) : Works l s (recheckHead b s) := by
  unfold recheckHead
  split
  · exact .refl
  · next r hr =>
    split
    · exact .refl
    · exact .refl
    · exact checkHead_works _ _
    · exact recheckDeferred_works _ _
    · refine ite_works (fun _ => .refl) fun _ => (leaveAdmission_works b s).trans ?_
      exact applyOutcome_works (s := leaveAdmission b s) hr (unadmitted_leaveAdmission b s)

/-- A request joins a queue that has a place (R30). -/
theorem appendRequest_works {b : Bay} {r : Request} {s : State} (hr : r.phase ≠ .admitting)
    (fits : (s.bay b).queue.length < Config.bayQueuePlaces) : Works l s (appendRequest b r s) := by
  have h : Works l s (s.updBay b fun e => { e with queue := e.queue ++ [r] }) := by
    refine .single (.bay ⟨rfl, rfl, rfl, .inl rfl, fun _ hx => .inl hx, fun _ => ?_, ?_⟩)
    · simp only [List.length_append, List.length_singleton]; omega
    · rcases hq : (s.bay b).queue with _ | ⟨q, qs⟩
      · exact .inr (unadmitted_of_empty hq)
      · exact .inl rfl
  unfold appendRequest
  refine ite_works (fun he => ?_) fun _ => h
  refine h.trans (.trans (becomeHead_works (unadmitted_of_phase (r := r) ?_ hr)) (checkHead_works _ _))
  simp [State.head, List.isEmpty_iff.mp he]

/-! ### Admission -/

/-- The phase of the head and the places of its bay's exchanges do not bear on each other. -/
theorem updHead_placeFor (b : Bay) (f : Request → Request) (x : Exchange) (s : State) :
    updHead b f (placeFor b x s) = placeFor b x (updHead b f s) := by
  unfold placeFor
  simp only [show (updHead b f s).queuedFor b = s.queuedFor b from rfl, show (updHead b f s).currentFor b = s.currentFor b from rfl]
  split
  · simp only [updHead, updWaiting, updBay_updBay]
  · rfl

theorem updHead_changeState (b : Bay) (f : Request → Request) (st : BayState) (s : State) :
    updHead b f (changeState b st s) = changeState b st (updHead b f s) := by
  have hb : (updHead b f s).bay b = { s.bay b with queue := match (s.bay b).queue with | [] => [] | h :: t => f h :: t } := by
    simp only [updHead, updBay_bay_same] <;> rfl
  unfold changeState
  rw [show ((updHead b f s).bay b).state = (s.bay b).state by rw [hb]]
  split
  · rfl
  · simp [postBay, postNotice, putState_eq, updHead, State.updBay, State.updNotices, State.bay, State.profileOf]

theorem startStagger_works (s : State) : Works l s (startStagger s) := .single (.adm rfl rfl (List.Sublist.refl _))

theorem grant_works {e : AdmEntry} {rest : List AdmEntry} {s : State} (h : s.adm.queue = e :: rest) : Works l s (grant e s) := by
  have hg : Works l s (setPhase e.bay .issued (placeFor e.bay (s.exchangeFor e.bay e.kind.exchange .head [])
      (changeState e.bay e.kind.state (s.updAdm fun a => { a with queue := a.queue.tail })))) := by
    rw [setPhase, updHead_placeFor, updHead_changeState]
    exact .trans (.single (.granted h)) (placeFor_works rfl)
  unfold grant
  exact ite_works (fun _ => hg.trans (startStagger_works _)) fun _ => hg

theorem examineLoop_works (n : Nat) (s : State) : Works l s (examineLoop n s) := by
  induction n generalizing s with
  | zero => exact .refl
  | succ n ih =>
    unfold examineLoop
    split
    · exact .refl
    · next h => exact ite_works (fun _ => (grant_works h).trans (ih _)) fun _ => .refl

theorem examine_works (s : State) : Works l s (examine s) := examineLoop_works _ _

theorem evaluateBudget_works (s : State) : Works l s (evaluateBudget s) := by
  unfold evaluateBudget
  exact ite_works (fun _ => .refl) fun _ => .trans (.single (.adm rfl rfl (List.Sublist.refl _))) (postNotice_works _ _)

theorem settleBudget_works (s0 s : State) : Works l s (settleBudget s0 s) := by
  unfold settleBudget
  exact ite_works (fun _ => (evaluateBudget_works _).trans (examine_works _)) fun _ => evaluateBudget_works _

theorem settleForced_works (s : State) : Works l s (settleForced s) := (evaluateBudget_works _).trans (examine_works _)

/-! ### Protective operations -/

theorem endCutShortOwner_works (x : Exchange) (s : State) : Works l s (endCutShortOwner x s) := by
  unfold endCutShortOwner
  split
  · exact ite_works (fun h => completeHead_works (headStarted_unadmitted h.2)) fun _ => .refl
  · exact countBay_works _ _
  · exact .refl

theorem cutShortCurrent_works (s : State) : Works l s (cutShortCurrent s) := by
  unfold cutShortCurrent
  split
  · exact .refl
  · refine ite_works (fun _ => .refl) fun _ => ?_
    exact ite_works (fun _ => (endCurrent_works _).trans (endCutShortOwner_works _ _)) fun _ => updCurrent_works

theorem replaceCurrent_works (b : Bay) (k : ExKind) (s : State) : Works l s (replaceCurrent b k s) := by
  unfold replaceCurrent
  split
  · exact .refl
  · refine ite_works (fun _ => .refl) fun _ => ?_
    exact ite_works (fun _ => endCurrent_works _) fun _ => updCurrent_works

theorem yieldQuery_works (b : Bay) (s : State) : Works l s (yieldQuery b s) := by
  refine .trans (thin_works fun c => ?_) (updWaiting_works fun x hx => ?_)
  · simpa [BusController.individuals] using (List.filter_sublist.filter (Exchange.individual · c)).length_le
  · rcases List.mem_append.mp hx with h | h
    · have := (List.mem_filter.mp h).2
      rw [Bool.and_eq_true] at this
      exact .inr (individual_iff.mp this.1)
    · exact .inl h

theorem placeUrgent_works (b : Bay) (k : ExKind) (s : State) : Works l s (placeUrgent b k s) := by
  unfold placeUrgent
  refine (yieldQuery_works b s).trans ?_
  generalize yieldQuery b s = s
  dsimp only
  have wait : Works l s (updWaiting b (s.exchangeFor b k .protective [] :: ·) s) := updWaiting_works fun x hx => by
    rcases List.mem_cons.mp hx with h | h
    · exact .inr (by rw [h]; rfl)
    · exact .inl h
  refine ite_works (fun _ => wait) fun hq => ?_
  split
  · next hc => exact enqueue_alone_works rfl (by simpa using hq) fun c e => by rw [hc] at e; cases e
  · next c hc =>
    refine ite_works (fun h => enqueue_alone_works rfl (by simpa using hq) fun d e hi => ?_)
      fun _ => wait.trans (cutShortCurrent_works _)
    rw [hc] at e; cases e
    rcases h with h | h
    · rw [h] at hi; cases hi
    · simp only [State.currentProtective, hc, Option.isSome_iff_exists, Option.filter_eq_some_iff] at h
      obtain ⟨d, hd, hp⟩ := h
      cases hd
      simp only [Bool.and_eq_true, decide_eq_true_iff] at hp
      exact hp.1.2

theorem dropProtective_works (b : Bay) (s : State) : Works l s (dropProtective b s) :=
  (takeOut_works _ _ _).trans (leaveBaySet_works _ _)

theorem endProtective_works (b : Bay) (g : Bool) (s : State) : Works l s (endProtective b g s) := by
  unfold endProtective
  split
  · exact .refl
  · refine .trans ?_ (checkHead_works _ _)
    have h := ((setSlot_works (l := l) b none s).trans (dropProtective_works b _)).trans
      (disregard_works b (·.owner = .protective) _)
    exact ite_works (fun _ => (h.trans mark_works).trans (restoreCheck_works _ _)) fun _ => h

theorem preemptHead_works {b : Bay} {op : ProtOp} {s : State} (leave : l.moves = true ∨ (s.bay b).state ≠ .empty) :
    Works l s (preemptHead b op s) := by
  unfold preemptHead
  split
  · exact .refl
  · next r hr =>
    split
    · exact .refl
    · exact .refl
    · exact .refl
    · exact (leaveAdmission_works b s).trans (setPhase_works (unadmitted_leaveAdmission b s))
    · next hp =>
      have free : s.Unadmitted b := unadmitted_of_phase hr (by rw [hp]; decide)
      refine ite_works (fun _ => ?_) fun _ => ite_works (fun _ => completeHead_works free) fun _ => .refl
      exact (withdrawHead_works leave).trans (setPhase_works ((withdrawHead_stays b s).unadmitted.mpr free))

theorem settleOperation_works (b : Bay) (s : State) : Works l s (settleOperation b s) := by
  unfold settleOperation
  split
  · exact .refl
  · next op _ =>
    split
    · exact endProtective_works _ _ _
    · exact (dropProtective_works _ _).trans (setSlot_works _ _ _)
    · next k _ =>
      have h := setSlot_works (l := l) b (some { op with started := false, stopPhase := k = .stop }) s
      refine ite_works (fun _ => h) fun _ => ?_
      split
      · refine ite_works (fun _ => h.trans (setSlot_works _ _ _)) fun _ => ?_
        have h' := (h.trans (dropProtective_works b _)).trans (replaceCurrent_works b k _)
        exact ite_works (fun _ => h') fun _ => h'.trans (placeUrgent_works _ _ _)
      · have h' := h.trans (dropProtective_works b _)
        exact ite_works (fun _ => h') fun _ => h'.trans (placeUrgent_works _ _ _)

/-- A protective operation finds nothing to do on an Empty bay (R112). -/
theorem protEntry_empty (k : ProtKind) : protEntry k .empty = .none := by cases k <;> rfl

theorem setSlot_state (b : Bay) (op : Option ProtOp) (s : State) : ((setSlot b op s).bay b).state = (s.bay b).state := by
  simp [setSlot]

theorem applyAction_works (b : Bay) (a : Action) (v : Level) (s : State) : Works l s (applyAction b a v s) := by
  unfold applyAction
  split
  · exact .refl
  · refine ite_works (fun _ => .refl) fun hp => ?_
    have live (op : Option ProtOp) : ((setSlot b op s).bay b).state ≠ .empty := by
      rw [setSlot_state]; intro e; rw [e] at hp; exact hp (protEntry_empty _)
    split
    · refine ite_works (fun _ => .refl) fun _ => ?_
      exact ((setSlot_works _ _ _).trans (preemptHead_works (.inr (live _)))).trans (settleOperation_works _ _)
    · exact ((setSlot_works _ _ _).trans (preemptHead_works (.inr (live _)))).trans
        ((setSlot_works _ _ _).trans (settleOperation_works _ _))

theorem placeGroupPark_works (bays : List Bay) (s : State) : Works l s (placeGroupPark bays s) := by
  unfold placeGroupPark
  extract_lets s1
  have h1 : Works l s s1 := Works.foldl (fun s b => (takeOut_works _ _ _).trans (yieldQuery_works _ _)) bays s
  refine h1.trans (thin_works (fun c => ?_) ?_)
  · split
    · simp only [BusController.individuals, List.filter_append]
      rw [individuals_map]
      · intro x; split <;> rfl
      · intro x hx; rw [if_neg hx]
    · simp [BusController.individuals, List.filter_append, Exchange.individual, allBaysPark]
  · split <;> rfl

theorem placePark_works (b : Bay) (s : State) : Works l s (placePark b s) := by
  unfold placePark
  exact ite_works (fun _ => placeUrgent_works _ _ _) fun _ => .refl

theorem placeParks_works (s : State) : Works l s (placeParks s) := by
  unfold placeParks
  refine ite_works (fun _ => ?_) fun _ => .refl
  exact ite_works (fun _ => placeGroupPark_works _ _) fun _ => Works.foldl (fun s b => placePark_works b s) _ _

/-! ### Changes of level -/

theorem forbidAdmitting_works (b : Bay) (s : State) : Works l s (forbidAdmitting b s) := by
  unfold forbidAdmitting
  split
  · exact ite_works (fun _ => (leaveAdmission_works b s).trans (setPhase_works (unadmitted_leaveAdmission b s))) fun _ => .refl
  · exact .refl

theorem visitSweep_works (w : Bool) (b : Bay) (o : Level) (s : State) : Works l s (visitSweep w b o s) := by
  unfold visitSweep
  extract_lets z s1 a s2
  have h1 : Works l s s1 := mark_works
  have h2 : Works l s1 s2 := ite_works (fun _ => .trans mark_works (applyAction_works _ _ _ _)) fun _ => .refl
  exact ite_works (fun _ => (h1.trans h2).trans (forbidAdmitting_works _ _)) fun _ => h1.trans h2

theorem visitRecheck_works (b : Bay) (s : State) : Works l s (visitRecheck b s) :=
  (recheckDeferred_works _ _).trans (restoreNow_works _ _)

/-- The visits of pass 2 (R106). -/
theorem foldl_visitRecheck_works (bays : List (Bay × Level)) (s : State) :
    Works l s (bays.foldl (fun s v => visitRecheck v.1 s) s) := by
  apply Works.foldl
  intro s v
  exact visitRecheck_works v.1 s

theorem carryOut_works (w : Bool) (bays : List (Bay × Level)) (s : State) : Works l s (carryOut w bays s) := by
  have sweep : Works l s (bays.foldl (fun s v => visitSweep w v.1 v.2 s) s) := by
    apply Works.foldl
    intro s v
    exact visitSweep_works w v.1 v.2 s
  unfold carryOut
  exact (sweep.trans ((placeParks_works _).trans (examine_works _))).trans (foldl_visitRecheck_works bays _)

theorem postLevel_works (old : ZoneLevels) (z : Zone) (s : State) : Works l s (postLevel old z s) := by
  unfold postLevel
  exact ite_works (fun _ => .refl) fun _ => postNotice_works _ _

theorem levelChange_works (w : Bool) (old : ZoneLevels) (s : State) : Works l s (levelChange w old s) :=
  (Works.foldl (fun s z => postLevel_works old z s) _ s).trans (carryOut_works _ _ _)

theorem recomputeLevels_works (w : Bool) (s : State) : Works l s (recomputeLevels w s) := by
  unfold recomputeLevels
  exact ite_works (fun _ => .refl) fun _ => .trans aside_works (levelChange_works _ _ _)

theorem handOff_works (i : SensorId) (s : State) : Works l s (handOff i s) :=
  .trans aside_works (recomputeLevels_works _ _)

theorem riseFromZero_works (bays : List Bay) (s : State) : Works l s (riseFromZero bays s) := carryOut_works _ _ _

end Sys2Proof.Machine
end

section
/-! PROOFS. The work of reports, faults, motion, the bus and the end of an event is made of elementary changes. -/

namespace Sys2Proof.Machine

set_option Elab.async false

variable {l : Leave}

/-! ### Faults and removal -/

theorem endStanding_works (b : Bay) (s : State) : Works l s (endStanding b s) :=
  ((setDeadline_works b none s).trans (setSlot_works b none _)).trans
    (((takeOut_works b (·.kind.stateChanging) _).trans (leaveBaySet_works b _)).trans (disregard_works b (fun _ => true) _))

theorem endStanding_stays (b : Bay) (s : State) : HeadsStay s (endStanding b s) :=
  (HeadsStay.trans (t := setDeadline b none s) updBay_stays (HeadsStay.trans (t := setSlot b none _) updBay_stays
    ((takeOut_stays b (·.kind.stateChanging) _).trans (leaveBaySet_stays b _)))).trans (disregard_stays b (fun _ => true) _)

theorem headEnded_unadmitted {s : State} {b : Bay} (h : s.headEnded b = true) : s.Unadmitted b := by
  unfold State.headEnded at h
  split at h
  · next r hr =>
    rw [Bool.and_eq_true, decide_eq_true_iff] at h
    exact unadmitted_of_phase hr (by rw [h.1]; decide)
  · exact absurd h (by decide)

theorem endWork_works (b : Bay) (c : Cause) (own : OwnAnswer) (s : State) : Works l s (endWork b c own s) := by
  unfold endWork
  refine (endStanding_works b s).trans (ite_works (fun h => ?_) fun _ => recheckHead_works _ _)
  have free := (endStanding_stays b s).unadmitted.mpr (headEnded_unadmitted h)
  split
  · exact completeHead_works free
  · exact completeHead_works free

theorem captureFault_works (hm : l.moves = true) (x : Subject) (c : Cause) (n : Nat) (w : Work) (s : State) : Works l s (captureFault x c n w s) :=
  .single (.capture x c n w hm)

theorem putState_works {b : Bay} {st : BayState} {s : State}
    (leave : l.moves = true ∨ (s.bay b).state ≠ .empty ∨ st = .empty) : Works l s (putState b st s) := .single (.put leave)

variable (hm : l.moves = true)
include hm

theorem faultBay_works (b : Bay) (st : BayState) (c : Cause) (n : Nat) (own : OwnAnswer) (s : State) :
    Works l s (faultBay b st c n own s) := by
  unfold faultBay
  extract_lets work changed s1 s2 captured s3 s4
  have h1 : Works l s s1 := mark_works
  have h2 : Works l s1 s2 := (putState_works (.inl hm)).trans (endWork_works _ _ _ _)
  have h3 : Works l s2 s3 := captureFault_works hm _ _ _ _ _
  have h4 : Works l s3 s4 := ite_works (fun _ => postNotice_works _ _) fun _ => .refl
  exact (((h1.trans h2).trans h3).trans h4).trans (postNotice_works _ _)

theorem driveFault_works (b : Bay) (code : Byte) (own : OwnAnswer) (s : State) : Works l s (driveFault b code own s) := by
  unfold driveFault
  exact ite_works (fun _ => .refl) fun _ => faultBay_works hm _ _ _ _ _ _

theorem timeoutFault_works (b : Bay) (k : OpKind) (s : State) : Works l s (timeoutFault b k s) := faultBay_works hm _ _ _ _ _ _

theorem followUpFault_works (b : Bay) (s : State) : Works l s (followUpFault b s) := timeoutFault_works hm _ _ _

theorem faultFrame_works (b : Bay) (code : Byte) (s : State) : Works l s (faultFrame b code s) := by
  unfold faultFrame
  exact ite_works (fun _ => .refl) fun _ => .trans mark_works (driveFault_works hm _ _ _ _)

theorem presenceInserted_works (b : Bay) (s : State) : Works l s (presenceInserted b s) := by
  unfold presenceInserted
  split
  · exact (changeState_works (.inl hm)).trans (placeFor_works rfl)
  · exact changeState_works (.inl hm)
  · exact .refl

omit hm

theorem foldl_deliver_works (b : Bay) (c : Completion) (p : List Byte) (rs : List Request) (s : State) :
    Works l s (rs.foldl (fun s r => deliver b r c p s) s) := by
  apply Works.foldl
  intro s r
  exact deliver_works b r c p s

theorem completeRemoved_works (b : Bay) (own : OwnAnswer) (s : State) : Works l s (completeRemoved b own s) := by
  unfold completeRemoved
  split
  · exact .refl
  · refine .trans ?_ (foldl_deliver_works _ _ _ _ _)
    split <;> exact deliver_works _ _ _ _ _

theorem removeDrive_works (hr : l.removes = true) (b : Bay) (own : OwnAnswer) (s : State) : Works l s (removeDrive b own s) := by
  unfold removeDrive
  extract_lets s1 s2 s3 s4
  have h2 : Works l s s2 := (completeRemoved_works b own s).trans (.single (.remove hr))
  have h3 : Works l s2 s3 := (takeOut_works _ _ _).trans (leaveBaySet_works _ _)
  have h4 : Works l s3 s4 := (disregard_works _ _ _).trans (surveyKnown_works _ _)
  exact ((h2.trans h3).trans h4).trans (changeState_works (.inr (.inr rfl)))

theorem presenceRemoved_works (hr : l.removes = true) (b : Bay) (s : State) : Works l s (presenceRemoved b s) := by
  unfold presenceRemoved
  exact ite_works (fun _ => .refl) fun _ => removeDrive_works hr _ _ _

/-! ### Completions and reconciliation -/

theorem completeServedHead_works (b : Bay) (o : BayState) (s : State) : Works l s (completeServedHead b o s) := by
  unfold completeServedHead
  split
  · next r hr =>
    refine ite_works (fun h => (takeOut_works b _ s).trans (completeHead_works ?_)) fun _ => .refl
    exact (takeOut_stays b _ s).unadmitted.mpr (unadmitted_of_phase hr (by rw [h.1]; decide))
  · exact .refl

theorem startStopPhase_works (b : Bay) (op : ProtOp) (s : State) : Works l s (startStopPhase b op s) :=
  ((dropProtective_works b s).trans (setSlot_works _ _ _)).trans (placeUrgent_works _ _ _)

theorem completeServedOperation_works (b : Bay) (o : BayState) (s : State) : Works l s (completeServedOperation b o s) := by
  unfold completeServedOperation
  split
  · exact .refl
  · split
    · exact endProtective_works _ _ _
    · exact endProtective_works _ _ _
    · exact endProtective_works _ _ _
    · exact endProtective_works _ _ _
    · exact ite_works (fun _ => .refl) fun _ => startStopPhase_works _ _ _
    · exact ite_works (fun _ => .refl) fun _ => startStopPhase_works _ _ _
    · exact endProtective_works _ _ _
    · exact .refl

theorem reconcileHead_works (b : Bay) (s : State) : Works l s (reconcileHead b s) := by
  unfold reconcileHead
  split
  · refine ite_works (fun h => ?_) fun _ => recheckHead_works _ _
    have free : s.Unadmitted b := headStarted_unadmitted (by rw [Bool.and_eq_true] at h; exact h.1)
    split
    · exact completeHead_works free
    · exact (becomeHead_works free).trans (checkHead_works _ _)
  · exact .refl

theorem afterReconciliation_works (b : Bay) (s : State) : Works l s (afterReconciliation b s) := by
  have h : Works l s (s.updBay b fun r => { r with sweepLevel := 0 }) := mark_works
  unfold afterReconciliation
  exact ite_works (fun _ => h.trans mark_works) fun _ => h.trans (riseFromZero_works _ _)

theorem finishOwn_works (b : Bay) (own : OwnAnswer) (s : State) : Works l s (finishOwn b own s) := by
  unfold finishOwn
  split
  · exact ite_works (fun h => completeHead_works (headStarted_unadmitted h.2)) fun _ => .refl
  · exact .refl

theorem repeatedFault_works (b : Bay) (s : State) : Works l s (repeatedFault b s) := by
  unfold repeatedFault
  split
  · refine ite_works (fun h => ((setDeadline_works b none s).trans (disregard_works _ _ _)).trans (completeHead_works ?_))
      fun _ => .refl
    have stay : HeadsStay s (disregard b (·.kind.stateChanging) (setDeadline b none s)) :=
      HeadsStay.trans (t := setDeadline b none s) updBay_stays (disregard_stays _ _ _)
    rw [Bool.and_eq_true] at h
    exact stay.unadmitted.mpr (headStarted_unadmitted h.1)
  · exact .refl

include hm

theorem completeOperation_works (b : Bay) (st : BayState) (s : State) : Works l s (completeOperation b st s) := by
  unfold completeOperation
  extract_lets origin s1 s2 s3
  have h1 : Works l s s1 := (setDeadline_works _ _ _).trans (changeState_works (.inl hm))
  have h3 : Works l s1 s3 := (takeOut_works _ _ _).trans (disregard_works _ _ _)
  exact (h1.trans h3).trans (((completeServedHead_works _ _ _).trans (completeServedOperation_works _ _ _)).trans
    (recheckHead_works _ _))

theorem reconcile_works (b : Bay) (st : BayState) (s : State) : Works l s (reconcile b st s) := by
  unfold reconcile
  refine ite_works (fun _ => .refl) fun _ => ?_
  exact (((changeState_works (.inl hm)).trans (freshDeadline_works _ _)).trans (disregard_works _ _ _)).trans
    ((reconcileHead_works _ _).trans (afterReconciliation_works _ _))

/-! ### Reports -/

theorem takeDriveCode_works (b : Bay) (code : Byte) (own : OwnAnswer) (s : State) : Works l s (takeDriveCode b code own s) := by
  unfold takeDriveCode
  refine ite_works (fun _ => (repeatedFault_works _ _).trans (finishOwn_works _ _ _)) fun _ => ?_
  exact ite_works (fun _ => driveFault_works hm _ _ _ _) fun _ => (driveFault_works hm _ _ _ _).trans (afterReconciliation_works _ _)

theorem takeCondition_works (b : Bay) (c : Condition) (s : State) : Works l s (takeCondition b c s) := by
  unfold takeCondition
  refine ite_works (fun _ => ?_) fun _ => reconcile_works hm _ _ _
  split
  · exact completeOperation_works hm _ _ _
  · exact .refl

theorem takeReport_works {b : Bay} {rep : Report} (h : l.removes = true ∨ rep.present = true) (own : OwnAnswer) (s : State) :
    Works l s (takeReport b rep own s) := by
  unfold takeReport
  refine (storeReport_works b rep s).trans (ite_works (fun hp => ite_works (fun _ => .refl) fun _ => ?_) fun _ => ?_)
  · exact removeDrive_works (h.resolve_right (by simp [hp])) _ _ _
  · refine ite_works (fun _ => takeDriveCode_works hm _ _ _ _) fun _ => ?_
    split
    · exact (takeCondition_works hm _ _ _).trans (finishOwn_works _ _ _)
    · exact finishOwn_works _ _ _

theorem surveyReport_works {b : Bay} {rep : Report} (h : l.removes = true ∨ rep.present = true) (s : State) :
    Works l s (surveyReport b rep s) := by
  unfold surveyReport
  exact (takeReport_works hm h none s).trans mark_works

theorem followUpReport_works {b : Bay} {rep : Report} (h : l.removes = true ∨ rep.present = true) (s : State) :
    Works l s (followUpReport b rep s) := by
  unfold followUpReport
  exact ite_works (fun _ => (storeReport_works _ _ _).trans (followUpFault_works hm _ _)) fun _ => takeReport_works hm h _ _

theorem refusedReturn_works (b : Bay) (st : BayState) (s : State) : Works l s (refusedReturn b st s) := by
  have h : Works l s (changeState b st s) := changeState_works (.inl hm)
  unfold refusedReturn
  refine ite_works (fun _ => .refl) fun _ => ?_
  exact ite_works (fun _ => h.trans (endStanding_works _ _)) fun _ => h.trans (freshDeadline_works _ _)

omit hm

theorem completeSurvey_works (s : State) : Works l s (completeSurvey s) := by
  unfold completeSurvey
  refine ite_works (fun _ => ?_) fun _ => .refl
  exact .trans (.trans aside_works (postNotice_works _ _)) (riseFromZero_works _ _)

/-! ### The Motion Classifier -/

theorem deliverFall_works (hm : l.moves = true) (i : SensorId) (h : Nat) (s : State) : Works l s (deliverFall i h s) := by
  have fall (r : FallResult) : Works l s (setLastFall i h r s) := aside_works
  unfold deliverFall
  dsimp only
  split
  · exact (fall _).trans (postNotice_works _ _)
  · exact (fall .impact).trans (by unfold setImpact; exact .trans aside_works (postNotice_works _ _))
  · exact (fall _).trans ((postNotice_works _ _).trans (captureFault_works hm _ _ _ _ _))

theorem endFallUnseen_works (i : SensorId) (s : State) : Works l s (endFallUnseen i s) := by
  unfold endFallUnseen
  exact ite_works (fun _ => .trans aside_works (postNotice_works _ _)) fun _ => .refl

theorem takeSample_works (hm : l.moves = true) (i : SensorId) (c : Half) (x y z : Int) (s : State) : Works l s (takeSample i c x y z s) := by
  unfold takeSample
  extract_lets t m2 high low s1 r s2 s3
  have h1 : Works l s s1 := ite_works (fun _ => aside_works) fun _ => .refl
  have h2 : Works l s1 s2 := aside_works
  have h3 : Works l s2 s3 := ite_works (fun _ => deliverFall_works hm _ _ _) fun _ => .refl
  exact ((h1.trans h2).trans h3).trans aside_works

theorem takeSamples_works (hm : l.moves = true) (i : SensorId) (ss : List (Int × Int × Int)) (c : Half) (s : State) :
    Works l s (takeSamples i c ss s) := by
  induction ss generalizing c s with
  | nil => exact .refl
  | cons x ss ih => exact (takeSample_works hm i c x.1 x.2.1 x.2.2 s).trans (ih _ _)

theorem acceptFrame_works (hm : l.moves = true) (i : SensorId) (g : Bool) (c : Half) (ss : List (Int × Int × Int)) (s : State) :
    Works l s (acceptFrame i g c ss s) :=
  .trans (.trans aside_works (takeSamples_works hm i ss c _)) (handOff_works i _)

theorem samplesFrame_works (hm : l.moves = true) (i : SensorId) (c : Half) (ss : List (Int × Int × Int)) (s : State) :
    Works l s (samplesFrame i c ss s) := by
  unfold samplesFrame
  refine ite_works (fun _ => .refl) fun _ => ite_works (fun _ => aside_works) fun _ => ?_
  split
  · exact acceptFrame_works hm _ _ _ _ _
  · exact ite_works (fun _ => aside_works) fun _ => acceptFrame_works hm _ _ _ _ _

theorem joltHoldExpired_works (i : SensorId) (s : State) : Works l s (joltHoldExpired i s) := by
  unfold joltHoldExpired
  exact ite_works (fun _ => .trans aside_works (handOff_works _ _)) fun _ => aside_works

theorem blindExpired_works (hm : l.moves = true) (i : SensorId) (s : State) : Works l s (blindExpired i s) := by
  unfold blindExpired
  refine ite_works (fun _ => aside_works) fun _ => ?_
  have h : Works l s ((endFallUnseen i s).updSensor i fun r =>
      { r.noRuns.withConds ({ · with blind := true }) with blindDue := none }) := (endFallUnseen_works i s).trans aside_works
  exact (h.trans (captureFault_works hm _ _ _ _ _)).trans ((postNotice_works _ _).trans (handOff_works _ _))

theorem writeEnabled_works (i : SensorId) (e : Bool) (s : State) : Works l s (writeEnabled i e s) := by
  unfold writeEnabled
  refine ite_works (fun _ => .refl) fun _ => ite_works (fun _ => aside_works) fun _ => ?_
  exact (endFallUnseen_works i s).trans (.trans aside_works (handOff_works _ _))

/-- An exchange for a node stands for no bay. -/
theorem enqueueRate_works (i : SensorId) (r : Rate) (s : State) : Works l s (enqueue (rateExchange i r) s) :=
  .single (.enqueue fun b hb => absurd (individual_iff.mp hb) (by simp [rateExchange]))

theorem readyRate_works (i : SensorId) (r : Rate) (s : State) : Works l s (readyRate i r s) := by
  unfold readyRate
  refine ite_works (fun _ => thin_works fun b => ?_) fun _ => ite_works (fun _ => aside_works) fun _ => enqueueRate_works _ _ _
  simp only [BusController.individuals, List.filter_append, List.length_append, Nat.add_le_add_iff_left]
  refine le_of_eq (congrArg _ ?_)
  induction s.bus.normal with
  | nil => rfl
  | cons x u ih =>
    rw [List.map_cons, List.filter_cons, List.filter_cons, ih]
    by_cases hx : x.target = .node i
    · simp [Exchange.individual, hx, rateExchange]
    · rw [if_neg hx]

theorem writeRate_works (i : SensorId) (r : Rate) (s : State) : Works l s (writeRate i r s) := by
  unfold writeRate
  exact ite_works (fun _ => .refl) fun _ => .trans aside_works (readyRate_works _ _ _)

theorem rateOutcome_works (i : SensorId) (t : Option Rate) (s : State) : Works l s (rateOutcome i t s) := by
  unfold rateOutcome
  dsimp only
  split
  · exact .trans aside_works (enqueueRate_works _ _ _)
  · exact aside_works

theorem clearLatch_works (s : State) : Works l s (clearLatch s) := .trans aside_works (recomputeLevels_works _ _)

/-! ### The bus -/

theorem sendAttempt_works (s : State) : Works l s (sendAttempt s) := by
  refine .single (.bus (fun _ => le_rfl) fun c hc => ?_)
  obtain ⟨d, hd, rfl⟩ := Option.map_eq_some_iff.mp hc
  exact ⟨d, hd, rfl⟩

theorem begin_works (s : State) : Works l s s.begin := thin_works fun _ => le_rfl

theorem clearWait_works (b : Bay) (s : State) : Works l s (clearWait b s) := updHead_marked_works

theorem markStarted_works (b : Bay) (s : State) : Works l s (markStarted b s) := setSlot_works _ _ _

/-- A start leaves an Empty bay Empty (R10). -/
theorem startState_empty {k : ExKind} {st : BayState} (h : startState k .empty = some st) : st = .empty := by
  cases k <;> simp [startState] at h <;> exact h.symm

/-- What is taken out of a queue shortens it. -/
theorem takeFirst_sublist {ok : Exchange → Bool} {xs ys : List Exchange} {x : Exchange} (h : takeFirst ok xs = some (x, ys)) :
    ys.Sublist xs := by
  induction xs generalizing ys with
  | nil => simp [takeFirst] at h
  | cons y xs ih =>
    unfold takeFirst at h
    split at h
    · cases h; exact List.sublist_cons_self _ _
    · obtain ⟨⟨z, zs⟩, hz, he⟩ := Option.map_eq_some_iff.mp h
      cases he
      exact (ih hz).cons_cons y

theorem choose_works {s t : State} {x : Exchange} (h : s.choose = some (x, t)) : Works l s t := by
  unfold State.choose at h
  split at h
  · next y rest hu =>
    cases h
    refine thin_works fun b => (List.Sublist.filter _ ?_).length_le
    rw [hu]
    exact (List.sublist_cons_self _ _).append (List.Sublist.refl _)
  · obtain ⟨⟨y, ys⟩, hy, he⟩ := Option.map_eq_some_iff.mp h
    cases he
    exact thin_works fun b => (List.Sublist.filter _ ((List.Sublist.refl _).append (takeFirst_sublist hy))).length_le

theorem startPlain_works {s t : State} {x : Exchange} (h : s.choose = some (x, t)) : Works l s (startPlain x t) := by
  have k : Works l s (sendAttempt (makeCurrent x t)) := .trans (.single (.start h rfl rfl)) (sendAttempt_works _)
  unfold startPlain
  dsimp only
  split
  · exact k.trans (clearWait_works _ _)
  · exact k

theorem startBay_works {s t : State} {x : Exchange} {b : Bay} {st : BayState} (h : s.choose = some (x, t))
    (hs : startState x.kind (t.bay b).state = some st) : Works l s (startBay b x st t) := by
  unfold startBay
  extract_lets x' s1 s2
  have k1 : Works l s s1 := by
    refine .trans (.single (.start h ?_ ?_)) (sendAttempt_works _) <;> simp only [x'] <;> split <;> rfl
  have live : ((setDeadline b none s1).bay b).state ≠ .empty ∨ st = .empty := by
    rw [show ((setDeadline b none s1).bay b).state = (t.bay b).state by simp [setDeadline]; rfl]
    by_cases he : (t.bay b).state = .empty
    · exact .inr (startState_empty (he ▸ hs))
    · exact .inl he
  have k2 : Works l s s2 := k1.trans ((setDeadline_works _ _ _).trans (changeState_works (.inr live)))
  split
  · exact k2.trans (clearWait_works _ _)
  · exact k2.trans ((markStarted_works _ _).trans (recheckHead_works _ _))
  · exact k2

theorem endUnstarted_works (b : Bay) (x : Exchange) (s : State) : Works l s (endUnstarted b x s) := by
  unfold endUnstarted
  refine (releaseWaiting_works b s).trans ?_
  generalize releaseWaiting b s = s
  dsimp only
  split
  · split
    · exact .refl
    · next r hr =>
      refine ite_works (fun _ => .refl) fun hp => ?_
      have free : s.Unadmitted b := unadmitted_of_phase hr (by rw [not_not.mp hp]; decide)
      split
      · exact completeHead_works free
      · exact (becomeHead_works free).trans (checkHead_works _ _)
  · exact (settleOperation_works _ _).trans (placePark_works _ _)
  · exact .refl

theorem parkByGroup_works (b : Bay) (s : State) : Works l s (parkByGroup b s) := by
  unfold parkByGroup
  refine ite_works (fun h => ?_) fun _ => (settleOperation_works _ _).trans (placePark_works _ _)
  have live : (s.bay b).state ≠ .empty := by intro e; rw [e] at h; exact absurd h (by decide)
  exact ((changeState_works (.inr (.inl live))).trans (markStarted_works _ _)).trans
    ((setDeadline_works _ _ _).trans (recheckHead_works _ _))

theorem sendGroupPark_works (x : Exchange) (s : State) : Works l s (sendGroupPark x s) := by
  unfold sendGroupPark
  dsimp only
  have h : Works l s (s.updBus fun u => { u with transaction := .groupPark, sent := u.sent ++ [x.frame] }) :=
    thin_works fun _ => le_rfl
  refine h.trans ?_
  apply Works.foldl
  intro s b
  exact (parkByGroup_works _ _).trans (releaseWaiting_works _ _)

theorem startTaken_works {s t : State} {x : Exchange} (h : s.choose = some (x, t)) : Works l s (startTaken x t) := by
  unfold startTaken
  split
  · exact (choose_works h).trans (sendGroupPark_works _ _)
  · exact startPlain_works h
  · refine ite_works (fun _ => ?_) fun _ => startPlain_works h
    split
    · next hs => exact startBay_works h hs
    · exact (choose_works h).trans (endUnstarted_works _ _ _)

theorem takeLoop_works (n : Nat) (s : State) : Works l s (takeLoop n s) := by
  induction n generalizing s with
  | zero => exact .refl
  | succ n ih =>
    unfold takeLoop
    refine ite_works (fun _ => ?_) fun _ => .refl
    split
    · exact .refl
    · next h => exact (startTaken_works h).trans (ih _)

theorem busChoice_works (s : State) : Works l s (busChoice s) := by
  unfold busChoice
  refine .trans ?_ (takeLoop_works _ _)
  apply Works.foldl
  intro s b
  exact releaseWaiting_works b s

/-! ### The end of an event -/

theorem transmit_works (s : State) : Works l s (transmit s) := by
  unfold transmit
  split
  · exact .refl
  · split
    · exact aside_works
    · split
      · next h => exact .single (.aside rfl rfl rfl (by rw [h]; exact List.sublist_cons_self _ _) (.inl rfl))
      · exact .refl

theorem close_works (s : State) : Works l s (close s) := (transmit_works s).trans aside_works

theorem conclude_works (s0 s : State) : Works l s (conclude s0 s) :=
  (((completeSurvey_works s).trans (busChoice_works _)).trans ((settleBudget_works _ _).trans (busChoice_works _))).trans
    ((evaluateBudget_works _).trans (close_works _))

/-! ### Failures and answers -/

theorem countRetry_works (b : Bay) (s : State) : Works l s (countRetry b s) := by
  unfold countRetry
  exact ite_works (fun _ => .trans mark_works (postNotice_works _ _)) fun _ => mark_works

theorem scheduleResend_works {c : Current} {s : State} (hc : s.bus.current = some c) : Works l s (scheduleResend c s) := by
  have h : Works l s (s.updBus fun u =>
      { u with transaction := .free
               current := some { c with resends := c.resends + 1, answerBy := none, resendAt := some (s.after Config.resendMs) } }) :=
    .single (.bus (fun _ => le_rfl) fun d hd => ⟨c, hc, by cases hd; rfl⟩)
  unfold scheduleResend
  dsimp only
  split
  · exact h.trans (countRetry_works _ _)
  · exact h

theorem acknowledge_works (b : Bay) (k : ExKind) (s : State) : Works l s (acknowledge b k s) := by
  unfold acknowledge
  split
  · exact setDeadline_works _ _ _
  · exact .refl

theorem endAdopted_works (b : Bay) (x : Exchange) (s : State) : Works l s (endAdopted b x s) := by
  unfold endAdopted
  split
  · exact ite_works (fun _ => endProtective_works _ _ _) fun _ => .refl
  · exact .refl

include hm

theorem exhaustBay_works (b : Bay) (x : Exchange) (f : FailClass) (s : State) : Works l s (exhaustBay b x f s) := by
  unfold exhaustBay
  exact ite_works (fun _ => (faultBay_works hm _ _ _ _ _ _).trans (countBay_works _ _)) fun _ => faultBay_works hm _ _ _ _ _ _

theorem failAttempt_works {c : Current} {s : State} (hc : s.bus.current = some c) (f : FailClass) :
    Works l s (failAttempt c f s) := by
  unfold failAttempt
  refine ite_works (fun _ => endCurrent_works _) fun _ => ite_works (fun _ => ?_) fun _ => ite_works (fun _ => ?_) fun _ => ?_
  · exact (endCurrent_works _).trans (endCutShortOwner_works _ _)
  · exact scheduleResend_works hc
  · split
    · exact (endCurrent_works _).trans (exhaustBay_works hm _ _ _ _)
    · exact (endCurrent_works _).trans (rateOutcome_works _ _ _)
    · exact endCurrent_works _

theorem queryReport_works {b : Bay} {x : Exchange} {rep : Report} (h : l.removes = true ∨ rep.present = true) (s : State) :
    Works l s (queryReport b x rep s) := by
  unfold queryReport
  split
  · exact takeReport_works hm h _ _
  · exact surveyReport_works hm h _
  · exact followUpReport_works hm h _
  · exact takeReport_works hm h _ _

theorem succeed_works {c : Current} {p : List Byte} (h : ∀ rep, reportOf p = some rep → l.removes = true ∨ rep.present = true)
    (s : State) : Works l s (succeed c p s) := by
  unfold succeed
  refine (endCurrent_works s).trans (ite_works (fun _ => .refl) fun _ => ?_)
  split
  · exact rateOutcome_works _ _ _
  · exact .refl
  · split
    · next rep hr => exact queryReport_works hm (h rep hr) _
    · exact .refl
  · exact ite_works (fun k => completeHead_works (headStarted_unadmitted k)) fun _ => .refl
  · exact acknowledge_works _ _ _

theorem refuseHead_works (b : Bay) (x : Exchange) (n : Nat) (s : State) : Works l s (refuseHead b x n s) := by
  unfold refuseHead
  extract_lets s1
  have h : Works l s s1 := ite_works (fun _ => (refusedReturn_works hm _ _ _).trans (endAdopted_works _ _ _)) fun _ => .refl
  exact ite_works (fun k => h.trans (completeHead_works (headStarted_unadmitted k))) fun _ => h.trans (recheckHead_works _ _)

theorem refuseSurvey_works (b : Bay) (s : State) : Works l s (refuseSurvey b s) :=
  ((changeState_works (.inl hm)).trans (endWork_works _ _ _ _)).trans (countBay_works _ _)

theorem refuse_works (c : Current) (n : Nat) (s : State) : Works l s (refuse c n s) := by
  unfold refuse
  refine (endCurrent_works s).trans (ite_works (fun _ => .refl) fun _ => ?_)
  split
  · exact rateOutcome_works _ _ _
  · exact .refl
  · split
    · exact refuseHead_works hm _ _ _ _
    · exact ((refusedReturn_works hm _ _ _).trans (endProtective_works _ _ _)).trans (recheckHead_works _ _)
    · exact refuseSurvey_works hm _ _
    · exact ite_works (fun _ => followUpFault_works hm _ _) fun _ => .refl
    · exact .refl
    · exact .refl

end Sys2Proof.Machine
end

section
/-! PROOFS. The work of every command but the two resets is made of elementary changes. -/

namespace Sys2Proof.Machine

set_option Elab.async false

variable {l : Leave}

/-! ### What a request leaves at other bays -/

/-- From `s` to `t` no bay but `b` changed. -/
def OthersStay (b : Bay) (s t : State) : Prop := ∀ c, c ≠ b → t.bay c = s.bay c

theorem OthersStay.refl (b : Bay) (s : State) : OthersStay b s s := fun _ _ => rfl

theorem OthersStay.trans {b : Bay} {s t u : State} (h : OthersStay b s t) (k : OthersStay b t u) : OthersStay b s u :=
  fun c hc => (k c hc).trans (h c hc)

theorem updBay_others (b : Bay) (f : BayRecord → BayRecord) (s : State) : OthersStay b s (s.updBay b f) :=
  fun _ hc => updBay_bay_other s f hc

theorem placeFor_others (b : Bay) (x : Exchange) (s : State) : OthersStay b s (placeFor b x s) := by
  unfold placeFor enqueue
  split
  · exact updBay_others _ _ _
  · exact fun _ _ => rfl

theorem recordMember_bay (g : Fin 8) (b : Bay) (c : Completion) (s : State) (d : Bay) :
    (recordMember g b c s).bay d = s.bay d := by
  unfold recordMember
  split
  · rfl
  · dsimp only
    split <;> rfl

/-- What a completion hands over is no bay's record. -/
theorem deliver_bay (b : Bay) (r : Request) (c : Completion) (p : List Byte) (s : State) (d : Bay) :
    (deliver b r c p s).bay d = s.bay d := by
  unfold deliver
  split
  · rfl
  · rfl
  · exact recordMember_bay _ _ _ _ _

theorem becomeHead_others (b : Bay) (s : State) : OthersStay b s (becomeHead b s) := updBay_others _ _ _

theorem setPhase_others (b : Bay) (p : Phase) (s : State) : OthersStay b s (setPhase b p s) := updBay_others _ _ _

theorem restoreCheck_others (b : Bay) (s : State) : OthersStay b s (restoreCheck b s) := by
  unfold restoreCheck
  split
  · exact (updBay_others b _ s).trans (becomeHead_others b _)
  · exact .refl b s

theorem popHead_others (b : Bay) (c : Completion) (p : List Byte) (s : State) : OthersStay b s (popHead b c p s) := by
  have handed (r : Request) (t : State) : OthersStay b t (deliver b r c p t) := fun d _ => deliver_bay b r c p t d
  unfold popHead
  split
  · exact .refl b s
  · exact ((updBay_others b _ s).trans (handed _ _)).trans (restoreCheck_others b _)
  · exact ((updBay_others b _ s).trans (becomeHead_others b _)).trans (handed _ _)

theorem checkHeads_others (n : Nat) (b : Bay) (s : State) : OthersStay b s (checkHeads n b s) := by
  induction n generalizing s with
  | zero => exact .refl b s
  | succ n ih =>
    unfold checkHeads
    split
    · exact .refl b s
    · split
      · exact .refl b s
      · split
        · exact .refl b s
        · unfold permissionCheck
          split <;> exact updBay_others b _ _
        · exact (placeFor_others b _ s).trans (setPhase_others b _ _)
        · exact (popHead_others b _ _ s).trans (ih _)

theorem appendRequest_others (b : Bay) (r : Request) (s : State) : OthersStay b s (appendRequest b r s) := by
  have h := updBay_others b (fun e => { e with queue := e.queue ++ [r] }) s
  unfold appendRequest
  dsimp only
  split
  · exact (h.trans (becomeHead_others b _)).trans (checkHeads_others 6 b _)
  · exact h

theorem acceptRequest_others (b : Bay) (r : Request) (s : State) : OthersStay b s (acceptRequest b r s) := by
  unfold acceptRequest
  split
  · exact (updBay_others b _ s).trans (appendRequest_others b r _)
  · exact appendRequest_others b r s

/-! ### Requests to bays -/

theorem acceptRequest_works {b : Bay} {r : Request} {s : State} (hr : r.phase ≠ .admitting)
    (fits : (s.bay b).queue.length < Config.bayQueuePlaces) : Works l s (acceptRequest b r s) := by
  unfold acceptRequest
  split
  · exact .trans mark_works (appendRequest_works hr (by simpa using fits))
  · exact appendRequest_works hr fits

theorem not_queueFull {s : State} {b : Bay} (h : s.queueFull b = false) : (s.bay b).queue.length < Config.bayQueuePlaces := by
  simpa [State.queueFull] using h

theorem requestOne_works (k : ReqKind) (src : Source) (tag : Byte) (p : List Byte) (b : Bay) (s : State) :
    Works l s (requestOne k src tag p b s) := by
  unfold requestOne
  split
  · exact placeReply_works _ _
  · split
    · exact placeReply_works _ _
    · exact ite_works (fun _ => placeReply_works _ _)
        fun h => acceptRequest_works (by simp [entryOf]) (not_queueFull (by simpa using h))

/-- Requests of several bays join their queues one after the other; none takes a place of another's. -/
theorem acceptAll_works {r : Member → Request} (hr : ∀ m, (r m).phase ≠ .admitting) (ms : List Member) (s : State)
    (distinct : ms.Pairwise fun m n => m.bay ≠ n.bay) (fits : ∀ m ∈ ms, (s.bay m.bay).queue.length < Config.bayQueuePlaces) :
    Works l s (ms.foldl (fun s m => acceptRequest m.bay (r m) s) s) := by
  induction ms generalizing s with
  | nil => exact .refl
  | cons m ms ih =>
    rw [List.pairwise_cons] at distinct
    refine (acceptRequest_works (hr m) (fits m (by simp))).trans (ih _ distinct.2 fun n hn => ?_)
    rw [acceptRequest_others m.bay (r m) s n.bay (distinct.1 n hn).symm]
    exact fits n (by simp [hn])

theorem queueFull_of_memberFailure {s : State} {k : ReqKind} {src : Source} {b : Bay} (h : s.memberFailure k src b = none) :
    s.queueFull b = false := by
  unfold State.memberFailure at h
  split at h
  · cases h
  · split at h
    · cases h
    · next hq => simpa using hq

theorem requestGroup_works (k : ReqKind) (src : Source) (tag : Byte) {bays : List Bay} (hb : bays.Nodup) (s : State) :
    Works l s (requestGroup k src tag bays s) := by
  unfold requestGroup
  extract_lets ms queued
  refine ite_works (fun _ => placeReply_works _ _) fun _ => ?_
  split
  · exact placeReply_works _ _
  · refine .trans aside_works (acceptAll_works (by intro m; simp [entryOf]) _ _ ?_ ?_)
    · refine (List.Pairwise.filter _ ?_)
      simpa [ms, State.groupMembers, List.pairwise_map, List.Nodup] using hb
    · intro m hm
      obtain ⟨hm, hn⟩ := List.mem_filter.mp hm
      obtain ⟨b, _, rfl⟩ := List.mem_map.mp hm
      exact not_queueFull (queueFull_of_memberFailure (Option.isNone_iff_eq_none.mp hn))

theorem targetBays_nodup (t : ReqTarget) : (targetBays t).Nodup := by
  cases t with
  | bay b => exact List.nodup_singleton b
  | row r => revert r; decide
  | all => decide
  | part => exact List.nodup_nil

theorem requestBays_works (k : ReqKind) (src : Source) (tag : Byte) (p : List Byte) (t : ReqTarget) (s : State) :
    Works l s (requestBays k src tag p t s) := by
  unfold requestBays
  split
  · exact requestOne_works _ _ _ _ _ _
  · exact requestGroup_works _ _ _ (targetBays_nodup _) _
  · exact requestGroup_works _ _ _ (targetBays_nodup .all) _
  · exact .refl

theorem setHolder_works (hr : l.removes = true) (b : Bay) (h : Option Source) (s : State) : Works l s (setHolder b h s) :=
  .single (.bay ⟨rfl, rfl, rfl, .inr hr, fun _ hx => .inl hx, id, .inl rfl⟩)

theorem reserveBays_works (hr : l.removes = true) (src : Source) (tag : Byte) (t : ReqTarget) (s : State) :
    Works l s (reserveBays src tag t s) := by
  refine .trans (Works.foldl (fun s b => ?_) (targetBays t) s) (placeReply_works _ _)
  exact ite_works (fun _ => setHolder_works hr _ _ _) fun _ => .refl

theorem releaseBays_works (hr : l.removes = true) (src : Source) (tag : Byte) (t : ReqTarget) (s : State) :
    Works l s (releaseBays src tag t s) := by
  refine .trans (Works.foldl (fun s b => ?_) (targetBays t) s) (placeReply_works _ _)
  exact ite_works (fun _ => setHolder_works hr _ _ _) fun _ => .refl

/-! ### The sum of the reservations -/

/-- One reservation replaced moves the sum by the difference (R60). -/
theorem sumReservations_set (bays : Vector BayRecord 24) (b : Bay) (r : BayRecord) :
    sumReservations (bays.set b r) + bays[b].reservation = sumReservations bays + r.reservation := by
  have h (v : Vector BayRecord 24) (i : Bay) : (v.toList.map (·.reservation)).sum
      = ((v.toList.map (·.reservation)).take i).sum + v[i].reservation + ((v.toList.map (·.reservation)).drop (i + 1)).sum := by
    have hi : i.val < (v.toList.map (·.reservation)).length := by simp
    conv_lhs => rw [← List.take_append_drop i.val (v.toList.map (·.reservation)), List.drop_eq_getElem_cons hi]
    simp [List.sum_append, add_assoc]
  unfold sumReservations
  rw [h bays b, show (bays.set b r).toList.map (·.reservation) = (bays.toList.map (·.reservation)).set b r.reservation by
    simp [Vector.toList_set, List.map_set], List.sum_set, if_pos (by simp)]
  omega

theorem reservation_le_sum (s : State) (b : Bay) : (s.bay b).reservation ≤ sumReservations s.bays := by
  have h := sumReservations_set s.bays b { s.bay b with reservation := 0 }
  have e : s.bays[b].reservation = (s.bay b).reservation := rfl
  simp only at h
  omega

/-- A booking keeps the committed current the sum (R60). -/
theorem setReservation_sum {s : State} (b : Bay) (n : Nat) (h : s.adm.committed = sumReservations s.bays) :
    (setReservation b n s).adm.committed = sumReservations (setReservation b n s).bays := by
  have hs := sumReservations_set s.bays b { s.bay b with reservation := n }
  have hl := reservation_le_sum s b
  have e : s.bays[b].reservation = (s.bay b).reservation := rfl
  rw [setReservation_eq]
  simp only at hs ⊢
  omega

/-! ### Table writes that book anew -/

/-- A booking of bay `b`'s own reservation leaves everything else of the bays. -/
theorem recomputeReservation_bay (b c : Bay) (s : State) : (recomputeReservation b s).bay c =
    { s.bay c with reservation := if c = b then (s.profileOf b).reservation (s.bay b).state else (s.bay c).reservation } := by
  simp only [recomputeReservation, setReservation, updBay_bay, updAdm_bay]
  split
  · next e => rw [e]
  · rfl

/-- The bays whose reservation is that of their state and class, while the books are brought up to date. -/
def State.BookedBut (s : State) (rest : Bay → Prop) : Prop :=
  s.adm.committed = sumReservations s.bays
    ∧ ∀ b, ¬ rest b → (s.bay b).reservation = (s.profileOf b).reservation (s.bay b).state

/-- A pass over the bays of a class leaves every reservation of them right (R57). -/
theorem foldl_recompute_booked (i : Fin 8) (bs : List Bay) (s : State) (h : s.BookedBut fun b => (s.bay b).cls = i ∧ b ∈ bs) :
    (bs.foldl (fun s b => if (s.bay b).cls = i then recomputeReservation b s else s) s).Balanced := by
  induction bs generalizing s with
  | nil => exact ⟨fun b => h.2 b (by simp), h.1⟩
  | cons b bs ih =>
    refine ih _ ?_
    dsimp only
    split
    · next hb =>
      have cls (c : Bay) : ((recomputeReservation b s).bay c).cls = (s.bay c).cls := by rw [recomputeReservation_bay]
      have profile (c : Bay) : (recomputeReservation b s).profileOf c = s.profileOf c := by
        simp only [State.profileOf, cls]; rfl
      refine ⟨setReservation_sum b _ h.1, fun c hc => ?_⟩
      rw [profile, recomputeReservation_bay]
      by_cases e : c = b
      · simp [e]
      · simp only [if_neg e]
        exact h.2 c fun k => hc ⟨(cls c).trans k.1, (List.mem_cons.mp k.2).resolve_left e⟩
    · next hb =>
      refine ⟨h.1, fun c hc => h.2 c fun k => hc ⟨k.1, (List.mem_cons.mp k.2).resolve_left fun e => hb (e ▸ k.1)⟩⟩

/-- What a pass of bookings leaves. -/
structure Rebooked (s t : State) : Prop where
  bays : ∀ b, (t.bay b).state = (s.bay b).state ∧ (t.bay b).holder = (s.bay b).holder ∧ (t.bay b).queue = (s.bay b).queue
    ∧ (t.bay b).waiting = (s.bay b).waiting
  queue : t.adm.queue = s.adm.queue
  bus : t.bus = s.bus
  notices : t.notices = s.notices
  ffr : t.ffr = s.ffr

theorem Rebooked.refl (s : State) : Rebooked s s := ⟨fun _ => ⟨rfl, rfl, rfl, rfl⟩, rfl, rfl, rfl, rfl⟩

theorem Rebooked.trans {s t u : State} (h : Rebooked s t) (k : Rebooked t u) : Rebooked s u :=
  ⟨fun b => ⟨(k.bays b).1.trans (h.bays b).1, (k.bays b).2.1.trans (h.bays b).2.1, (k.bays b).2.2.1.trans (h.bays b).2.2.1,
     (k.bays b).2.2.2.trans (h.bays b).2.2.2⟩,
   k.queue.trans h.queue, k.bus.trans h.bus, k.notices.trans h.notices, k.ffr.trans h.ffr⟩

theorem recomputeReservation_rebooked (b : Bay) (s : State) : Rebooked s (recomputeReservation b s) :=
  ⟨fun c => by rw [recomputeReservation_bay]; exact ⟨rfl, rfl, rfl, rfl⟩, rfl, rfl, rfl, rfl⟩

theorem foldl_recompute_rebooked (i : Fin 8) (bs : List Bay) (s : State) :
    Rebooked s (bs.foldl (fun s b => if (s.bay b).cls = i then recomputeReservation b s else s) s) := by
  induction bs generalizing s with
  | nil => exact .refl s
  | cons b bs ih =>
    refine .trans ?_ (ih _)
    dsimp only
    split
    · exact recomputeReservation_rebooked b s
    · exact .refl s

theorem rebooked_works {s t : State} (books : s.Balanced → t.Balanced) (h : Rebooked s t) : Works l s t :=
  .single (.rebook books h.bays h.queue h.bus h.notices h.ffr)

/-- A profile stored and the bays of its class booked anew (R57). -/
theorem storeProfile_works (i : Fin 8) (p : Profile) {bs : List Bay} (all : ∀ b, b ∈ bs) (s : State) :
    Works l s (bs.foldl (fun s b => if (s.bay b).cls = i then recomputeReservation b s else s)
      (s.updAdm fun a => { a with profiles := a.profiles.set i p })) := by
  have stored : Rebooked s (s.updAdm fun a => { a with profiles := a.profiles.set i p }) :=
    ⟨fun _ => ⟨rfl, rfl, rfl, rfl⟩, rfl, rfl, rfl, rfl⟩
  refine rebooked_works (fun h => foldl_recompute_booked i bs _ ⟨h.2, fun b hb => ?_⟩)
    (stored.trans (foldl_recompute_rebooked i bs _))
  have hne : (s.bay b).cls ≠ i := fun e => hb ⟨e, all b⟩
  have hv : i.val ≠ (s.bay b).cls.val := fun e => hne (Fin.ext e.symm)
  refine (h.1 b).trans ?_
  simp [State.profileOf, hv]

theorem writeProfile_works (i : Fin 8) (p : Profile) (s : State) : Works l s (writeProfile i p s) :=
  (storeProfile_works i p mem_allBays s).trans (settleForced_works _)

theorem writeClass_works (b : Bay) (c : Fin 8) (s : State) : Works l s (writeClass b c s) := by
  unfold writeClass
  refine ite_works (fun _ => .refl) fun _ => rebooked_works (fun h => ?_) ?_
  · have sum : (s.updBay b fun r => { r with cls := c }).adm.committed
        = sumReservations (s.updBay b fun r => { r with cls := c }).bays := by
      have hs := sumReservations_set s.bays b { s.bay b with cls := c }
      have e : s.bays[b].reservation = (s.bay b).reservation := rfl
      have hc := h.2
      simp only [updBay_adm, updBay_bays] at hs ⊢
      omega
    refine ⟨fun d => ?_, setReservation_sum b _ sum⟩
    simp only [State.profileOf, recomputeReservation_bay]
    by_cases e : d = b
    · subst e
      exact (if_pos rfl).trans rfl
    · refine (if_neg e).trans ?_
      simp only [updBay_bay_other _ _ e]
      exact h.1 d
  · have classed : Rebooked s (s.updBay b fun r => { r with cls := c }) := by
      refine ⟨fun d => ?_, rfl, rfl, rfl, rfl⟩
      rw [updBay_bay]
      split
      · next e => rw [e]; exact ⟨rfl, rfl, rfl, rfl⟩
      · exact ⟨rfl, rfl, rfl, rfl⟩
    exact classed.trans (recomputeReservation_rebooked b _)

/-! ### Management requests -/

theorem writeZone_works (b : Bay) (z : Zone) (s : State) : Works l s (writeZone b z s) := by
  have h : Works l s (s.updBay b fun r => { r with zone := z }) := mark_works
  unfold writeZone
  exact ite_works (fun _ => h) fun _ => h.trans (carryOut_works _ _ _)

theorem foldl_restoreNow_works (bs : List Bay) (s : State) : Works l s (bs.foldl (fun s b => restoreNow b s) s) := by
  apply Works.foldl
  intro s b
  exact restoreNow_works b s

theorem foldl_recheckDeferred_works (bs : List Bay) (s : State) : Works l s (bs.foldl (fun s b => recheckDeferred b s) s) := by
  apply Works.foldl
  intro s b
  exact recheckDeferred_works b s

theorem writeLevelAction_works (i : Fin 8) (e : ActionEntry) (s : State) : Works l s (writeLevelAction i e s) := by
  unfold writeLevelAction
  extract_lets _ s1 s2
  have h1 : Works l s s1 := aside_works
  have h2 : Works l s1 s2 := foldl_recheckDeferred_works _ _
  exact (h1.trans h2).trans (foldl_restoreNow_works _ _)

theorem restagger_works (s : State) : Works l s (restagger s) := by
  unfold restagger
  split
  · exact ite_works (fun _ => .trans (.single (.adm rfl rfl (List.Sublist.refl _))) (settleForced_works _))
      fun _ => .single (.adm rfl rfl (List.Sublist.refl _))
  · exact .refl

theorem writeTiming_works (t : Timing) (s : State) : Works l s (writeTiming t s) := by
  unfold writeTiming
  extract_lets old s1 s2
  have h1 : Works l s s1 := aside_works
  have h2 : Works l s1 s2 := ite_works (fun _ => .refl) fun _ => restagger_works _
  exact ite_works (fun _ => h1.trans h2) fun _ => (h1.trans h2).trans (foldl_restoreNow_works _ _)

theorem answerEntry_works (tag id index : Byte) (s : State) : Works l s (answerEntry tag id index s) := placeReply_works _ _

theorem refuseWith_works (tag : Byte) (c : Code) (n : Nat) (s : State) : Works l s (refuseWith tag c n s) := placeReply_works _ _

theorem writeSensor_works (tag id index : Byte) (i : SensorId) (e : Bool) (r : Rate) (s : State) :
    Works l s (writeSensor tag id index i e r s) := by
  unfold writeSensor
  exact ite_works (fun _ => refuseWith_works _ _ _ _)
    fun _ => ((writeEnabled_works _ _ _).trans (writeRate_works _ _ _)).trans (answerEntry_works _ _ _ _)

theorem writeSource_works (tag id index : Byte) (i : Source) (f : Bool) (s : State) :
    Works l s (writeSource tag id index i f s) := by
  unfold writeSource
  exact ite_works (fun _ => aside_works) fun _ => refuseWith_works _ _ _ _

theorem dite_works {c : Prop} [Decidable c] {s : State} {t : c → State} {u : ¬ c → State} (h : ∀ k, Works l s (t k))
    (k : ∀ k, Works l s (u k)) : Works l s (if hc : c then t hc else u hc) := by
  split
  · exact h _
  · exact k _

theorem writeEntry_works (tag id index : Byte) (e : List Byte) (s : State) : Works l s (writeEntry tag id index e s) := by
  have answer {t : State} (h : Works l s t) : Works l s (answerEntry tag id index t) := h.trans (answerEntry_works _ _ _ _)
  have refused : Works l s (refuseValue tag s) := refuseWith_works _ _ _ _
  unfold writeEntry
  dsimp only
  split
  · exact dite_works (fun _ => answer (writeProfile_works _ _ _)) fun _ => .refl
  · refine dite_works (fun _ => ?_) fun _ => .refl
    split
    · exact answer ((writeClass_works _ _ _).trans (writeZone_works _ _ _))
    · exact refused
  · exact dite_works (fun _ => answer (.trans aside_works (recomputeLevels_works _ _))) fun _ => .refl
  · refine dite_works (fun _ => ?_) fun _ => .refl
    split
    · exact answer (writeLevelAction_works _ _ _)
    · exact refused
  · refine dite_works (fun _ => ?_) fun _ => .refl
    split
    · exact writeSensor_works _ _ _ _ _ _ _
    · exact refused
  · exact answer aside_works
  · refine dite_works (fun _ => ?_) fun _ => .refl
    split
    · exact answer aside_works
    · exact refused
  · exact dite_works (fun _ => writeSource_works _ _ _ _ _ _) fun _ => .refl
  · exact dite_works (fun _ => answer aside_works) fun _ => .refl
  · exact answer (writeTiming_works _ _)
  · exact .refl

theorem serveCounterClear_works (tag : Byte) (p : List Byte) (s : State) : Works l s (serveCounterClear tag p s) := by
  have clear (b : Bay) (s : State) : Works l s (clearRetry b s) := mark_works
  unfold serveCounterClear
  dsimp only
  refine dite_works (fun _ => (clear _ _).trans (placeReply_works _ _)) fun _ => ?_
  refine ite_works (fun _ => .trans ?_ (placeReply_works _ _)) fun _ => refuseWith_works _ _ _ _
  apply Works.foldl
  intro s b
  exact clear b s

theorem serveReservationsClear_works (hr : l.removes = true) (tag : Byte) (s : State) :
    Works l s (serveReservationsClear tag s) := by
  refine .trans ?_ (placeReply_works _ _)
  apply Works.foldl
  intro s b
  exact setHolder_works hr b none s

theorem serveMotionResume_works (tag : Byte) (s : State) : Works l s (serveMotionResume tag s) := by
  unfold serveMotionResume
  split
  · exact refuseWith_works _ _ _ _
  · exact ite_works (fun _ => placeReply_works _ _) fun _ => (clearLatch_works _).trans (placeReply_works _ _)

theorem setSupply_works (m n : Nat) (s : State) : Works l s (setSupply m n s) :=
  .trans (.single (.adm rfl rfl (List.Sublist.refl _))) (settleForced_works _)

/-- What a management request may do besides its work: RESERVATIONS-CLEAR clears holders, FAULT-RELEASE releases the fault. -/
def MgmtKind.within (m : MgmtKind) (l : Leave) : Prop :=
  (m = .reservationsClear → l.removes = true) ∧ (m = .faultRelease → l.releases = true)

theorem serveManagement_works {m : MgmtKind} (h : m.within l) (src : Source) (tag : Byte) (p : List Byte) (s : State) :
    Works l s (serveManagement m src tag p s) := by
  unfold serveManagement
  refine ite_works (fun _ => refuseWith_works _ _ _ _) fun _ => ?_
  split
  · exact ite_works (fun _ => refuseWith_works _ _ _ _) fun _ => writeEntry_works _ _ _ _ _
  · exact ite_works (fun _ => refuseWith_works _ _ _ _) fun _ => answerEntry_works _ _ _ _
  · refine ite_works (fun _ => refuseWith_works _ _ _ _) fun _ => ?_
    exact ite_works (fun _ => aside_works) fun _ => aside_works
  · exact (setSupply_works _ _ _).trans (placeReply_works _ _)
  · exact .single (.aside rfl rfl rfl (List.Sublist.refl _) (.inr (h.2 rfl)))
  · exact serveCounterClear_works _ _ _
  · exact serveReservationsClear_works (h.1 rfl) _ _
  · exact serveMotionResume_works _ _
  · exact aside_works

/-! ### Arrivals -/

/-- What a request frame may do besides its work. -/
def FrameKind.within (k : FrameKind) (l : Leave) : Prop :=
  (k = .reserve ∨ k = .release ∨ k = .management .reservationsClear → l.removes = true)
    ∧ (k = .management .faultRelease → l.releases = true)

theorem serveRequest_works {q : WellFormedRequest} (hq : q.kind.within l) (h : Header) (p : List Byte) (s : State) :
    Works l s (serveRequest q h p s) := by
  unfold serveRequest
  split
  · exact (requestBays_works _ _ _ _ _ _).trans (conclude_works _ _)
  · next e => exact (reserveBays_works (hq.1 (.inl e)) _ _ _ _).trans (close_works _)
  · next e => exact (releaseBays_works (hq.1 (.inr (.inl e))) _ _ _ _).trans (close_works _)
  · next m e =>
    have hm : m.within l := ⟨fun k => hq.1 (.inr (.inr (by rw [e, k]))), fun k => hq.2 (by rw [e, k])⟩
    exact ite_works (fun _ => (serveManagement_works hm _ _ _ _).trans (close_works _))
      fun _ => (serveManagement_works hm _ _ _ _).trans (conclude_works _ _)

/-- A request that passes check 2 has the kind of its frame. -/
theorem checkForm_kind {kind : Option FrameKind} {h : Header} {p : List Byte} {q : WellFormedRequest}
    (e : checkForm kind h p = .ok q) : kind = some q.kind := by
  unfold checkForm at e
  split at e
  · cases e
  · split at e
    · cases e
    · split at e
      · cases e
      · split at e
        · cases e
        · cases e; rfl

theorem passedFrame_works {kind : Option FrameKind} (hk : ∀ k, kind = some k → k.within l) (h : Header) (p : List Byte) (s : State) :
    Works l s (passedFrame kind h p s) := by
  unfold passedFrame
  refine ite_works (fun _ => aside_works) fun _ => (begin_works s).trans ?_
  unfold acceptFrameAt
  refine ite_works (fun _ => (placeReply_works _ _).trans (close_works _)) fun _ => ?_
  split
  · exact (placeReply_works _ _).trans (close_works _)
  · next q e => exact serveRequest_works (hk _ (checkForm_kind e)) _ _ _

theorem arrive_works {kind : Option FrameKind} (hk : ∀ k, kind = some k → k.within l) (h : Header) (p : List Byte) (s : State) :
    Works l s (arrive kind h p s) := by
  unfold arrive
  exact ite_works (fun _ => aside_works) fun _ => .trans aside_works (passedFrame_works hk _ _ _)

theorem receiveByte_works (hr : l.removes = true) (hf : l.releases = true) (x : Byte) (s : State) :
    Works l s (receiveByte x s) := by
  unfold receiveByte
  split
  · exact ite_works (fun _ => aside_works) fun _ => .refl
  · exact ite_works (fun _ => aside_works) fun _ => aside_works
  · refine ite_works (fun _ => ?_) fun _ => aside_works
    unfold finishFrame
    refine .trans (b := hunt s) aside_works (ite_works (fun _ => ?_) fun _ => aside_works)
    exact passedFrame_works (fun k _ => ⟨fun _ => hr, fun _ => hf⟩) _ _ _

/-! ### Expiries, answers and station frames -/

theorem partEvent_works {f : State → State} {s : State} (h : Works l s.begin (f s.begin)) : Works l s (partEvent f s) :=
  ((begin_works s).trans h).trans (conclude_works _ _)

theorem placeSurvey_works (s : State) : Works l s (placeSurvey s) := by
  refine .trans (b := { s with survey := { s.survey with settle := none } }) aside_works ?_
  apply Works.foldl
  intro s b
  exact placeFor_works rfl

theorem expireHead_works (hm : l.moves = true) {b : Bay} {r : Request} {s : State} (hr : s.head b = some r) :
    Works l s (expireHead b r.phase s) := by
  unfold expireHead
  dsimp only
  split
  · exact (leaveAdmission_works b s).trans (completeHead_works (unadmitted_leaveAdmission b s))
  · next hp =>
    refine (withdrawHead_works (.inl hm)).trans (completeHead_works ((withdrawHead_stays b s).unadmitted.mpr ?_))
    exact unadmitted_of_phase hr (by rw [hp]; decide)
  · next hp => exact completeHead_works (unadmitted_of_phase hr (by rw [hp]; decide))
  · next hp => exact completeHead_works (unadmitted_of_phase hr (by rw [hp]; decide))
  · next hp => exact completeHead_works (unadmitted_of_phase hr (by rw [hp]; decide))

theorem answerFrame_works {i k : Byte} {p : List Byte} {check : Half} {take : Current → State → State} (hm : l.moves = true)
    {s : State} (h : ∀ c, s.begin.bus.current = some c → Works l s.begin (take c s.begin)) :
    Works l s (answerFrame i k p check take s) := by
  unfold answerFrame
  split
  · exact .refl
  · next c hc =>
    have hc' : s.begin.bus.current = some c := (Option.filter_eq_some_iff.mp hc).1
    refine ((begin_works s).trans ?_).trans (conclude_works _ _)
    split
    · exact h c hc'
    · exact failAttempt_works hm hc' _

theorem takeNak_works (hm : l.moves = true) (p : List Byte) {c : Current} {s : State} (hc : s.bus.current = some c) :
    Works l s (takeNak p c s) := by
  have fails (f : FailClass) : Works l s (failAttempt c f s) := failAttempt_works hm hc f
  unfold takeNak
  split
  · exact ite_works (fun _ => fails _) fun _ => ite_works (fun _ => fails _) fun _ =>
      ite_works (fun _ => refuse_works hm _ _ _) fun _ => fails _
  · exact fails _

theorem nakAnswer_works (hm : l.moves = true) (i : Byte) (p : List Byte) (k : Half) (s : State) :
    Works l s (nakAnswer i p k s) := answerFrame_works hm fun _ hc => takeNak_works hm p hc

theorem answerStation_works (a k : Byte) (p : List Byte) (s : State) : Works l s (answerStation a k p s) := thin_works fun _ => le_rfl

theorem stationFrame_works {f : StationFrame} {take : Option (State → State)} {s : State}
    (h : ∀ g, take = some g → ∀ t, Works l t (g t)) : Works l s (stationFrame f take s) := by
  unfold stationFrame
  refine ite_works (fun _ => .refl) fun _ => (begin_works s).trans ?_
  refine ite_works (fun _ => (answerStation_works _ _ _ _).trans (conclude_works _ _)) fun _ => ?_
  split
  · exact (answerStation_works _ _ _ _).trans (conclude_works _ _)
  · next g => exact ((answerStation_works _ _ _ _).trans (h g rfl _)).trans (conclude_works _ _)

theorem ofKind_some {row : Byte} {f : StationFrame} {take : Option (State → State)} {g : State → State}
    (h : ofKind row f take = some g) : take = some g := by
  unfold ofKind at h
  split at h
  · exact h
  · cases h

theorem doneTaken_works (hm : l.moves = true) {f : StationFrame}
    (h : ∀ rep, reportOf f.payload = some rep → l.removes = true ∨ rep.present = true) {g : State → State}
    (e : doneTaken f = some g) (s : State) : Works l s (g s) := by
  unfold doneTaken at e
  split at e
  · next rep _ hr => cases e; exact takeReport_works hm (h rep hr) _ _
  · cases e

theorem faultTaken_works (hm : l.moves = true) {f : StationFrame} {g : State → State} (e : faultTaken f = some g) (s : State) :
    Works l s (g s) := by
  unfold faultTaken at e
  split at e
  · split at e
    · cases e
    · cases e; exact faultFrame_works hm _ _ _
  · cases e

theorem presenceTaken_works (hm : l.moves = true) (hr : l.removes = true) {f : StationFrame} {g : State → State}
    (e : presenceTaken f = some g) (s : State) : Works l s (g s) := by
  unfold presenceTaken at e
  split at e
  · split at e
    · cases e; exact presenceInserted_works hm _ _
    · split at e
      · cases e; exact presenceRemoved_works hr _ _
      · cases e
  · cases e

theorem samplesTaken_works (hm : l.moves = true) {f : StationFrame} {g : State → State} (e : samplesTaken f = some g) (s : State) : Works l s (g s) := by
  unfold samplesTaken at e
  split at e
  · cases e; exact samplesFrame_works hm _ _ _ _
  · cases e

/-! ### All commands -/

/-- A request frame as a command is an arrival (R145; log 8). -/
theorem exec_frame {c : Instr} {k : Option FrameKind} {h : Header} {p : List Byte} (e : c.frame = some (k, h, p)) (s : State) :
    exec c s = .next (arrive k h p s) := by
  cases c <;> cases e <;> rfl

/-- The end of a transmission gives a state by the arbiter, or, as it may, by the soft reset first (R148, R156). -/
theorem endTransmission_cases (s : State) :
    Works l s (endTransmission s) ∨ endTransmission s = close (softReset (s.begin.updLink fun k => { k with tx := none })) := by
  have h : Works l s (s.begin.updLink fun k => { k with tx := none }) := (begin_works s).trans aside_works
  unfold endTransmission
  split
  · exact .inl .refl
  · dsimp only
    split
    · split
      · exact .inr rfl
      · exact .inl (h.trans (close_works _))
    · exact .inl (h.trans (close_works _))

/-- The leave of a command that may do all. -/
def Leave.full : Leave := { moves := true, removes := true, releases := true }

/-- The commands that may change a reservation holder or remove a drive. -/
def mayRemove : Instr → Bool
  | .reserve .. | .release .. | .reservationsClear .. | .done _ | .presenceInserted .. | .presenceRemoved .. | .ack _
  | .linkByteReceipt _ => true
  | _ => false

/-- The commands that may release the First Fault Record without a reset. -/
def mayRelease : Instr → Bool
  | .faultRelease .. | .linkByteReceipt _ => true
  | _ => false

/-- The leave a command needs. -/
def Leave.covers (l : Leave) (c : Instr) : Prop :=
  l.moves = true ∧ (mayRemove c = true → l.removes = true) ∧ (mayRelease c = true → l.releases = true)

theorem frame_within {c : Instr} (hl : l.covers c) {k : FrameKind} {h : Header} {p : List Byte} (e : c.frame = some (some k, h, p)) :
    k.within l := by
  obtain ⟨-, hr, hf⟩ := hl
  constructor
  · rintro (rfl | rfl | rfl) <;> refine hr ?_ <;> cases c <;> cases e <;> rfl
  · rintro rfl
    refine hf ?_
    cases c <;> cases e <;> rfl

/-- Every command leaves the reset state, or the state of a soft reset, or works by elementary changes. -/
theorem exec_cases {c : Instr} (hl : l.covers c) (s : State) : ∃ t, exec c s = .next t
    ∧ ((c = .powerOnReset ∧ t = { State.reset with pending := s.pending })
      ∨ (c = .transmissionEnd ∧ t = close (softReset (s.begin.updLink fun k => { k with tx := none })))
      ∨ Works l s t) := by
  have hm := hl.1
  by_cases hf : c.frame.isSome = true
  · obtain ⟨⟨k, h, p⟩, e⟩ := Option.isSome_iff_exists.mp hf
    exact ⟨_, exec_frame e s, .inr (.inr (arrive_works (fun k' hk => frame_within hl (hk ▸ e)) h p s))⟩
  · cases c <;> first | exact absurd rfl hf | clear hf
    case powerOnReset => exact ⟨_, rfl, .inl ⟨rfl, rfl⟩⟩
    case badFrame => exact ⟨_, rfl, .inr (.inr aside_works)⟩
    case frameGapExpiry => exact ⟨_, rfl, .inr (.inr (ite_works (fun _ => aside_works) fun _ => .refl))⟩
    case settleExpiry =>
      exact ⟨_, rfl, .inr (.inr (ite_works (fun _ => partEvent_works (placeSurvey_works _)) fun _ => .refl))⟩
    case operationDeadlineExpiry b =>
      refine ⟨_, rfl, .inr (.inr ?_)⟩
      split
      · exact partEvent_works (timeoutFault_works hm _ _ _)
      · exact .refl
    case groupDeadlineExpiry b =>
      refine ⟨_, rfl, .inr (.inr ?_)⟩
      split
      · exact partEvent_works ((setDeadline_works _ _ _).trans (placeFor_works rfl))
      · exact .refl
    case waitDeadlineExpiry b =>
      refine ⟨_, rfl, .inr (.inr ?_)⟩
      split
      · next r hr => exact partEvent_works (expireHead_works hm (Option.filter_eq_some_iff.mp hr).1)
      · exact .refl
    case staggerExpiry =>
      refine ⟨_, rfl, .inr (.inr (ite_works (fun _ => partEvent_works ?_) fun _ => .refl))⟩
      exact .trans (.single (.adm rfl rfl (List.Sublist.refl _))) (settleForced_works _)
    case debounceExpiry i => exact ⟨_, rfl, .inr (.inr (ite_works (fun _ => aside_works) fun _ => .refl))⟩
    case joltHoldExpiry i =>
      exact ⟨_, rfl, .inr (.inr (ite_works (fun _ => partEvent_works (joltHoldExpired_works _ _)) fun _ => .refl))⟩
    case blindExpiry i =>
      exact ⟨_, rfl, .inr (.inr (ite_works (fun _ => partEvent_works (blindExpired_works hm _ _)) fun _ => .refl))⟩
    case answerWindowExpiry =>
      refine ⟨_, rfl, .inr (.inr ?_)⟩
      split
      · next d hd =>
        have current : s.begin.bus.current = some d := (Option.filter_eq_some_iff.mp hd).1
        exact partEvent_works (failAttempt_works hm current _)
      · exact .refl
    case resendExpiry =>
      exact ⟨_, rfl, .inr (.inr (ite_works (fun _ => (begin_works _).trans (sendAttempt_works _)) fun _ => .refl))⟩
    case allBaysQuickparkEnd =>
      exact ⟨_, rfl, .inr (.inr (ite_works (fun _ => partEvent_works (thin_works fun _ => le_rfl)) fun _ => .refl))⟩
    case transmissionEnd => exact ⟨_, rfl, .inr ((endTransmission_cases s).symm.imp_left fun h => ⟨rfl, h⟩)⟩
    case done f => exact ⟨_, rfl, .inr (.inr (stationFrame_works fun g e => doneTaken_works hm (fun _ _ => .inl (hl.2.1 rfl)) (ofKind_some e)))⟩
    case fault f => exact ⟨_, rfl, .inr (.inr (stationFrame_works fun g e => faultTaken_works hm (ofKind_some e)))⟩
    case presenceInserted => exact ⟨_, rfl, .inr (.inr (stationFrame_works fun g e => presenceTaken_works hm (hl.2.1 rfl) e))⟩
    case presenceRemoved => exact ⟨_, rfl, .inr (.inr (stationFrame_works fun g e => presenceTaken_works hm (hl.2.1 rfl) e))⟩
    case samples f => exact ⟨_, rfl, .inr (.inr (stationFrame_works fun g e => samplesTaken_works hm (ofKind_some e)))⟩
    case ack f =>
      refine ⟨_, rfl, .inr (.inr (answerFrame_works hm fun c hc => ?_))⟩
      exact ite_works (fun _ => succeed_works hm (fun _ _ => .inl (hl.2.1 rfl)) _) fun _ => failAttempt_works hm hc _
    case nakFailure => exact ⟨_, rfl, .inr (.inr (nakAnswer_works hm _ _ _ _))⟩
    case nakRefused => exact ⟨_, rfl, .inr (.inr (nakAnswer_works hm _ _ _ _))⟩
    case millisecondCounterTick => exact ⟨_, rfl, .inr (.inr aside_works)⟩
    case linkByteReceipt x => exact ⟨_, rfl, .inr (.inr (receiveByte_works (hl.2.1 rfl) (hl.2.2 rfl) x s))⟩

/-- A promise that the two reset states meet and every elementary change keeps is kept by every step. -/
theorem step_keeps {P : State → Prop} (change : ∀ s t, Change .full s t → P s → P t)
    (reset : ∀ rest, P { State.reset with pending := rest }) (soft : ∀ s, P s → P (softReset s)) {s t : State} (hs : P s)
    (h : step s = .next t) : P t := by
  have keeps {u v : State} (w : Works .full u v) (hu : P u) : P v := w.keeps change hu
  unfold step at h
  split at h
  · cases h; exact hs
  · next c rest hp =>
    have hs' : P { s with pending := rest } := keeps aside_works hs
    obtain ⟨u, hu, hc⟩ := exec_cases (l := .full) (c := c) ⟨rfl, fun _ => rfl, fun _ => rfl⟩ { s with pending := rest }
    rw [hu] at h
    cases h
    rcases hc with ⟨-, rfl⟩ | ⟨-, rfl⟩ | w
    · exact reset rest
    · exact keeps (close_works _) (soft _ (keeps ((begin_works _).trans aside_works) hs'))
    · exact keeps w hs'

end Sys2Proof.Machine
end

section
/-! PROOFS. The invariants of the books, the queues and the Admission Queue: each elementary change keeps them, and O5, O6 and O8 from
that. -/

namespace Sys2Proof.Machine

set_option Elab.async false

variable {l : Leave}

/-! ### The books (R7, R60) -/

/-- From `s` to `t` nothing moved that the books are made of. -/
structure BooksStay (s t : State) : Prop where
  bays : ∀ b, (t.bay b).state = (s.bay b).state ∧ (t.bay b).cls = (s.bay b).cls ∧ (t.bay b).reservation = (s.bay b).reservation
  profiles : t.adm.profiles = s.adm.profiles
  committed : t.adm.committed = s.adm.committed

theorem BooksStay.refl (s : State) : BooksStay s s := ⟨fun _ => ⟨rfl, rfl, rfl⟩, rfl, rfl⟩

theorem BooksStay.trans {s t u : State} (h : BooksStay s t) (k : BooksStay t u) : BooksStay s u :=
  ⟨fun b => ⟨(k.bays b).1.trans (h.bays b).1, (k.bays b).2.1.trans (h.bays b).2.1, (k.bays b).2.2.trans (h.bays b).2.2⟩,
   k.profiles.trans h.profiles, k.committed.trans h.committed⟩

theorem sumReservations_congr {u v : Vector BayRecord 24} (h : ∀ b : Bay, u[b].reservation = v[b].reservation) :
    sumReservations u = sumReservations v := by
  have e : u.map (·.reservation) = v.map (·.reservation) := by
    ext i hi
    simpa using h ⟨i, hi⟩
  simp only [sumReservations, ← Vector.toList_map, e]

theorem BooksStay.balanced {s t : State} (h : BooksStay s t) (hs : s.Balanced) : t.Balanced := by
  refine ⟨fun b => ?_, ?_⟩
  · obtain ⟨hst, hc, hr⟩ := h.bays b
    simp only [State.profileOf, hst, hc, hr, h.profiles]
    exact hs.1 b
  · rw [h.committed, hs.2]
    exact sumReservations_congr fun b => ((h.bays b).2.2).symm

theorem balanced_of_eq {s t : State} (h : s.Balanced) (bays : t.bays = s.bays := by rfl) (adm : t.adm = s.adm := by rfl) :
    t.Balanced :=
  BooksStay.balanced ⟨fun b => by simp only [State.bay, bays, and_self], by rw [adm], by rw [adm]⟩ h

theorem updBay_booksStay {s : State} {b : Bay} {f : BayRecord → BayRecord} (h : (f (s.bay b)).state = (s.bay b).state)
    (hc : (f (s.bay b)).cls = (s.bay b).cls) (hr : (f (s.bay b)).reservation = (s.bay b).reservation) :
    BooksStay s (s.updBay b f) := by
  refine ⟨fun c => ?_, rfl, rfl⟩
  rw [updBay_bay]
  split
  · next e => rw [e]; exact ⟨h, hc, hr⟩
  · exact ⟨rfl, rfl, rfl⟩

/-- A state entered takes its reservation current along (R7). -/
theorem putState_bay (b c : Bay) (st : BayState) (s : State) : (putState b st s).bay c =
    if c = b then { s.bay b with state := st, reservation := (s.profileOf b).reservation st } else s.bay c := by
  simp only [putState, setReservation, updBay_updBay, updBay_bay, updAdm_bay]

theorem putState_balanced (b : Bay) (st : BayState) {s : State} (h : s.Balanced) : (putState b st s).Balanced := by
  refine ⟨fun c => ?_, ?_⟩
  · simp only [State.profileOf, putState_bay]
    by_cases e : c = b
    · simp only [if_pos e]; rfl
    · simp only [if_neg e]; exact h.1 c
  · rw [sumReservations_congr (v := (setReservation b ((s.profileOf b).reservation st) s).bays)]
    · exact setReservation_sum b _ h.2
    · intro c
      have e := congrArg BayRecord.reservation (putState_bay b c st s)
      refine e.trans ?_
      rw [setReservation_eq]
      by_cases hc : c = b
      · simp [hc]
      · have hv : b.val ≠ c.val := fun k => hc (Fin.ext k.symm)
        simp [hc, hv, State.bay]

theorem changeState_balanced (b : Bay) (st : BayState) {s : State} (h : s.Balanced) : (changeState b st s).Balanced := by
  unfold changeState
  split
  · exact h
  · exact balanced_of_eq (putState_balanced b st h)

/-- A choice moves the bus alone (R128). -/
theorem choose_eq {s t : State} {x : Exchange} (h : s.choose = some (x, t)) : ∃ f, t = s.updBus f := by
  unfold State.choose at h
  split at h
  · cases h; exact ⟨_, rfl⟩
  · obtain ⟨p, _, e⟩ := Option.map_eq_some_iff.mp h
    cases e; exact ⟨_, rfl⟩

theorem change_balanced (s t : State) (c : Change l s t) (h : s.Balanced) : t.Balanced := by
  cases c with
  | aside bays adm => exact balanced_of_eq h bays adm
  | bay kept => exact (updBay_booksStay kept.state kept.cls kept.reservation).balanced h
  | put => exact putState_balanced _ _ h
  | post n => exact balanced_of_eq h
  | capture => exact balanced_of_eq h
  | adm profiles committed => exact BooksStay.balanced (s := s) ⟨fun _ => ⟨rfl, rfl, rfl⟩, profiles, committed⟩ h
  | join => exact ((updBay_booksStay (s := s.updAdm _) rfl rfl rfl).balanced (BooksStay.balanced ⟨fun _ => ⟨rfl, rfl, rfl⟩, rfl, rfl⟩ h))
  | granted =>
    exact changeState_balanced _ _
      ((updBay_booksStay (s := s.updAdm _) rfl rfl rfl).balanced (BooksStay.balanced ⟨fun _ => ⟨rfl, rfl, rfl⟩, rfl, rfl⟩ h))
  | bus => exact balanced_of_eq h
  | enqueue => exact balanced_of_eq h
  | @release b x rest =>
    have k : (updWaiting b (fun _ => rest) s).Balanced := (updBay_booksStay rfl rfl rfl).balanced h
    exact balanced_of_eq k
  | start chosen =>
    obtain ⟨f, rfl⟩ := choose_eq chosen
    exact balanced_of_eq h
  | @remove b =>
    exact BooksStay.balanced (s := s.updBay b (·.removed)) ⟨fun _ => ⟨rfl, rfl, rfl⟩, rfl, rfl⟩
      ((updBay_booksStay rfl rfl rfl).balanced h)
  | rebook books => exact books h

theorem evaluateBudget_booksStay (s : State) : BooksStay s (evaluateBudget s) := by
  unfold evaluateBudget
  dsimp only
  split
  · exact .refl s
  · exact ⟨fun _ => ⟨rfl, rfl, rfl⟩, rfl, rfl⟩

/-- A soft reset books every bay at the Peak of its class (R3, R75). -/
theorem softReset_balanced (s : State) : (softReset s).Balanced := by
  refine (evaluateBudget_booksStay _).balanced ⟨fun b => ?_, rfl⟩
  simp [State.bay, State.profileOf, State.softBays, BayRecord.softReset, BayRecord.reset]

theorem reset_balanced : State.reset.Balanced := ⟨by decide, by decide⟩

/-! ### The Notice Queue (R179) -/

/-- Notices that stand for the same subject replace each other, so the kind and subject of a mapped queue are those it had. -/
theorem sameSubject_trans {m n o : Notice} (h : m.sameSubject n = true) : m.sameSubject o = n.sameSubject o := by
  cases m <;> cases n <;> simp [Notice.sameSubject] at h <;> first | (subst h; cases o <;> rfl) | (cases o <;> rfl)

theorem hand_wellKept {q : NoticeQueue} (n : Notice) (h : q.WellKept) : (q.hand n).WellKept := by
  unfold NoticeQueue.hand
  split
  · exact h
  · split
    · refine ⟨by simpa using h.1, ?_⟩
      have same (m o : Notice) : (if n.sameSubject m then n else m).sameSubject o = m.sameSubject o := by
        split
        · next e => exact sameSubject_trans e
        · rfl
      refine List.pairwise_map.mpr (h.2.imp fun {m o} k => ?_)
      rw [same, sameSubject_comm, same, sameSubject_comm]
      exact k
    · next hn =>
      split
      · next hl =>
        refine ⟨by simp only [List.length_append, List.length_singleton]; omega, ?_⟩
        refine List.pairwise_append.mpr ⟨h.2, List.pairwise_singleton _ _, fun m hm o ho => ?_⟩
        rw [List.mem_singleton.mp ho, sameSubject_comm]
        simpa using fun k => hn (List.any_eq_true.mpr ⟨m, hm, k⟩)
      · exact h

theorem sublist_wellKept {p q : NoticeQueue} (h : p.queue.Sublist q.queue) (hq : q.WellKept) : p.WellKept :=
  ⟨h.length_le.trans hq.1, hq.2.sublist h⟩

theorem changeState_wellKept (b : Bay) (st : BayState) {s : State} (h : s.notices.WellKept) :
    (changeState b st s).notices.WellKept := by
  unfold changeState
  split
  · exact h
  · exact hand_wellKept _ h

theorem change_wellKept (s t : State) (c : Change l s t) (h : s.notices.WellKept) : t.notices.WellKept := by
  cases c with
  | aside _ _ _ notices => exact sublist_wellKept notices h
  | post n => exact hand_wellKept n h
  | granted => exact changeState_wellKept _ _ h
  | start chosen => obtain ⟨f, rfl⟩ := choose_eq chosen; exact h
  | rebook _ _ _ _ notices => exact notices.symm ▸ h
  | bay | put | capture | adm | join | bus | enqueue | release | remove => exact h

theorem reset_wellKept : State.reset.notices.WellKept := ⟨by decide, List.pairwise_singleton _ _⟩

/-- One notice at most stands after a soft reset: the BUDGET notice of R75. -/
theorem softReset_wellKept (s : State) : (softReset s).notices.WellKept := by
  have empty : ({ s.notices with queue := [], dropped := false } : NoticeQueue).WellKept := ⟨Nat.zero_le _, .nil⟩
  unfold softReset evaluateBudget
  dsimp only
  split
  · exact empty
  · exact hand_wellKept _ empty

/-! ### The bay queues (R30) -/

theorem headWrite_length (f : Request → Request) (q : List Request) :
    (match q with | [] => [] | h :: t => f h :: t).length = q.length := by
  cases q <;> rfl

theorem setPhase_queue_length (b c : Bay) (p : Phase) (s : State) :
    ((setPhase b p s).bay c).queue.length = (s.bay c).queue.length := by
  simp only [setPhase, updHead, updBay_bay]
  split
  · next e => rw [e]; exact headWrite_length _ _
  · rfl

theorem change_queuesFit (s t : State) (c : Change l s t) (h : s.QueuesFit) : t.QueuesFit := by
  have at_bay {b : Bay} {f : BayRecord → BayRecord} (k : (f (s.bay b)).queue.length ≤ Config.bayQueuePlaces) :
      (s.updBay b f).QueuesFit := fun d => by
    rw [updBay_bay]
    split
    · exact k
    · exact h d
  cases c with
  | aside bays => intro d; simp only [State.bay, bays]; exact h d
  | bay kept => exact at_bay (kept.fits (h _))
  | put => intro d; rw [(putState_stays _ _ s).queue]; exact h d
  | join => intro d; rw [setPhase_queue_length]; exact h d
  | granted => intro d; rw [(changeState_stays _ _ _).queue, setPhase_queue_length]; exact h d
  | @release b x rest =>
    intro d
    rw [((updWaiting_stays b (fun _ => rest) s).trans (enqueue_stays x _)).queue]
    exact h d
  | start chosen => obtain ⟨f, rfl⟩ := choose_eq chosen; exact h
  | remove => exact at_bay (Nat.zero_le _)
  | rebook _ bays => intro d; rw [(bays d).2.2.1]; exact h d
  | post | capture | adm | bus | enqueue => exact h

theorem softReset_bay (s : State) (b : Bay) :
    (softReset s).bay b = { BayRecord.reset with cls := (s.bay b).cls, zone := (s.bay b).zone
                                                 reservation := (s.profileOf b).peak } := by
  unfold softReset evaluateBudget
  dsimp only
  split <;> simp [postNotice, State.bay, State.softBays, BayRecord.softReset, Profile.reservation, State.profileOf]

theorem softReset_queuesFit (s : State) : (softReset s).QueuesFit := fun b => by
  rw [softReset_bay]
  exact Nat.zero_le _

theorem reset_queuesFit : State.reset.QueuesFit := by unfold State.QueuesFit; decide

/-! ### The exchange queues (R113, R127, R136) -/

theorem individuals_enqueue (x : Exchange) (s : State) (b : Bay) :
    ((enqueue x s).bus.individuals b).length = (s.bus.individuals b).length + if x.individual b then 1 else 0 := by
  unfold enqueue BusController.individuals
  simp only [updBus_bus]
  split <;> split <;> simp_all [List.filter_append] <;> omega

/-- The exchange taken and what it leaves are what the queue held. -/
theorem takeFirst_perm {ok : Exchange → Bool} {xs ys : List Exchange} {x : Exchange} (h : takeFirst ok xs = some (x, ys)) :
    xs.Perm (x :: ys) := by
  induction xs generalizing ys with
  | nil => simp [takeFirst] at h
  | cons y xs ih =>
    unfold takeFirst at h
    split at h
    · cases h; exact .refl _
    · obtain ⟨⟨z, zs⟩, hz, he⟩ := Option.map_eq_some_iff.mp h
      cases he
      exact ((ih hz).cons y).trans (.swap _ _ _)

theorem choose_perm {s t : State} {x : Exchange} (h : s.choose = some (x, t)) :
    (s.bus.urgent ++ s.bus.normal).Perm (x :: (t.bus.urgent ++ t.bus.normal)) := by
  unfold State.choose at h
  split at h
  · next hu => cases h; rw [hu]; exact .refl _
  · next hu =>
    obtain ⟨⟨y, ys⟩, hy, e⟩ := Option.map_eq_some_iff.mp h
    cases e
    rw [hu]
    simpa [hu] using takeFirst_perm hy

theorem individuals_choose {s t : State} {x : Exchange} (h : s.choose = some (x, t)) (b : Bay) :
    (t.bus.individuals b).length + (if x.individual b then 1 else 0) = (s.bus.individuals b).length := by
  rw [BusController.individuals, BusController.individuals, ((choose_perm h).filter _).length_eq, List.filter_cons]
  split <;> simp

/-- What the bus and the waiting place of bay `b` must show (R113, R127, R136). -/
def BusController.Single (u : BusController) (b : Bay) : Prop :=
  (u.individuals b).length ≤ 1
    ∧ ∀ c, u.current = some c → c.ex.individual b = true → c.ex.owner ≠ .protective → u.individuals b = []

theorem standSingly_iff (s : State) :
    s.ExchangesStandSingly ↔ ∀ b, (∀ x ∈ (s.bay b).waiting, x.target = .bay b) ∧ s.bus.Single b := Iff.rfl

theorem enqueue_single {x : Exchange} {s : State} (alone : ∀ b, x.individual b = true → s.bus.individuals b = []
      ∧ ∀ c, s.bus.current = some c → c.ex.individual b = true → c.ex.owner = .protective) {b : Bay} (h : s.bus.Single b) :
    (enqueue x s).bus.Single b := by
  have n := individuals_enqueue x s b
  have current : (enqueue x s).bus.current = s.bus.current := by
    unfold enqueue; simp only [updBus_bus]; split <;> rfl
  by_cases hx : x.individual b = true
  · rw [if_pos hx, (alone b hx).1] at n
    exact ⟨n.le, fun c hc hi ho => absurd ((alone b hx).2 c (current ▸ hc) hi) ho⟩
  · rw [if_neg hx, Nat.add_zero] at n
    refine ⟨n.le.trans h.1, fun c hc hi ho => ?_⟩
    rw [← List.length_eq_zero_iff, n, h.2 c (current ▸ hc) hi ho]
    rfl

theorem start_single {s t : State} {x y : Exchange} (chosen : s.choose = some (x, t)) (target : y.target = x.target) {b : Bay}
    (h : s.bus.Single b) : (makeCurrent y t).bus.Single b := by
  have n := individuals_choose chosen b
  refine ⟨?_, fun c hc hi _ => ?_⟩
  · have := h.1
    change (t.bus.individuals b).length ≤ 1
    omega
  · cases hc
    have hx : x.individual b = true := by rwa [individual_iff, ← target, ← individual_iff]
    have := h.1
    rw [if_pos hx] at n
    exact List.length_eq_zero_iff.mp (by change (t.bus.individuals b).length = 0; omega)

theorem updBay_waiting {s : State} {b : Bay} {f : BayRecord → BayRecord} (h : ∀ d, ∀ x ∈ (s.bay d).waiting, x.target = .bay d)
    (k : ∀ x ∈ (f (s.bay b)).waiting, x ∈ (s.bay b).waiting ∨ x.target = .bay b) (d : Bay) :
    ∀ x ∈ ((s.updBay b f).bay d).waiting, x.target = .bay d := by
  intro x hx
  rw [updBay_bay] at hx
  split at hx
  · next e =>
    subst e
    exact (k x hx).elim (h d x) id
  · exact h d x hx

theorem putState_waiting (b d : Bay) (st : BayState) (s : State) : ((putState b st s).bay d).waiting = (s.bay d).waiting := by
  rw [putState_bay]
  split
  · next e => rw [e]
  · rfl

theorem setPhase_waiting (b d : Bay) (p : Phase) (s : State) : ((setPhase b p s).bay d).waiting = (s.bay d).waiting := by
  simp only [setPhase, updHead, updBay_bay]
  split
  · next e => rw [e]
  · rfl

theorem changeState_waiting (b d : Bay) (st : BayState) (s : State) :
    ((changeState b st s).bay d).waiting = (s.bay d).waiting := by
  unfold changeState
  split
  · rfl
  · exact putState_waiting b d st s

theorem changeState_bus (b : Bay) (st : BayState) (s : State) : (changeState b st s).bus = s.bus := by
  unfold changeState
  split <;> rfl

theorem change_standSingly (s t : State) (c : Change l s t) (h : s.ExchangesStandSingly) : t.ExchangesStandSingly := by
  rw [standSingly_iff] at h ⊢
  have waiting := fun d => (h d).1
  have kept {b : Bay} {f : BayRecord → BayRecord} (k : ∀ x ∈ (f (s.bay b)).waiting, x ∈ (s.bay b).waiting ∨ x.target = .bay b) (d : Bay) :
      (∀ x ∈ ((s.updBay b f).bay d).waiting, x.target = .bay d) ∧ s.bus.Single d := ⟨updBay_waiting waiting k d, (h d).2⟩
  cases c with
  | aside bays _ bus => intro d; simp only [State.bay, bays, bus]; exact h d
  | bay k => exact kept k.waiting
  | put => intro d; rw [putState_waiting]; exact h d
  | join => intro d; rw [setPhase_waiting]; exact h d
  | granted => intro d; rw [changeState_waiting, changeState_bus, setPhase_waiting]; exact h d
  | bus queued current =>
    refine fun d => ⟨waiting d, (queued d).trans (h d).2.1, fun c hc hi ho => ?_⟩
    obtain ⟨e, he, hx⟩ := current c hc
    refine List.length_eq_zero_iff.mp (Nat.le_zero.mp ((queued d).trans ?_))
    rw [(h d).2.2 e he (hx ▸ hi) (hx ▸ ho)]
    rfl
  | enqueue alone => exact fun d => ⟨waiting d, enqueue_single alone (h d).2⟩
  | @release b x rest waits queued current =>
    have own : x.target = .bay b := waiting b x (by rw [waits]; exact List.mem_cons_self)
    refine fun d => ⟨updBay_waiting (f := fun r => { r with waiting := rest }) waiting
        (fun y hy => .inl (by rw [waits]; exact List.mem_cons_of_mem _ hy)) d,
      enqueue_single (s := updWaiting b (fun _ => rest) s) (fun e he => ?_) (h d).2⟩
    obtain rfl : b = e := by simpa [individual_iff, own] using he
    exact ⟨individuals_of_not_queued queued, fun c hc hi => absurd hi (by simp [current_not_individual current hc])⟩
  | start chosen target =>
    refine fun d => ⟨?_, start_single chosen target (h d).2⟩
    obtain ⟨f, rfl⟩ := choose_eq chosen
    exact waiting d
  | remove => exact kept (f := (·.removed)) fun _ hx => .inl hx
  | rebook _ bays _ bus => intro d; rw [(bays d).2.2.2, bus]; exact h d
  | post | capture | adm => exact h

theorem evaluateBudget_bus (s : State) : (evaluateBudget s).bus = s.bus := by
  unfold evaluateBudget
  dsimp only
  split <;> rfl

theorem softReset_bus (s : State) : (softReset s).bus = s.bus.softReset := by
  unfold softReset
  rw [evaluateBudget_bus]

theorem softReset_standSingly (s : State) : (softReset s).ExchangesStandSingly := by
  refine (standSingly_iff _).mpr fun b => ⟨fun x hx => ?_, ?_⟩
  · rw [softReset_bay] at hx; cases hx
  · rw [softReset_bus]; exact ⟨Nat.zero_le _, fun _ _ _ _ => rfl⟩

/-! ### The Admission Queue (R62) -/

/-- An Admission Queue entry stands for its bay's head. -/
def State.Stands (s : State) (e : AdmEntry) : Prop := headMark (s.bay e.bay).queue = some (e.kind.request, .admitting)

theorem stands_iff (s : State) (e : AdmEntry) :
    s.Stands e ↔ ∃ r, s.head e.bay = some r ∧ r.phase = .admitting ∧ r.kind = e.kind.request := by
  unfold State.Stands headMark State.head
  rw [Option.map_eq_some_iff]
  simp only [Prod.mk.injEq]
  exact exists_congr fun r => and_congr_right fun _ => and_comm

theorem admissionConsistent_iff (s : State) :
    s.AdmissionConsistent ↔ s.adm.queue.Pairwise (fun e f => e.bay ≠ f.bay) ∧ ∀ e ∈ s.adm.queue, s.Stands e := by
  simp only [State.AdmissionConsistent, stands_iff]

/-- Where no entry rests on bay `b`'s head, no entry is of bay `b`. -/
theorem Stands.ne_of_unadmitted {s : State} (h : ∀ e ∈ s.adm.queue, s.Stands e) {b : Bay} (free : s.Unadmitted b) {e : AdmEntry}
    (he : e ∈ s.adm.queue) : e.bay ≠ b := by
  rcases free with free | free
  · rintro rfl
    obtain ⟨r, hr, hp, _⟩ := (stands_iff s e).mp (h e he)
    exact free r hr hp
  · exact free e he

theorem stands_congr {s t : State} {e : AdmEntry} (h : (t.bay e.bay).queue = (s.bay e.bay).queue) (k : s.Stands e) : t.Stands e := by
  unfold State.Stands
  rw [h]
  exact k

theorem stands_updBay_other {s : State} {b : Bay} {f : BayRecord → BayRecord} {e : AdmEntry} (hb : e.bay ≠ b) (k : s.Stands e) :
    (s.updBay b f).Stands e := stands_congr (by rw [updBay_bay_other s f hb]) k

theorem HeadsStay.consistent {s t : State} (h : HeadsStay s t) (hs : s.AdmissionConsistent) : t.AdmissionConsistent := by
  rw [admissionConsistent_iff] at hs ⊢
  rw [h.admission]
  exact ⟨hs.1, fun e he => stands_congr (h.queue _) (hs.2 e he)⟩

theorem change_consistent (s t : State) (c : Change l s t) (h : s.AdmissionConsistent) : t.AdmissionConsistent := by
  obtain ⟨apart, stands⟩ := (admissionConsistent_iff s).mp h
  cases c with
  | aside bays adm => exact HeadsStay.consistent ⟨fun b => by simp only [State.bay, bays], by rw [adm]⟩ h
  | @bay b f kept =>
    refine (admissionConsistent_iff _).mpr ⟨apart, fun e he => ?_⟩
    by_cases hb : e.bay = b
    · rcases kept.head with same | free
      · subst hb
        unfold State.Stands
        rw [updBay_bay_same, same]
        exact stands e he
      · exact absurd hb (Stands.ne_of_unadmitted stands free he)
    · exact stands_updBay_other hb (stands e he)
  | put => exact (putState_stays _ _ s).consistent h
  | adm _ _ queue =>
    exact (admissionConsistent_iff _).mpr ⟨apart.sublist queue, fun e he => stands e (queue.subset he)⟩
  | @join b k r head kind _ free =>
    refine (admissionConsistent_iff _).mpr ⟨List.pairwise_append.mpr ⟨apart, List.pairwise_singleton _ _, fun e he f hf => ?_⟩,
      fun e he => ?_⟩
    · rw [List.mem_singleton.mp hf]
      exact Stands.ne_of_unadmitted stands free he
    · rcases List.mem_append.mp he with he | he
      · exact stands_updBay_other (s := s.updAdm _) (Stands.ne_of_unadmitted stands free he) (stands e he)
      · rw [List.mem_singleton.mp he]
        obtain ⟨rest, hq⟩ : ∃ rest, (s.bay b).queue = r :: rest := by
          unfold State.head at head
          exact ⟨_, List.eq_cons_of_mem_head? head⟩
        simp [State.Stands, headMark, setPhase, updHead, hq, kind]
  | @granted e rest queue =>
    refine (changeState_stays _ _ _).consistent ((admissionConsistent_iff _).mpr ?_)
    rw [queue, List.pairwise_cons] at apart
    have tail : (setPhase e.bay .issued (s.updAdm fun a => { a with queue := a.queue.tail })).adm.queue = rest := by
      simp [setPhase, updHead, queue]
    rw [tail]
    exact ⟨apart.2, fun f hf => stands_updBay_other (s := s.updAdm _) (apart.1 f hf).symm (stands f (by rw [queue]; simp [hf]))⟩
  | release => exact HeadsStay.consistent ((updWaiting_stays _ _ s).trans (enqueue_stays _ _)) h
  | start chosen =>
    obtain ⟨f, rfl⟩ := choose_eq chosen
    exact h
  | @remove b =>
    refine (admissionConsistent_iff _).mpr ⟨apart.sublist List.filter_sublist, fun e he => ?_⟩
    obtain ⟨he, hb⟩ := List.mem_filter.mp he
    exact stands_updBay_other (by simpa using hb) (stands e he)
  | rebook _ bays queue => exact HeadsStay.consistent ⟨fun d => (bays d).2.2.1, queue⟩ h
  | post | capture | bus => exact h
  | enqueue => exact (enqueue_stays _ s).consistent h

theorem softReset_consistent (s : State) : (softReset s).AdmissionConsistent := by
  have empty : (softReset s).adm.queue = [] := by unfold softReset; rw [evaluateBudget_adm]
  refine (admissionConsistent_iff _).mpr ?_
  rw [empty]
  exact ⟨.nil, fun e he => by cases he⟩

end Sys2Proof.Machine

namespace Sys2Proof.Proofs

open Sys2Proof.Machine

/-- Settles O5: the elementary changes book by `setReservation` alone. -/
theorem stepKeepsTheBooksBalanced : Obligations.StepKeepsTheBooksBalanced :=
  fun _ _ h e => step_keeps (P := State.Balanced) change_balanced (fun _ => balanced_of_eq reset_balanced) (fun s _ => softReset_balanced s) h e

/-- Settles O6: of the elementary changes, `post` hands over notices, `bay` writes bay queues, `bus`, `enqueue`, `release` and `start`
move exchanges. -/
theorem stepKeepsTheQueues : Obligations.StepKeepsTheQueues := by
  refine fun s t e => ⟨fun h => ?notices, fun h => ?queues, fun h => ?exchanges⟩
  case notices =>
    exact step_keeps (P := fun s => s.notices.WellKept) change_wellKept (fun _ => reset_wellKept)
      (fun s _ => softReset_wellKept s) h e
  case queues =>
    exact step_keeps (P := State.QueuesFit) change_queuesFit (fun _ => reset_queuesFit) (fun s _ => softReset_queuesFit s) h e
  case exchanges =>
    exact step_keeps (P := State.ExchangesStandSingly) change_standSingly
      (fun _ b => ⟨fun x hx => by simp [State.reset, State.bay, BayRecord.reset] at hx, Nat.zero_le _, fun _ _ _ _ => rfl⟩)
      (fun s _ => softReset_standSingly s) h e

/-- Settles O8: an entry joins the Admission Queue with its bay's head by `join` alone, and heads change phase where no entry rests on
them. -/
theorem stepKeepsTheAdmissionQueue : Obligations.StepKeepsTheAdmissionQueue :=
  fun _ _ h e => step_keeps (P := State.AdmissionConsistent) change_consistent
    (fun _ => ⟨.nil, fun e he => by cases he⟩) (fun s _ => softReset_consistent s) h e

end Sys2Proof.Proofs
end

section
/-! PROOFS. The tables, the settings, the sensors and the levels: the elementary turns an event gives them, and the commands as sequences
of turns. -/

namespace Sys2Proof.Machine

set_option Elab.async false

/-! ### What the Motion Classifier's work at one sensor can touch -/

/-- A sensor that rests while it is disabled (R96). -/
def SensorRecord.Rests (r : SensorRecord) : Prop :=
  r.enabled = false → r.conds = Conditions.clear ∧ r.expected = none ∧ r.debounceDue = none ∧ r.joltDue = none ∧ r.blindDue = none

/-- The vibration sum is that of the window of 16 (R93). -/
def SensorRecord.SumRight (r : SensorRecord) : Prop := r.window.length = 16 ∧ r.vibSum = r.window.sum

/-- From `s` to `t` only the bays' work, sensor `i` and the latch, where it was clear, changed. -/
structure MotionFrame (i : SensorId) (s t : State) : Prop where
  now : t.now = s.now
  pending : t.pending = s.pending
  windows : t.windows = s.windows
  sources : t.sources = s.sources
  thresholds : t.thresholds = s.thresholds
  prot : t.prot = s.prot
  timing : t.timing = s.timing
  routing : t.notices.routing = s.notices.routing
  settings : t.adm.profiles = s.adm.profiles ∧ t.adm.limit = s.adm.limit ∧ t.adm.margin = s.adm.margin
    ∧ t.adm.effLimit = s.adm.effLimit
  assignment : ∀ b, (t.bay b).cls = (s.bay b).cls ∧ (t.bay b).zone = (s.bay b).zone
  others : ∀ j : SensorId, j ≠ i → t.sensors[j] = s.sensors[j]
  enabled : t.sensors[i].enabled = s.sensors[i].enabled
  sum : s.sensors[i].SumRight → t.sensors[i].SumRight
  latch : ∀ r, s.latch = some r → t.latch = some r

theorem MotionFrame.of_work {i : SensorId} {s t : State} (h : WorkFrame s t) : MotionFrame i s t :=
  ⟨h.now, h.pending, h.windows, h.sources, h.thresholds, h.prot, h.timing, h.routing, h.settings, h.assignment,
   fun j _ => by rw [h.sensors], by rw [h.sensors], fun k => by rw [h.sensors]; exact k, fun r k => by rw [h.latch]; exact k⟩

theorem MotionFrame.refl (i : SensorId) (s : State) : MotionFrame i s s := .of_work (.refl s)

theorem MotionFrame.trans {i : SensorId} {s t u : State} (h : MotionFrame i s t) (k : MotionFrame i t u) : MotionFrame i s u where
  now := k.now.trans h.now
  pending := k.pending.trans h.pending
  windows := k.windows.trans h.windows
  sources := k.sources.trans h.sources
  thresholds := k.thresholds.trans h.thresholds
  prot := k.prot.trans h.prot
  timing := k.timing.trans h.timing
  routing := k.routing.trans h.routing
  settings := ⟨k.settings.1.trans h.settings.1, k.settings.2.1.trans h.settings.2.1, k.settings.2.2.1.trans h.settings.2.2.1,
    k.settings.2.2.2.trans h.settings.2.2.2⟩
  assignment b := ⟨(k.assignment b).1.trans (h.assignment b).1, (k.assignment b).2.trans (h.assignment b).2⟩
  others j hj := (k.others j hj).trans (h.others j hj)
  enabled := k.enabled.trans h.enabled
  sum q := k.sum (h.sum q)
  latch r q := k.latch r (h.latch r q)

/-- A write at sensor `i` that leaves its enabled field and its sum right. -/
theorem updSensor_motion {i : SensorId} {s : State} {f : SensorRecord → SensorRecord}
    (enabled : ∀ r, (f r).enabled = r.enabled := by intro r; rfl)
    (sum : ∀ r : SensorRecord, r.SumRight → (f r).SumRight := by intro r h; exact h) : MotionFrame i s (s.updSensor i f) :=
  ⟨rfl, rfl, rfl, rfl, rfl, rfl, rfl, rfl, ⟨rfl, rfl, rfl, rfl⟩, fun _ => ⟨rfl, rfl⟩, fun j hj => updSensor_other s f hj,
   by rw [updSensor_same, enabled], fun h => by rw [updSensor_same]; exact sum _ h, fun _ h => h⟩

theorem setImpact_motion (i j : SensorId) (h : Nat) (s : State) : MotionFrame i s (setImpact j h s) :=
  .trans (t := { s with latch := match s.latch with
      | some r => some r
      | none => some { sensor := j, height := h, time := s.now } })
    ⟨rfl, rfl, rfl, rfl, rfl, rfl, rfl, rfl, ⟨rfl, rfl, rfl, rfl⟩, fun _ => ⟨rfl, rfl⟩, fun _ _ => rfl, rfl, id,
      fun r k => by simp only [k]⟩ (.of_work (postNotice_work _ _))

theorem deliverFall_motion (i : SensorId) (h : Nat) (s : State) : MotionFrame i s (deliverFall i h s) := by
  have fall : MotionFrame i s (setLastFall i h (s.thresholds.classify h) s) := updSensor_motion
  unfold deliverFall
  dsimp only
  generalize setLastFall i h (s.thresholds.classify h) s = s1 at fall ⊢
  split
  · exact fall.trans (.of_work (postNotice_work _ _))
  · exact fall.trans (setImpact_motion _ _ _ _)
  · exact fall.trans (.of_work ((postNotice_work _ _).trans (captureFault_work _ _ _ _ _)))

theorem endFallUnseen_motion (i : SensorId) (s : State) : MotionFrame i s (endFallUnseen i s) := by
  unfold endFallUnseen
  split
  · exact (MotionFrame.trans updSensor_motion updSensor_motion).trans (setImpact_motion _ _ _ _)
  · exact .refl i s

/-- A window that takes a value in and gives its oldest out keeps its sum right (R93). -/
theorem rollStep_sumRight {r : SensorRecord} (t : Thresholds) (v : Nat) (h : r.SumRight) : (r.rollStep t v).SumRight := by
  obtain ⟨length, sum⟩ := h
  rcases hw : r.window with _ | ⟨x, xs⟩
  · rw [hw] at length; cases length
  · rw [hw] at length sum
    simp only [List.length_cons, List.sum_cons] at length sum
    simp only [SensorRecord.SumRight, SensorRecord.rollStep, hw, List.tail_cons, List.headD_cons, List.length_append,
      List.length_singleton, List.sum_append, List.sum_singleton]
    omega

theorem fallStep_enabled (r : SensorRecord) (t : Thresholds) (low : Bool) (c : Half) :
    (r.fallStep t low c).enabled = r.enabled := by
  unfold SensorRecord.fallStep
  dsimp only
  split <;> split <;> rfl

theorem fallStep_sumRight {r : SensorRecord} (t : Thresholds) (low : Bool) (c : Half) (h : r.SumRight) :
    (r.fallStep t low c).SumRight := by
  unfold SensorRecord.fallStep
  dsimp only
  split <;> split <;> exact h

theorem takeSample_motion (i : SensorId) (c : Half) (x y z : Int) (s : State) : MotionFrame i s (takeSample i c x y z s) := by
  unfold takeSample
  extract_lets t m2 high low s1 r s2 s3
  have h1 : MotionFrame i s s1 := by
    simp only [s1]
    split
    · exact updSensor_motion
    · exact .refl i s
  have h2 : MotionFrame i s1 s2 := updSensor_motion (fun r => fallStep_enabled r t low c) fun r => fallStep_sumRight t low c
  have h3 : MotionFrame i s2 s3 := by
    simp only [s3]
    split
    · exact deliverFall_motion _ _ _
    · exact .refl i s2
  exact ((h1.trans h2).trans h3).trans (updSensor_motion (sum := fun r h => rollStep_sumRight (r := r.joltStep t high) t _ h))

theorem takeSamples_motion (i : SensorId) (ss : List (Int × Int × Int)) (c : Half) (s : State) :
    MotionFrame i s (takeSamples i c ss s) := by
  induction ss generalizing c s with
  | nil => exact .refl i s
  | cons x ss ih => exact (takeSample_motion i c x.1 x.2.1 x.2.2 s).trans (ih _ _)

/-! ### Elementary turns -/

/-- What an event may turn besides its ordinary work: `writes`, the tables; `resumes`, the latch. -/
structure Grant where
  writes : Bool
  resumes : Bool

/-- The tables outside the Protection Unit and the sensors stay (R151). -/
structure TablesRest (s t : State) : Prop where
  profiles : t.adm.profiles = s.adm.profiles
  assignment : ∀ b, (t.bay b).cls = (s.bay b).cls ∧ (t.bay b).zone = (s.bay b).zone
  thresholds : t.thresholds = s.thresholds
  windows : t.windows = s.windows
  sources : t.sources = s.sources
  routing : t.notices.routing = s.notices.routing
  timing : t.timing = s.timing

/-- The zone levels computed anew (R101). -/
def State.leveled (s : State) : State := { s with prot := { s.prot with levels := s.prot.computeLevels } }

/-- Sensor `i`'s copy and the latch copy taken, and the levels computed (R100, R101). -/
def State.handed (s : State) (i : SensorId) : State :=
  State.leveled { s with prot := { s.prot with
    copies := s.prot.copies.set i { enabled := s.sensors[i].enabled, conds := s.sensors[i].conds }
    latchCopy := s.latch.isSome } }

/-- The elementary turns of the tables, the settings, the sensors and the levels. -/
inductive Turn (g : Grant) (s : State) : State → Prop
  /-- Neither clock, nor sensors, nor latch, nor Protection Unit; the other tables by a write alone. -/
  | aside {t : State} (now : t.now = s.now) (pending : t.pending = s.pending) (sensors : t.sensors = s.sensors)
      (latch : t.latch = s.latch) (prot : t.prot = s.prot) (tables : TablesRest s t ∨ g.writes = true)
      (profiles : s.ProfilesNormalized → t.ProfilesNormalized) (supply : s.SupplyHolds → t.SupplyHolds)
      (manager : s.SomeManager → t.SomeManager) : Turn g s t
  /-- A sensor changes in other fields than its conditions. -/
  | sensor {i : SensorId} {f : SensorRecord → SensorRecord} (conds : (f s.sensors[i]).conds = s.sensors[i].conds)
      (enabled : (f s.sensors[i]).enabled = s.sensors[i].enabled ∨ g.writes = true ∧ (f s.sensors[i]).enabled = true)
      (rests : s.sensors[i].Rests → (f s.sensors[i]).Rests) (sum : s.sensors[i].SumRight → (f s.sensors[i]).SumRight) :
      Turn g s (s.updSensor i f)
  /-- Work at a sensor that ends in its hand-off. -/
  | handed {i : SensorId} {u : State} (motion : MotionFrame i s u) (rests : s.sensors[i].Rests → u.sensors[i].Rests) :
      Turn g s (u.handed i)
  /-- A sensor is disabled and handed off (R96). -/
  | disabled {i : SensorId} {u : State} {f : SensorRecord → SensorRecord} (writes : g.writes = true) (motion : MotionFrame i s u)
      (rests : (f u.sensors[i]).Rests) (sum : (f u.sensors[i]).SumRight) : Turn g s ((u.updSensor i f).handed i)
  /-- A Level Map entry is written (R102). -/
  | mapped {i : Fin 6} {e : Level} (writes : g.writes = true) :
      Turn g s (State.leveled { s with prot := { s.prot with map := s.prot.map.set i e } })
  /-- A Level Action entry is written (R107). -/
  | acted {i : Fin 8} {e : ActionEntry} (writes : g.writes = true) :
      Turn g s { s with prot := { s.prot with actions := s.prot.actions.set i e } }
  /-- The latch is cleared and handed over (R123). -/
  | resumed (resumes : g.resumes = true) : Turn g s (State.leveled { s with latch := none, prot := { s.prot with latchCopy := false } })

/-- A sequence of elementary turns. -/
abbrev Turns (g : Grant) : State → State → Prop := Relation.ReflTransGen (Turn g)

variable {g : Grant}

theorem Turns.keeps {P : State → Prop} (h : ∀ s t, Turn g s t → P s → P t) {s t : State} (w : Turns g s t) (hs : P s) : P t := by
  induction w with
  | refl => exact hs
  | tail _ c ih => exact h _ _ c ih

theorem WorkFrame.tables {s t : State} (h : WorkFrame s t) : TablesRest s t :=
  ⟨h.settings.1, h.assignment, h.thresholds, h.windows, h.sources, h.routing, h.timing⟩

/-- The ordinary work of an event is a turn that turns nothing. -/
theorem WorkFrame.turns {s t : State} (h : WorkFrame s t) : Turns g s t := by
  obtain ⟨profiles, limit, margin, effLimit⟩ := h.settings
  refine .single (.aside h.now h.pending h.sensors h.latch h.prot (.inl h.tables) (fun k => ?_) (fun k => ?_) fun k => ?_)
  · unfold State.ProfilesNormalized; rw [profiles]; exact k
  · unfold State.SupplyHolds; rw [limit, margin, effLimit]; exact k
  · unfold State.SomeManager State.manages; rw [h.sources]; exact k

/-- A write of tables that the invariants do not speak of. -/
theorem write_turns {s t : State} (writes : g.writes = true) (now : t.now = s.now := by rfl) (pending : t.pending = s.pending := by rfl)
    (sensors : t.sensors = s.sensors := by rfl) (latch : t.latch = s.latch := by rfl) (prot : t.prot = s.prot := by rfl)
    (profiles : t.adm.profiles = s.adm.profiles := by rfl)
    (supply : (t.adm.limit, t.adm.margin, t.adm.effLimit) = (s.adm.limit, s.adm.margin, s.adm.effLimit) := by rfl)
    (sources : t.sources = s.sources := by rfl) : Turns g s t := by
  simp only [Prod.mk.injEq] at supply
  refine .single (.aside now pending sensors latch prot (.inr writes) (fun k => ?_) (fun k => ?_) fun k => ?_)
  · unfold State.ProfilesNormalized; rw [profiles]; exact k
  · unfold State.SupplyHolds; rw [supply.1, supply.2.1, supply.2.2]; exact k
  · unfold State.SomeManager State.manages; rw [sources]; exact k

theorem ite_turns {c : Prop} [Decidable c] {s t u : State} (h : c → Turns g s t) (k : ¬ c → Turns g s u) :
    Turns g s (if c then t else u) := by
  split
  · exact h ‹_›
  · exact k ‹_›

theorem dite_turns {c : Prop} [Decidable c] {s : State} {t : c → State} {u : ¬ c → State} (h : ∀ k, Turns g s (t k))
    (k : ∀ k, Turns g s (u k)) : Turns g s (if hc : c then t hc else u hc) := by
  split
  · exact h _
  · exact k _

/-! ### Levels -/

theorem levelChange_work (w : Bool) (old : ZoneLevels) (s : State) : WorkFrame s (levelChange w old s) :=
  (WorkFrame.foldl (fun s z => postLevel_work old z s) (.refl s)).trans (carryOut_work _ _ _)

/-- What follows a computation of the levels is ordinary work (R101, R106). -/
theorem recomputeLevels_work (w : Bool) (s : State) : WorkFrame s.leveled (recomputeLevels w s) := by
  unfold recomputeLevels
  dsimp only
  split
  · next h =>
    have e : s.leveled = s := by unfold State.leveled; rw [h]
    rw [e]
    exact .refl s
  · exact levelChange_work _ _ _

theorem handOff_work (i : SensorId) (s : State) : WorkFrame (s.handed i) (handOff i s) := recomputeLevels_work _ _

/-- Work at a sensor that ends in its hand-off. -/
theorem handOff_turns {i : SensorId} {s u : State} (motion : MotionFrame i s u) (rests : s.sensors[i].Rests → u.sensors[i].Rests) :
    Turns g s (handOff i u) := .trans (.single (.handed motion rests)) (handOff_work i u).turns

/-! ### Samples, expiries and rates -/

theorem sensor_turns {i : SensorId} {s : State} {f : SensorRecord → SensorRecord} (conds : (f s.sensors[i]).conds = s.sensors[i].conds)
    (enabled : (f s.sensors[i]).enabled = s.sensors[i].enabled) (rests : s.sensors[i].Rests → (f s.sensors[i]).Rests)
    (sum : s.sensors[i].SumRight → (f s.sensors[i]).SumRight) : Turns g s (s.updSensor i f) :=
  .single (.sensor conds (.inl enabled) rests sum)

/-- An enabled sensor rests in the sense of R96 whatever it does. -/
theorem rests_of_enabled {r : SensorRecord} (h : r.enabled = true) : r.Rests := fun k => by rw [h] at k; cases k

theorem samplesFrame_turns (i : SensorId) (c : Half) (ss : List (Int × Int × Int)) (s : State) :
    Turns g s (samplesFrame i c ss s) := by
  unfold samplesFrame
  refine ite_turns (fun _ => .refl) fun he => ?_
  have on : s.sensors[i].enabled = true := by simpa using he
  have restart : Turns g s (restartBlind i s) := sensor_turns rfl rfl (fun _ => rests_of_enabled on) id
  have accept (gap : Bool) : Turns g s (acceptFrame i gap c ss s) := by
    have motion := (MotionFrame.trans (updSensor_motion (i := i) (s := s) (f := fun r =>
      { (if gap then r.noRuns else r).withConds ({ · with blind := false }) with
        expected := some (c + BitVec.ofNat 16 ss.length), blindDue := some s.blindDeadline })
      (by intro r; cases gap <;> rfl) (by intro r h; cases gap <;> exact h)) (takeSamples_motion i ss c _))
    exact handOff_turns motion fun _ => rests_of_enabled (motion.enabled.trans on)
  refine ite_turns (fun _ => restart) fun _ => ?_
  split
  · exact accept false
  · exact ite_turns (fun _ => restart) fun _ => accept _

theorem debounceExpired_turns (i : SensorId) (s : State) : Turns g s (debounceExpired i s) :=
  sensor_turns rfl rfl (fun h k => ⟨(h k).1, (h k).2.1, rfl, (h k).2.2.2⟩) id

theorem joltHoldExpired_turns (i : SensorId) (s : State) : Turns g s (joltHoldExpired i s) := by
  have rests (h : s.sensors[i].Rests) :
      ({ s.sensors[i].withConds ({ · with jolt := false }) with joltDue := none } : SensorRecord).Rests := fun k => by
    obtain ⟨conds, expected, debounce, _, blind⟩ := h k
    exact ⟨by simp only [SensorRecord.withConds, conds]; rfl, expected, debounce, rfl, blind⟩
  unfold joltHoldExpired
  refine ite_turns (fun _ => handOff_turns updSensor_motion fun h => by rw [updSensor_same]; exact rests h) fun was => ?_
  refine sensor_turns ?_ rfl rests id
  rw [Bool.not_eq_true] at was
  simp only [SensorRecord.withConds, ← was]

theorem blindExpired_turns {i : SensorId} {s : State} (due : s.sensors[i].blindDue ≠ none) : Turns g s (blindExpired i s) := by
  have on (h : s.sensors[i].Rests) : s.sensors[i].enabled = true := by
    by_contra k
    exact due (h (by simpa using k)).2.2.2.2
  unfold blindExpired
  refine ite_turns (fun _ => sensor_turns rfl rfl (fun h => rests_of_enabled (on h)) id) fun _ => ?_
  have motion : MotionFrame i s (sensorFault i sensorBlind ((endFallUnseen i s).updSensor i fun r =>
      { r.noRuns.withConds ({ · with blind := true }) with blindDue := none })) :=
    ((endFallUnseen_motion i s).trans updSensor_motion).trans (.of_work (captureFault_work _ _ _ _ _))
  refine handOff_turns (motion.trans (.of_work (postNotice_work _ _))) fun h => rests_of_enabled ((motion.trans (.of_work (postNotice_work _ _))).enabled.trans (on h))

theorem rateOutcome_turns (i : SensorId) (r : Option Rate) (s : State) : Turns g s (rateOutcome i r s) := by
  have taken : Turns g s (s.updSensor i fun e => { e with rate := r.getD s.sensors[i].rate, expected := none, furtherRate := false }) :=
    sensor_turns rfl rfl (fun h k => ⟨(h k).1, rfl, (h k).2.2⟩) id
  have same : (s.updSensor i fun e => { e with rate := r.getD e.rate, expected := none, furtherRate := false })
      = s.updSensor i fun e => { e with rate := r.getD s.sensors[i].rate, expected := none, furtherRate := false } := by
    simp only [State.updSensor]
  unfold rateOutcome
  dsimp only
  rw [same]
  split
  · exact taken.trans (enqueue_work _ _).turns
  · exact taken.trans (sensor_turns rfl rfl id id)

/-! ### Answers -/

theorem failAttempt_turns (c : Current) (f : FailClass) (s : State) : Turns g s (failAttempt c f s) := by
  have ended : WorkFrame s (endCurrent s) := endCurrent_work s
  unfold failAttempt
  refine ite_turns (fun _ => ended.turns) fun _ => ite_turns (fun _ => ?_) fun _ => ite_turns (fun _ => ?_) fun _ => ?_
  · exact (ended.trans (endCutShortOwner_work _ _)).turns
  · exact (scheduleResend_work _ _).turns
  · split
    · exact (ended.trans (exhaustBay_work _ _ _ _)).turns
    · exact ended.turns.trans (rateOutcome_turns _ _ _)
    · exact ended.turns

theorem succeed_turns (c : Current) (p : List Byte) (s : State) : Turns g s (succeed c p s) := by
  have ended : WorkFrame s (endCurrent s) := endCurrent_work s
  unfold succeed
  refine ite_turns (fun _ => ended.turns) fun _ => ?_
  split
  · exact ended.turns.trans (rateOutcome_turns _ _ _)
  · exact ended.turns
  · split
    · exact (ended.trans (queryReport_work _ _ _ _)).turns
    · exact ended.turns
  · exact ite_turns (fun _ => (ended.trans (completeHead_work _ _ _ _)).turns) fun _ => ended.turns
  · exact (ended.trans (acknowledge_work _ _ _)).turns

theorem refuse_turns (c : Current) (n : Nat) (s : State) : Turns g s (refuse c n s) := by
  have ended : WorkFrame s (endCurrent s) := endCurrent_work s
  unfold refuse
  refine ite_turns (fun _ => ended.turns) fun _ => ?_
  split
  · exact ended.turns.trans (rateOutcome_turns _ _ _)
  · exact ended.turns
  · split
    · exact (ended.trans (refuseHead_work _ _ _ _)).turns
    · exact (ended.trans (((refusedReturn_work _ _ _).trans (endProtective_work _ _ _)).trans (recheckHead_work _ _))).turns
    · exact (ended.trans (refuseSurvey_work _ _)).turns
    · exact ite_turns (fun _ => (ended.trans (followUpFault_work _ _)).turns) fun _ => ended.turns
    · exact ended.turns
    · exact ended.turns

theorem answerFrame_turns {i k : Byte} {p : List Byte} {check : Half} {take : Current → State → State} {s : State}
    (h : ∀ c, Turns g s.begin (take c s.begin)) : Turns g s (answerFrame i k p check take s) := by
  unfold answerFrame
  split
  · exact .refl
  · refine ((begin_work s).turns.trans ?_).trans (conclude_work _ _).turns
    split
    · exact h _
    · exact failAttempt_turns _ _ _

theorem nakAnswer_turns (i : Byte) (p : List Byte) (k : Half) (s : State) : Turns g s (nakAnswer i p k s) := by
  refine answerFrame_turns fun c => ?_
  unfold takeNak
  split
  · exact ite_turns (fun _ => failAttempt_turns _ _ _) fun _ => ite_turns (fun _ => failAttempt_turns _ _ _) fun _ =>
      ite_turns (fun _ => refuse_turns _ _ _) fun _ => failAttempt_turns _ _ _
  · exact failAttempt_turns _ _ _

/-! ### Requests to bays -/

theorem acceptRequest_work (b : Bay) (r : Request) (s : State) : WorkFrame s (acceptRequest b r s) := by
  unfold acceptRequest
  split
  · exact (WorkFrame.trans_updBay (.refl s)).trans (appendRequest_work _ _ _)
  · exact appendRequest_work _ _ _

theorem requestOne_work (k : ReqKind) (src : Source) (tag : Byte) (p : List Byte) (b : Bay) (s : State) :
    WorkFrame s (requestOne k src tag p b s) := by
  unfold requestOne
  split
  · exact placeReply_work _ _
  · split
    · exact placeReply_work _ _
    · split
      · exact placeReply_work _ _
      · exact acceptRequest_work _ _ _

theorem requestGroup_work (k : ReqKind) (src : Source) (tag : Byte) (bays : List Bay) (s : State) :
    WorkFrame s (requestGroup k src tag bays s) := by
  unfold requestGroup
  dsimp only
  split
  · exact placeReply_work _ _
  · split
    · exact placeReply_work _ _
    · exact WorkFrame.foldl (fun s m => acceptRequest_work _ _ s) (groups_work s _)

theorem requestBays_work (k : ReqKind) (src : Source) (tag : Byte) (p : List Byte) (t : ReqTarget) (s : State) :
    WorkFrame s (requestBays k src tag p t s) := by
  unfold requestBays
  split
  · exact requestOne_work _ _ _ _ _ _
  · exact requestGroup_work _ _ _ _ _
  · exact requestGroup_work _ _ _ _ _
  · exact .refl s

theorem setHolder_work (b : Bay) (h : Option Source) (s : State) : WorkFrame s (setHolder b h s) := .trans_updBay (.refl s)

theorem reserveBays_work (src : Source) (tag : Byte) (t : ReqTarget) (s : State) : WorkFrame s (reserveBays src tag t s) := by
  refine (WorkFrame.foldl (fun s b => ?_) (.refl s)).trans (placeReply_work _ _)
  unfold reserveOne
  split
  · exact setHolder_work _ _ _
  · exact .refl s

theorem releaseBays_work (src : Source) (tag : Byte) (t : ReqTarget) (s : State) : WorkFrame s (releaseBays src tag t s) := by
  refine (WorkFrame.foldl (fun s b => ?_) (.refl s)).trans (placeReply_work _ _)
  unfold releaseOne
  split
  · exact setHolder_work _ _ _
  · exact .refl s

/-! ### Table writes and settings -/

theorem profileFrom_normalized (e : List Byte) : (profileFrom e).Normalized := by
  have time (n : Nat) : 1 ≤ clampTime n ∧ clampTime n ≤ 60000 := by unfold clampTime; omega
  refine ⟨?_, ?_, ?_, time _, time _, time _, time _, time _⟩ <;>
    simp only [profileFrom, normalizeProfile] <;> omega

theorem recomputeReservation_work (b : Bay) (s : State) : WorkFrame s (recomputeReservation b s) := setReservation_work _ _ _

theorem foldl_recompute_work (i : Fin 8) (bs : List Bay) (s : State) :
    WorkFrame s (bs.foldl (fun s b => if (s.bay b).cls = i then recomputeReservation b s else s) s) := by
  refine WorkFrame.foldl (fun s b => ?_) (.refl s)
  split
  · exact recomputeReservation_work _ _
  · exact .refl s

theorem storedProfile_turns (hw : g.writes = true) (i : Fin 8) (e : List Byte) (s : State) :
    Turns g s (s.updAdm fun a => { a with profiles := a.profiles.set i (profileFrom e) }) := by
  refine .single (.aside rfl rfl rfl rfl rfl (.inr hw) (fun h c => ?_) id id)
  by_cases hc : i.val = c.val
  · simp [hc, profileFrom_normalized e]
  · simpa [hc] using h c

theorem writeProfile_turns (hw : g.writes = true) (i : Fin 8) (e : List Byte) (s : State) :
    Turns g s (writeProfile i (profileFrom e) s) :=
  (storedProfile_turns hw i e s).trans ((foldl_recompute_work i allBays _).trans (settleForced_work _)).turns

theorem writeClass_turns (hw : g.writes = true) (b : Bay) (c : Fin 8) (s : State) : Turns g s (writeClass b c s) := by
  have h : Turns g s (s.updBay b fun r => { r with cls := c }) := write_turns hw
  unfold writeClass
  exact ite_turns (fun _ => .refl) fun _ => h.trans (recomputeReservation_work _ _).turns

theorem writeZone_turns (hw : g.writes = true) (b : Bay) (z : Zone) (s : State) : Turns g s (writeZone b z s) := by
  have h : Turns g s (s.updBay b fun r => { r with zone := z }) := write_turns hw
  unfold writeZone
  exact ite_turns (fun _ => h) fun _ => h.trans (carryOut_work _ _ _).turns

theorem writeLevelMap_turns (hw : g.writes = true) (i : Fin 6) (e : Level) (s : State) : Turns g s (writeLevelMap i e s) :=
  .trans (.single (.mapped hw)) (recomputeLevels_work _ _).turns

theorem foldl_restoreNow_work (bs : List Bay) (s : State) : WorkFrame s (bs.foldl (fun s b => restoreNow b s) s) :=
  WorkFrame.foldl (fun s b => restoreNow_work b s) (.refl s)

theorem foldl_recheckDeferred_work (bs : List Bay) (s : State) : WorkFrame s (bs.foldl (fun s b => recheckDeferred b s) s) :=
  WorkFrame.foldl (fun s b => recheckDeferred_work b s) (.refl s)

theorem writeLevelAction_turns (hw : g.writes = true) (i : Fin 8) (e : ActionEntry) (s : State) :
    Turns g s (writeLevelAction i e s) := by
  unfold writeLevelAction
  extract_lets _ s1 s2
  have h1 : Turns g s s1 := .single (.acted hw)
  have h2 : WorkFrame s1 s2 := foldl_recheckDeferred_work _ _
  exact h1.trans (h2.trans (foldl_restoreNow_work _ _)).turns

theorem updAdm_stagger_work (s : State) (d : Option Count) : WorkFrame s (s.updAdm fun a => { a with staggerDue := d }) :=
  .trans_updAdm (.refl s)

theorem restagger_work (s : State) : WorkFrame s (restagger s) := by
  unfold restagger
  split
  · split
    · exact (updAdm_stagger_work s none).trans (settleForced_work _)
    · exact updAdm_stagger_work s _
  · exact .refl s

theorem writeTiming_turns (hw : g.writes = true) (t : Timing) (s : State) : Turns g s (writeTiming t s) := by
  unfold writeTiming
  extract_lets old s1 s2
  have h1 : Turns g s s1 := write_turns hw
  have h2 : Turns g s1 s2 := ite_turns (fun _ => .refl) fun _ => (restagger_work _).turns
  exact ite_turns (fun _ => h1.trans h2) fun _ => (h1.trans h2).trans (foldl_restoreNow_work _ _).turns

theorem writeEnabled_turns (hw : g.writes = true) (i : SensorId) (e : Bool) (s : State) : Turns g s (writeEnabled i e s) := by
  unfold writeEnabled
  refine ite_turns (fun _ => .refl) fun _ => ite_turns (fun _ => ?_) fun _ => ?_
  · exact .single (.sensor rfl (.inr ⟨hw, rfl⟩) (fun _ => rests_of_enabled rfl) id)
  · refine .trans (.single (.disabled hw (endFallUnseen_motion i s) ?_ ?_)) (handOff_work _ _).turns
    · exact fun _ => ⟨rfl, rfl, rfl, rfl, rfl⟩
    · exact ⟨rfl, rfl⟩

theorem readyRate_turns (i : SensorId) (r : Rate) (s : State) : Turns g s (readyRate i r s) := by
  unfold readyRate
  exact ite_turns (fun _ => (updBus_work _ _).turns) fun _ => ite_turns (fun _ => sensor_turns rfl rfl id id)
    fun _ => (enqueue_work _ _).turns

theorem writeRate_turns (i : SensorId) (r : Rate) (s : State) : Turns g s (writeRate i r s) := by
  unfold writeRate
  refine ite_turns (fun _ => .refl) fun _ => .trans (sensor_turns rfl rfl ?_ id) (readyRate_turns _ _ _)
  exact fun h k => ⟨(h k).1, rfl, (h k).2.2⟩

theorem answerEntry_work (tag id index : Byte) (s : State) : WorkFrame s (answerEntry tag id index s) := placeReply_work _ _

theorem refuseWith_work (tag : Byte) (c : Code) (n : Nat) (s : State) : WorkFrame s (refuseWith tag c n s) := placeReply_work _ _

theorem storedSource_turns (hw : g.writes = true) {i : Source} {f : Bool} {s : State}
    (h : (s.sources.set i f).toList.any (·) = true) : Turns g s { s with sources := s.sources.set i f } := by
  refine .single (.aside rfl rfl rfl rfl rfl (.inr hw) id id fun _ => ?_)
  obtain ⟨x, hx, ht⟩ := List.any_eq_true.mp h
  obtain ⟨n, hn, rfl⟩ := List.mem_iff_getElem.mp hx
  exact ⟨⟨n, by simpa using hn⟩, by simpa [State.manages] using ht⟩

theorem writeSource_turns (hw : g.writes = true) (tag id index : Byte) (i : Source) (f : Bool) (s : State) :
    Turns g s (writeSource tag id index i f s) := by
  unfold writeSource
  exact ite_turns (fun h => (storedSource_turns hw h).trans (answerEntry_work _ _ _ _).turns)
    fun _ => (refuseWith_work _ _ _ _).turns

theorem writeEntry_turns (hw : g.writes = true) (tag id index : Byte) (e : List Byte) (s : State) :
    Turns g s (writeEntry tag id index e s) := by
  have answer {t : State} (h : Turns g s t) : Turns g s (answerEntry tag id index t) := h.trans (answerEntry_work _ _ _ _).turns
  have refused : Turns g s (refuseValue tag s) := (refuseWith_work _ _ _ _).turns
  unfold writeEntry
  dsimp only
  split
  · exact dite_turns (fun _ => answer (writeProfile_turns hw _ _ _)) fun _ => .refl
  · refine dite_turns (fun _ => ?_) fun _ => .refl
    split
    · exact answer ((writeClass_turns hw _ _ _).trans (writeZone_turns hw _ _ _))
    · exact refused
  · exact dite_turns (fun _ => answer (writeLevelMap_turns hw _ _ _)) fun _ => .refl
  · refine dite_turns (fun _ => ?_) fun _ => .refl
    split
    · exact answer (writeLevelAction_turns hw _ _ _)
    · exact refused
  · refine dite_turns (fun _ => ?_) fun _ => .refl
    split
    · unfold writeSensor
      exact ite_turns (fun _ => (refuseWith_work _ _ _ _).turns)
        fun _ => answer ((writeEnabled_turns hw _ _ _).trans (writeRate_turns _ _ _))
    · exact refused
  · exact answer (write_turns hw)
  · refine dite_turns (fun _ => ?_) fun _ => .refl
    split
    · exact answer (write_turns hw)
    · exact refused
  · exact dite_turns (fun _ => writeSource_turns hw _ _ _ _ _ _) fun _ => .refl
  · exact dite_turns (fun _ => answer (write_turns hw)) fun _ => .refl
  · exact answer (writeTiming_turns hw _ _)
  · exact .refl

theorem effectiveLimit_le (m n : Nat) : effectiveLimit m n ≤ m := by
  unfold effectiveLimit
  refine Nat.div_le_of_le_mul ?_
  rw [Nat.mul_comm 100 m]
  exact Nat.mul_le_mul_left m (by omega)

theorem setSupply_turns (m n : Nat) (s : State) : Turns g s (setSupply m n s) := by
  have stored : Turns g s (s.updAdm fun a =>
      { a with limit := min m 60000, margin := min n 50, effLimit := effectiveLimit (min m 60000) (min n 50) }) :=
    .single (.aside rfl rfl rfl rfl rfl (.inl ⟨rfl, fun _ => ⟨rfl, rfl⟩, rfl, rfl, rfl, rfl, rfl⟩) id
      (fun _ => ⟨Nat.min_le_right _ _, Nat.min_le_right _ _, rfl⟩) id)
  exact stored.trans (settleForced_work _).turns

theorem clearRetry_work (b : Bay) (s : State) : WorkFrame s (clearRetry b s) := .trans_updBay (.refl s)

/-- What a management request may turn. -/
def Grant.serves (g : Grant) (m : MgmtKind) : Prop := (m = .tableWrite → g.writes = true) ∧ (m = .motionResume → g.resumes = true)

theorem serveManagement_turns {m : MgmtKind} (h : g.serves m) (src : Source) (tag : Byte) (p : List Byte) (s : State) :
    Turns g s (serveManagement m src tag p s) := by
  unfold serveManagement
  refine ite_turns (fun _ => (refuseWith_work _ _ _ _).turns) fun _ => ?_
  split
  · exact ite_turns (fun _ => (refuseWith_work _ _ _ _).turns) fun _ => writeEntry_turns (h.1 rfl) _ _ _ _ _
  · exact ite_turns (fun _ => (refuseWith_work _ _ _ _).turns) fun _ => (answerEntry_work _ _ _ _).turns
  · refine ite_turns (fun _ => (refuseWith_work _ _ _ _).turns) fun _ => ?_
    refine ite_turns (fun _ => ?_) fun _ => (placeReply_work _ _).turns
    exact (WorkFrame.trans_updLink (.trans_queue (placeReply_work _ s))).turns
  · exact (setSupply_turns _ _ _).trans (placeReply_work _ _).turns
  · exact ((ffr_work s none).trans (placeReply_work _ _)).turns
  · unfold serveCounterClear
    refine dite_turns (fun _ => ((clearRetry_work _ _).trans (placeReply_work _ _)).turns) fun _ => ?_
    refine ite_turns (fun _ => WorkFrame.turns ?_) fun _ => (refuseWith_work _ _ _ _).turns
    exact (WorkFrame.foldl (fun s b => clearRetry_work b s) (.refl s)).trans (placeReply_work _ _)
  · exact ((WorkFrame.foldl (fun s b => setHolder_work b none s) (.refl s)).trans (placeReply_work _ _)).turns
  · unfold serveMotionResume
    split
    · exact (refuseWith_work _ _ _ _).turns
    · refine ite_turns (fun _ => (placeReply_work _ _).turns) fun _ => ?_
      exact .trans (.trans (.single (.resumed (h.2 rfl))) (recomputeLevels_work _ _).turns) (placeReply_work _ _).turns
  · exact (WorkFrame.trans_updLink (placeReply_work _ s)).turns

/-! ### All commands -/

/-- What a request frame may turn. -/
def Grant.takes (g : Grant) (k : FrameKind) : Prop := ∀ m, k = .management m → g.serves m

theorem serveRequest_turns {q : WellFormedRequest} (hq : g.takes q.kind) (h : Header) (p : List Byte) (s : State) :
    Turns g s (serveRequest q h p s) := by
  unfold serveRequest
  split
  · exact ((requestBays_work _ _ _ _ _ _).trans (conclude_work _ _)).turns
  · exact ((reserveBays_work _ _ _ _).trans (close_work _)).turns
  · exact ((releaseBays_work _ _ _ _).trans (close_work _)).turns
  · next m e =>
    exact ite_turns (fun _ => (serveManagement_turns (hq m e) _ _ _ _).trans (close_work _).turns)
      fun _ => (serveManagement_turns (hq m e) _ _ _ _).trans (conclude_work _ _).turns

theorem passedFrame_turns {kind : Option FrameKind} (hk : ∀ k, kind = some k → g.takes k) (h : Header) (p : List Byte) (s : State) :
    Turns g s (passedFrame kind h p s) := by
  unfold passedFrame
  refine ite_turns (fun _ => (WorkFrame.trans_updLink (.refl s)).turns) fun _ => (begin_work s).turns.trans ?_
  unfold acceptFrameAt
  refine ite_turns (fun _ => ((placeReply_work _ _).trans (close_work _)).turns) fun _ => ?_
  split
  · exact ((placeReply_work _ _).trans (close_work _)).turns
  · next q e => exact serveRequest_turns (hk _ (checkForm_kind e)) _ _ _

theorem hunt_work (s : State) : WorkFrame s (hunt s) := .trans_updLink (.refl s)

theorem dropFrame_work (s : State) : WorkFrame s (dropFrame s) := .trans_updLink (.refl s)

theorem growFrame_work (bytes : List Byte) (s : State) : WorkFrame s (growFrame bytes s) := .trans_updLink (.refl s)

theorem arrive_turns {kind : Option FrameKind} (hk : ∀ k, kind = some k → g.takes k) (h : Header) (p : List Byte) (s : State) :
    Turns g s (arrive kind h p s) := by
  unfold arrive
  exact ite_turns (fun _ => ((hunt_work s).trans (dropFrame_work _)).turns)
    fun _ => (hunt_work s).turns.trans (passedFrame_turns hk _ _ _)

theorem receiveByte_turns (hw : g.writes = true) (hr : g.resumes = true) (x : Byte) (s : State) : Turns g s (receiveByte x s) := by
  unfold receiveByte
  split
  · exact ite_turns (fun _ => (growFrame_work _ _).turns) fun _ => .refl
  · exact ite_turns (fun _ => ((hunt_work s).trans (dropFrame_work _)).turns) fun _ => (growFrame_work _ _).turns
  · refine ite_turns (fun _ => (hunt_work s).turns.trans ?_) fun _ => (growFrame_work _ _).turns
    exact ite_turns (fun _ => passedFrame_turns (fun _ _ _ _ => ⟨fun _ => hw, fun _ => hr⟩) _ _ _) fun _ => (dropFrame_work _).turns

theorem partEvent_turns {f : State → State} {s : State} (h : Turns g s.begin (f s.begin)) : Turns g s (partEvent f s) :=
  ((begin_work s).turns.trans h).trans (conclude_work _ _).turns

theorem placeFor_turns (b : Bay) (x : Exchange) (s : State) : Turns g s (placeFor b x s) := (placeFor_work b x s).turns

theorem placeSurvey_work (s : State) : WorkFrame s (placeSurvey s) :=
  WorkFrame.foldl (fun s b => placeFor_work b _ s) (survey_work s _)

theorem expireHead_work (b : Bay) (p : Phase) (s : State) : WorkFrame s (expireHead b p s) := by
  unfold expireHead
  dsimp only
  split
  · exact (leaveAdmission_work b s).trans (completeHead_work _ _ _ _)
  · exact (withdrawHead_work b s).trans (completeHead_work _ _ _ _)
  all_goals exact completeHead_work _ _ _ _

theorem stationFrame_turns {f : StationFrame} {take : Option (State → State)} {s : State}
    (h : ∀ k, take = some k → ∀ t, Turns g t (k t)) : Turns g s (stationFrame f take s) := by
  have answered (k : Byte) (p : List Byte) (s : State) : Turns g s (answerStation f.initiator k p s) := (updBus_work _ _).turns
  unfold stationFrame
  refine ite_turns (fun _ => .refl) fun _ => (begin_work s).turns.trans ?_
  refine ite_turns (fun _ => (answered _ _ _).trans (conclude_work _ _).turns) fun _ => ?_
  split
  · exact (answered _ _ _).trans (conclude_work _ _).turns
  · next k => exact ((answered _ _ _).trans (h k rfl _)).trans (conclude_work _ _).turns

theorem doneTaken_work {f : StationFrame} {k : State → State} (e : doneTaken f = some k) (s : State) : WorkFrame s (k s) := by
  unfold doneTaken at e
  split at e
  · cases e; exact takeReport_work _ _ _ _
  · cases e

theorem faultTaken_work {f : StationFrame} {k : State → State} (e : faultTaken f = some k) (s : State) : WorkFrame s (k s) := by
  unfold faultTaken at e
  split at e
  · split at e
    · cases e
    · cases e; exact faultFrame_work _ _ _
  · cases e

theorem presenceTaken_work {f : StationFrame} {k : State → State} (e : presenceTaken f = some k) (s : State) :
    WorkFrame s (k s) := by
  unfold presenceTaken at e
  split at e
  · split at e
    · cases e; exact presenceInserted_work _ _
    · split at e
      · cases e; exact presenceRemoved_work _ _
      · cases e
  · cases e

theorem samplesTaken_turns {f : StationFrame} {k : State → State} (e : samplesTaken f = some k) (s : State) : Turns g s (k s) := by
  unfold samplesTaken at e
  split at e
  · cases e; exact samplesFrame_turns _ _ _ _
  · cases e

/-- The end of a transmission turns nothing but by the soft reset. -/
theorem endTransmission_turns (s : State) :
    Turns g s (endTransmission s) ∨ endTransmission s = close (softReset (s.begin.updLink fun k => { k with tx := none })) := by
  have h : WorkFrame s (s.begin.updLink fun k => { k with tx := none }) := .trans_updLink (begin_work s)
  unfold endTransmission
  split
  · exact .inl .refl
  · dsimp only
    split
    · split
      · exact .inr rfl
      · exact .inl (h.trans (close_work _)).turns
    · exact .inl (h.trans (close_work _)).turns

/-- What a command may turn. -/
def Grant.covers (g : Grant) (c : Instr) : Prop :=
  (c.mayWriteTables = true → g.writes = true) ∧ ((∀ h p, c ≠ .motionResume h p) ∧ (∀ x, c ≠ .linkByteReceipt x) ∨ g.resumes = true)

theorem frame_takes {c : Instr} (hg : g.covers c) {k : FrameKind} {h : Header} {p : List Byte} (e : c.frame = some (some k, h, p)) :
    g.takes k := by
  rintro m rfl
  obtain ⟨hw, hr⟩ := hg
  refine ⟨fun hm => hw ?_, fun hm => ?_⟩
  · subst hm
    cases c <;> cases e <;> rfl
  · subst hm
    refine hr.resolve_left fun k => ?_
    cases c <;> cases e
    exact k.1 _ _ rfl

theorem blindDue_of_expires {s : State} {d : Option Count} (h : s.expires d = true) : d ≠ none := by
  rintro rfl
  cases h

/-- Every command leaves the reset state, or the state of a soft reset, or counts a millisecond, or is a sequence of turns. -/
theorem exec_turns {c : Instr} (hg : g.covers c) (s : State) : ∃ t, exec c s = .next t
    ∧ ((c = .powerOnReset ∧ t = { State.reset with pending := s.pending })
      ∨ (c = .transmissionEnd ∧ t = close (softReset (s.begin.updLink fun k => { k with tx := none })))
      ∨ (c = .millisecondCounterTick ∧ t = { s with now := s.now + 1 })
      ∨ Turns g s t) := by
  have turned {t : State} (h : Turns g s t) : (c = .powerOnReset ∧ t = { State.reset with pending := s.pending })
      ∨ (c = .transmissionEnd ∧ t = close (softReset (s.begin.updLink fun k => { k with tx := none })))
      ∨ (c = .millisecondCounterTick ∧ t = { s with now := s.now + 1 }) ∨ Turns g s t := .inr (.inr (.inr h))
  by_cases hf : c.frame.isSome = true
  · obtain ⟨⟨k, h, p⟩, e⟩ := Option.isSome_iff_exists.mp hf
    exact ⟨_, exec_frame e s, turned (arrive_turns (fun k' hk => frame_takes hg (hk ▸ e)) h p s)⟩
  · cases c <;> first | exact absurd rfl hf | clear hf
    case powerOnReset => exact ⟨_, rfl, .inl ⟨rfl, rfl⟩⟩
    case badFrame => exact ⟨_, rfl, turned ((hunt_work s).trans (dropFrame_work _)).turns⟩
    case frameGapExpiry =>
      exact ⟨_, rfl, turned (ite_turns (fun _ => ((hunt_work s).trans (dropFrame_work _)).turns) fun _ => .refl)⟩
    case settleExpiry =>
      exact ⟨_, rfl, turned (ite_turns (fun _ => partEvent_turns (placeSurvey_work _).turns) fun _ => .refl)⟩
    case operationDeadlineExpiry b =>
      refine ⟨_, rfl, turned ?_⟩
      split
      · exact partEvent_turns (timeoutFault_work _ _ _).turns
      · exact .refl
    case groupDeadlineExpiry b =>
      refine ⟨_, rfl, turned ?_⟩
      split
      · exact partEvent_turns ((setDeadline_work _ _ _).trans (placeFor_work _ _ _)).turns
      · exact .refl
    case waitDeadlineExpiry b =>
      refine ⟨_, rfl, turned ?_⟩
      split
      · exact partEvent_turns (expireHead_work _ _ _).turns
      · exact .refl
    case staggerExpiry =>
      refine ⟨_, rfl, turned (ite_turns (fun _ => partEvent_turns ?_) fun _ => .refl)⟩
      exact ((updAdm_stagger_work _ none).trans (settleForced_work _)).turns
    case debounceExpiry i => exact ⟨_, rfl, turned (ite_turns (fun _ => debounceExpired_turns _ _) fun _ => .refl)⟩
    case joltHoldExpiry i =>
      exact ⟨_, rfl, turned (ite_turns (fun _ => partEvent_turns (joltHoldExpired_turns _ _)) fun _ => .refl)⟩
    case blindExpiry i =>
      refine ⟨_, rfl, turned (ite_turns (fun h => partEvent_turns (blindExpired_turns ?_)) fun _ => .refl)⟩
      exact blindDue_of_expires h
    case answerWindowExpiry =>
      refine ⟨_, rfl, turned ?_⟩
      split
      · exact partEvent_turns (failAttempt_turns _ _ _)
      · exact .refl
    case resendExpiry =>
      exact ⟨_, rfl, turned (ite_turns (fun _ => ((begin_work _).trans (sendAttempt_work _)).turns) fun _ => .refl)⟩
    case allBaysQuickparkEnd =>
      exact ⟨_, rfl, turned (ite_turns (fun _ => partEvent_turns (updBus_work _ _).turns) fun _ => .refl)⟩
    case transmissionEnd =>
      rcases endTransmission_turns (g := g) s with h | h
      · exact ⟨_, rfl, turned h⟩
      · exact ⟨_, rfl, .inr (.inl ⟨rfl, h⟩)⟩
    case done f => exact ⟨_, rfl, turned (stationFrame_turns fun k e t => (doneTaken_work (ofKind_some e) t).turns)⟩
    case fault f => exact ⟨_, rfl, turned (stationFrame_turns fun k e t => (faultTaken_work (ofKind_some e) t).turns)⟩
    case presenceInserted => exact ⟨_, rfl, turned (stationFrame_turns fun k e t => (presenceTaken_work e t).turns)⟩
    case presenceRemoved => exact ⟨_, rfl, turned (stationFrame_turns fun k e t => (presenceTaken_work e t).turns)⟩
    case samples f => exact ⟨_, rfl, turned (stationFrame_turns fun k e => samplesTaken_turns (ofKind_some e))⟩
    case ack f =>
      refine ⟨_, rfl, turned (answerFrame_turns fun c => ?_)⟩
      exact ite_turns (fun _ => succeed_turns _ _ _) fun _ => failAttempt_turns _ _ _
    case nakFailure => exact ⟨_, rfl, turned (nakAnswer_turns _ _ _ _)⟩
    case nakRefused => exact ⟨_, rfl, turned (nakAnswer_turns _ _ _ _)⟩
    case millisecondCounterTick => exact ⟨_, rfl, .inr (.inr (.inl ⟨rfl, rfl⟩))⟩
    case linkByteReceipt x => exact ⟨_, rfl, turned (receiveByte_turns (hg.1 rfl) (hg.2.resolve_left fun k => k.2 x rfl) x s)⟩

end Sys2Proof.Machine
end

section
/-! PROOFS. What every step keeps of the levels, the flag, the line, the settings, the sensors and the tables. -/

namespace Sys2Proof.Machine

set_option Elab.async false

variable {g : Grant}

/-- Every turn is open. -/
def Grant.full : Grant := ⟨true, true⟩

/-- A promise that the two reset states meet and that every turn and the tick keep is kept by every step. -/
theorem step_turns_keep {P : State → Prop} (turn : ∀ s t, Turn .full s t → P s → P t) (tick : ∀ s, P s → P { s with now := s.now + 1 })
    (waiting : ∀ s r, P s → P { s with pending := r }) (reset : P State.reset) (soft : ∀ s, P s → P (softReset s)) {s t : State}
    (h : step s = .next t) (hs : P s) : P t := by
  have keeps {u v : State} (w : Turns .full u v) (hu : P u) : P v := w.keeps turn hu
  unfold step at h
  split at h
  · cases h; exact hs
  · next c rest hp =>
    obtain ⟨u, hu, hc⟩ := exec_turns (g := .full) (c := c) ⟨fun _ => rfl, .inr rfl⟩ { s with pending := rest }
    have hs' := waiting s rest hs
    rw [hu] at h
    cases h
    rcases hc with ⟨-, rfl⟩ | ⟨-, rfl⟩ | ⟨-, rfl⟩ | w
    · exact waiting _ rest reset
    · exact keeps (close_work _).turns (soft _ (keeps (WorkFrame.trans_updLink (begin_work _)).turns hs'))
    · exact tick _ hs'
    · exact keeps w hs'

/-! ### Levels and copies (R100 to R104) -/

theorem levelsHold_of_eq {s t : State} (prot : t.prot = s.prot) (latch : t.latch = s.latch) (h : s.LevelsHold) : t.LevelsHold := by
  unfold State.LevelsHold
  rw [prot, latch]
  exact h

/-- Once computed the levels are those of the motion copies, whatever they were. -/
theorem leveled_levelsHold {s : State} (h : s.prot.latchCopy = s.latch.isSome) : s.leveled.LevelsHold := ⟨rfl, h⟩

theorem turn_levelsHold (s t : State) (c : Turn g s t) (h : s.LevelsHold) : t.LevelsHold := by
  cases c with
  | aside _ _ _ latch prot => exact levelsHold_of_eq prot latch h
  | sensor => exact levelsHold_of_eq rfl rfl h
  | handed => exact leveled_levelsHold rfl
  | disabled => exact leveled_levelsHold rfl
  | mapped => exact leveled_levelsHold h.2
  | acted => exact h
  | resumed => exact leveled_levelsHold rfl

/-- What `CopiesHold` says of one sensor. -/
def State.CopyHolds (s : State) (i : SensorId) : Prop :=
  s.prot.copies[i].conds = s.sensors[i].conds ∧ (s.prot.copies[i].enabled = true → s.sensors[i].enabled = true)

theorem copyHolds_of_eq {s t : State} {i : SensorId} (copy : t.prot.copies[i] = s.prot.copies[i]) (sensor : t.sensors[i] = s.sensors[i])
    (h : s.CopyHolds i) : t.CopyHolds i := by
  unfold State.CopyHolds
  rw [copy, sensor]
  exact h

theorem handed_copy_same (s : State) (i : SensorId) :
    (s.handed i).prot.copies[i] = { enabled := s.sensors[i].enabled, conds := s.sensors[i].conds } := by
  simp [State.handed, State.leveled]

theorem handed_copy_other (s : State) {i j : SensorId} (h : j ≠ i) : (s.handed i).prot.copies[j] = s.prot.copies[j] := by
  have : i.val ≠ j.val := fun k => h (Fin.ext k.symm)
  simp [State.handed, State.leveled, Vector.getElem_set_ne, this]

/-- A hand-off takes the sensor's copy as the sensor stands; the other copies stay with their sensors. -/
theorem handed_copiesHold {s u : State} {i : SensorId} (prot : u.prot = s.prot)
    (others : ∀ j : SensorId, j ≠ i → u.sensors[j] = s.sensors[j]) (h : s.CopiesHold) : (u.handed i).CopiesHold := by
  intro j
  by_cases hj : j = i
  · subst hj
    rw [handed_copy_same]
    exact ⟨rfl, id⟩
  · exact copyHolds_of_eq ((handed_copy_other u hj).trans (by rw [prot])) (others j hj) (h j)

theorem turn_copiesHold (s t : State) (c : Turn g s t) (h : s.CopiesHold) : t.CopiesHold := by
  cases c with
  | aside _ _ sensors _ prot =>
    intro i
    rw [prot, sensors]
    exact h i
  | @sensor i f conds enabled =>
    intro j
    by_cases hj : j = i
    · subst hj
      rw [updSensor_same]
      refine ⟨(h j).1.trans conds.symm, fun k => ?_⟩
      rcases enabled with e | ⟨-, e⟩
      · exact e.trans ((h j).2 k)
      · exact e
    · exact copyHolds_of_eq (s := s) rfl (updSensor_other s f hj) (h j)
  | handed motion => exact handed_copiesHold motion.prot motion.others h
  | disabled _ motion =>
    exact handed_copiesHold (s := s) motion.prot (fun j hj => (updSensor_other _ _ hj).trans (motion.others j hj)) h
  | mapped => exact h
  | acted => exact h
  | resumed => exact h

theorem softReset_prot (s : State) : (softReset s).prot = s.prot.softReset s.sensors := (evaluateBudget_work _).prot

theorem softReset_latch (s : State) : (softReset s).latch = none := (evaluateBudget_work _).latch

theorem softReset_sensors (s : State) :
    (softReset s).sensors = s.sensors.map (·.softReset (s.after (Config.settleMs + s.thresholds.blindTime))) :=
  (evaluateBudget_work _).sensors

theorem softReset_sensor (s : State) (i : SensorId) :
    (softReset s).sensors[i] = s.sensors[i].softReset (s.after (Config.settleMs + s.thresholds.blindTime)) := by
  rw [softReset_sensors]
  exact Vector.getElem_map _ _

theorem softReset_copy (s : State) (i : SensorId) :
    (softReset s).prot.copies[i] = { enabled := s.sensors[i].enabled, conds := .clear } := by
  rw [softReset_prot]
  exact Vector.getElem_map _ _

/-- Without a condition and with the latch clear every level is 0 (R103). -/
theorem computeLevels_clear {p : Protection} (clear : ∀ i : SensorId, p.copies[i].conds = Conditions.clear) (latch : p.latchCopy = false) :
    p.computeLevels = { sensor := Vector.replicate 4 0, all := 0 } := by
  have sensor (i : SensorId) : p.sensorLevel i = 0 := by
    unfold Protection.sensorLevel
    dsimp only
    rw [clear i]
    split <;> rfl
  have falling : p.someFalling = false := by
    unfold Protection.someFalling
    refine List.any_eq_false.mpr fun i _ => ?_
    rw [clear i]
    simp [Conditions.clear]
  have wide : p.caseWide = 0 := by
    unfold Protection.caseWide
    rw [falling, latch]
    rfl
  unfold Protection.computeLevels
  simp only [sensor, wide]
  rfl

theorem softReset_levelsHold (s : State) : (softReset s).LevelsHold := by
  refine ⟨?_, ?_⟩
  · rw [computeLevels_clear (fun i => by rw [softReset_copy]) (by rw [softReset_prot]; rfl), softReset_prot]
    rfl
  · rw [softReset_prot, softReset_latch]
    rfl

theorem softReset_copiesHold (s : State) : (softReset s).CopiesHold := fun i => by
  rw [softReset_copy, softReset_sensor]
  exact ⟨rfl, id⟩

theorem reset_levelsHold : State.reset.LevelsHold := ⟨by decide +kernel, rfl⟩

theorem reset_copiesHold : State.reset.CopiesHold := by unfold State.CopiesHold; decide +kernel

/-! ### The over-budget flag and the alert line (R72, R182) -/

/-- How an event ends for the flag and the line: with the line driven, or with everything they depend on as it was. -/
inductive Ended (s t : State) : Prop
  | driven (flag : s.FlagFollows → t.FlagFollows) (line : t.LineFollows) : Ended s t
  | still (adm : t.adm = s.adm := by rfl) (prot : t.prot = s.prot := by rfl) (timing : t.timing = s.timing := by rfl)
      (ffr : t.ffr = s.ffr := by rfl) (latch : t.latch = s.latch := by rfl) (line : t.alertLine = s.alertLine := by rfl) : Ended s t

theorem flagFollows_of_eq {s t : State} (adm : t.adm = s.adm) (h : s.FlagFollows) : t.FlagFollows := by
  unfold State.FlagFollows
  rw [adm]
  exact h

theorem Ended.flag {s t : State} (h : Ended s t) (hs : s.FlagFollows) : t.FlagFollows := by
  cases h with
  | driven flag _ => exact flag hs
  | still adm => exact flagFollows_of_eq adm hs

theorem Ended.line {s t : State} (h : Ended s t) (hs : s.LineFollows) : t.LineFollows := by
  cases h with
  | driven _ line => exact line
  | still adm prot timing ffr latch line =>
    unfold State.LineFollows State.alertHolds State.sourceLevel State.caseLevel State.sourceFault State.sourceBudget State.sourceImpact
    rw [line, adm, prot, timing, ffr, latch]
    exact hs

theorem ite_ended {c : Prop} [Decidable c] {s t u : State} (h : c → Ended s t) (k : ¬ c → Ended s u) : Ended s (if c then t else u) := by
  split
  · exact h ‹_›
  · exact k ‹_›

theorem conclude_ended (s s0 u : State) : Ended s (conclude s0 u) := .driven (fun _ => conclude_flag _ _) (close_line _)

theorem transmit_adm (s : State) : (transmit s).adm = s.adm := by
  unfold transmit
  split
  · rfl
  · split
    · rfl
    · split <;> rfl

/-- An end that settles no budget, of work that moved none. -/
theorem close_ended {s u : State} (adm : u.adm = s.adm := by rfl) : Ended s (close u) :=
  .driven (flagFollows_of_eq ((transmit_adm u).trans adm)) (close_line _)

theorem foldl_adm {α : Type} {f : State → α → State} (h : ∀ s a, (f s a).adm = s.adm) (l : List α) (s : State) :
    (l.foldl f s).adm = s.adm := by
  induction l generalizing s with
  | nil => rfl
  | cons a l ih => exact (ih _).trans (h s a)

theorem reserveBays_adm (src : Source) (tag : Byte) (t : ReqTarget) (s : State) : (reserveBays src tag t s).adm = s.adm := by
  refine foldl_adm (fun s b => ?_) _ s
  unfold reserveOne
  split <;> rfl

theorem releaseBays_adm (src : Source) (tag : Byte) (t : ReqTarget) (s : State) : (releaseBays src tag t s).adm = s.adm := by
  refine foldl_adm (fun s b => ?_) _ s
  unfold releaseOne
  split <;> rfl

theorem answerEntry_adm (tag id index : Byte) {s u : State} (h : u.adm = s.adm := by rfl) : (answerEntry tag id index u).adm = s.adm := h

/-- Writes of the tables 6 to 9 move no budget. -/
theorem serveTableWrite_adm {p : List Byte} (h : (6 ≤ (p.headD 0).toNat && (p.headD 0).toNat ≤ 9) = true) (tag : Byte) (s : State) :
    (serveTableWrite tag p s).adm = s.adm := by
  have range : 6 ≤ (p.headD 0).toNat ∧ (p.headD 0).toNat ≤ 9 := by simpa using h
  unfold serveTableWrite
  dsimp only
  split
  · rfl
  · unfold writeEntry
    dsimp only
    generalize (p.headD 0).toNat = n at range
    split <;> first | omega | rfl | skip
    · split
      · split <;> rfl
      · rfl
    · split
      · unfold writeSource
        split <;> rfl
      · rfl
    · split <;> rfl

theorem serveRecordRead_adm (tag : Byte) (p : List Byte) (s : State) : (serveRecordRead tag p s).adm = s.adm := by
  unfold serveRecordRead clearAfterRead
  dsimp only
  split
  · rfl
  · split <;> rfl

theorem foldl_clearRetry_adm (bs : List Bay) (s : State) : (bs.foldl (fun s b => clearRetry b s) s).adm = s.adm :=
  foldl_adm (f := fun s b => clearRetry b s) (fun _ _ => rfl) bs s

theorem foldl_clearHolder_adm (bs : List Bay) (s : State) : (bs.foldl (fun s b => setHolder b none s) s).adm = s.adm :=
  foldl_adm (f := fun s b => setHolder b none s) (fun _ _ => rfl) bs s

theorem placeReply_adm (r : Reply) (s : State) : (placeReply r s).adm = s.adm := rfl

theorem serveCounterClear_adm (tag : Byte) (p : List Byte) (s : State) : (serveCounterClear tag p s).adm = s.adm := by
  unfold serveCounterClear
  dsimp only
  split
  · rfl
  · split
    · exact (placeReply_adm _ _).trans (foldl_clearRetry_adm allBays s)
    · rfl

theorem serveReservationsClear_adm (tag : Byte) (s : State) : (serveReservationsClear tag s).adm = s.adm := by
  unfold serveReservationsClear
  exact (placeReply_adm _ _).trans (foldl_clearHolder_adm allBays s)

/-- A quiet management request moves no budget. -/
theorem serveManagement_adm {m : MgmtKind} {p : List Byte} (h : m.quiet p = true) (src : Source) (tag : Byte) (s : State) :
    (serveManagement m src tag p s).adm = s.adm := by
  unfold serveManagement
  split
  · rfl
  · cases m with
    | tableWrite => exact serveTableWrite_adm h tag s
    | tableRead =>
      unfold serveTableRead
      dsimp only
      split <;> rfl
    | recordRead => exact serveRecordRead_adm tag p s
    | supplySet => cases h
    | faultRelease => rfl
    | counterClear => exact serveCounterClear_adm tag p s
    | reservationsClear => exact serveReservationsClear_adm tag s
    | motionResume => cases h
    | softReset => rfl

theorem passedFrame_ended (kind : Option FrameKind) (h : Header) (p : List Byte) (s : State) : Ended s (passedFrame kind h p s) := by
  unfold passedFrame
  refine ite_ended (fun _ => .still) fun _ => ?_
  unfold acceptFrameAt
  refine ite_ended (fun _ => close_ended) fun _ => ?_
  split
  · exact close_ended
  · unfold serveRequest
    split
    · exact conclude_ended _ _ _
    · exact close_ended (reserveBays_adm _ _ _ _)
    · exact close_ended (releaseBays_adm _ _ _ _)
    · exact ite_ended (fun quiet => close_ended (serveManagement_adm quiet _ _ _)) fun _ => conclude_ended _ _ _

/-- The receiver's own work moves nothing that the line depends on. -/
theorem Ended.of_link {s u v : State} (h : Ended u v) (adm : u.adm = s.adm := by rfl) (prot : u.prot = s.prot := by rfl)
    (timing : u.timing = s.timing := by rfl) (ffr : u.ffr = s.ffr := by rfl) (latch : u.latch = s.latch := by rfl)
    (line : u.alertLine = s.alertLine := by rfl) : Ended s v := by
  cases h with
  | driven flag l => exact .driven (fun k => flag (flagFollows_of_eq adm k)) l
  | still a p t f l n => exact .still (a.trans adm) (p.trans prot) (t.trans timing) (f.trans ffr) (l.trans latch) (n.trans line)

theorem arrive_ended (kind : Option FrameKind) (h : Header) (p : List Byte) (s : State) : Ended s (arrive kind h p s) := by
  unfold arrive
  exact ite_ended (fun _ => .still) fun _ => .of_link (u := hunt s) (passedFrame_ended _ _ _ _)

theorem receiveByte_ended (x : Byte) (s : State) : Ended s (receiveByte x s) := by
  unfold receiveByte
  split
  · exact ite_ended (fun _ => .still) fun _ => .still
  · exact ite_ended (fun _ => .still) fun _ => .still
  · refine ite_ended (fun _ => ?_) fun _ => .still
    unfold finishFrame
    exact ite_ended (fun _ => .of_link (u := hunt s) (passedFrame_ended _ _ _ _)) fun _ => .still

theorem stationFrame_ended (f : StationFrame) (take : Option (State → State)) (s : State) : Ended s (stationFrame f take s) := by
  unfold stationFrame
  refine ite_ended (fun _ => .still) fun _ => ite_ended (fun _ => conclude_ended _ _ _) fun _ => ?_
  split <;> exact conclude_ended _ _ _

theorem answerFrame_ended (i k : Byte) (p : List Byte) (check : Half) (take : Current → State → State) (s : State) :
    Ended s (answerFrame i k p check take s) := by
  unfold answerFrame
  split
  · exact .still
  · exact conclude_ended _ _ _

theorem softReset_flag (s : State) : (softReset s).FlagFollows := evaluateBudget_flag _

theorem endTransmission_ended (s : State) : Ended s (endTransmission s) := by
  unfold endTransmission
  split
  · exact .still
  · dsimp only
    split
    · split
      · exact .driven (fun _ => flagFollows_of_eq (transmit_adm _) (softReset_flag _)) (close_line _)
      · exact close_ended
    · exact close_ended

theorem sendAttempt_ended (s : State) : Ended s (sendAttempt s) := by
  unfold sendAttempt
  exact .still

/-- Every command but power-on reset ends with the line driven, or with all it depends on as it was. -/
theorem exec_ended {c : Instr} (hc : c ≠ .powerOnReset) (s : State) : ∃ t, exec c s = .next t ∧ Ended s t := by
  have event (f : State → State) : Ended s (partEvent f s) := conclude_ended _ _ _
  by_cases hf : c.frame.isSome = true
  · obtain ⟨⟨k, h, p⟩, e⟩ := Option.isSome_iff_exists.mp hf
    exact ⟨_, exec_frame e s, arrive_ended k h p s⟩
  · cases c <;> first | exact absurd rfl hf | clear hf
    case powerOnReset => exact absurd rfl hc
    case badFrame => exact ⟨_, rfl, .still⟩
    case frameGapExpiry => exact ⟨_, rfl, ite_ended (fun _ => .still) fun _ => .still⟩
    case settleExpiry => exact ⟨_, rfl, ite_ended (fun _ => event _) fun _ => .still⟩
    case operationDeadlineExpiry b => refine ⟨_, rfl, ?_⟩; split; exacts [event _, .still]
    case groupDeadlineExpiry b => refine ⟨_, rfl, ?_⟩; split; exacts [event _, .still]
    case waitDeadlineExpiry b => refine ⟨_, rfl, ?_⟩; split; exacts [event _, .still]
    case staggerExpiry => exact ⟨_, rfl, ite_ended (fun _ => event _) fun _ => .still⟩
    case debounceExpiry i => exact ⟨_, rfl, ite_ended (fun _ => .still) fun _ => .still⟩
    case joltHoldExpiry i => exact ⟨_, rfl, ite_ended (fun _ => event _) fun _ => .still⟩
    case blindExpiry i => exact ⟨_, rfl, ite_ended (fun _ => event _) fun _ => .still⟩
    case answerWindowExpiry => refine ⟨_, rfl, ?_⟩; split; exacts [event _, .still]
    case resendExpiry => exact ⟨_, rfl, ite_ended (fun _ => .of_link (u := s.begin) (sendAttempt_ended _)) fun _ => .still⟩
    case allBaysQuickparkEnd => exact ⟨_, rfl, ite_ended (fun _ => event _) fun _ => .still⟩
    case transmissionEnd => exact ⟨_, rfl, endTransmission_ended s⟩
    case done f => exact ⟨_, rfl, stationFrame_ended _ _ _⟩
    case fault f => exact ⟨_, rfl, stationFrame_ended _ _ _⟩
    case presenceInserted => exact ⟨_, rfl, stationFrame_ended _ _ _⟩
    case presenceRemoved => exact ⟨_, rfl, stationFrame_ended _ _ _⟩
    case samples f => exact ⟨_, rfl, stationFrame_ended _ _ _⟩
    case ack f => exact ⟨_, rfl, answerFrame_ended _ _ _ _ _ _⟩
    case nakFailure => exact ⟨_, rfl, answerFrame_ended _ _ _ _ _ _⟩
    case nakRefused => exact ⟨_, rfl, answerFrame_ended _ _ _ _ _ _⟩
    case millisecondCounterTick => exact ⟨_, rfl, .still⟩
    case linkByteReceipt x => exact ⟨_, rfl, receiveByte_ended x s⟩

theorem reset_flagFollows : State.reset.FlagFollows := by unfold State.FlagFollows; decide +kernel

theorem reset_lineFollows : State.reset.LineFollows := by unfold State.LineFollows; decide +kernel

/-- Every step keeps the flag and the line. -/
theorem step_flag_line {s t : State} (h : step s = .next t) : (s.FlagFollows → t.FlagFollows) ∧ (s.LineFollows → t.LineFollows) := by
  unfold step at h
  split at h
  · cases h; exact ⟨id, id⟩
  · next c rest hp =>
    by_cases hc : c = .powerOnReset
    · subst hc
      cases h
      exact ⟨fun _ => reset_flagFollows, fun _ => reset_lineFollows⟩
    · obtain ⟨u, hu, e⟩ := exec_ended hc { s with pending := rest }
      rw [hu] at h
      cases h
      exact ⟨e.flag, e.line⟩

/-! ### Settings and sensors (R56, R58, R93, R96, R161) -/

theorem turn_settings (s t : State) (c : Turn g s t) : (s.ProfilesNormalized → t.ProfilesNormalized) ∧ (s.SupplyHolds → t.SupplyHolds)
    ∧ (s.SomeManager → t.SomeManager) := by
  have moved {i : SensorId} {u v : State} (m : MotionFrame i s u) (adm : v.adm = u.adm) (sources : v.sources = u.sources) :
      (s.ProfilesNormalized → v.ProfilesNormalized) ∧ (s.SupplyHolds → v.SupplyHolds) ∧ (s.SomeManager → v.SomeManager) := by
    obtain ⟨profiles, limit, margin, effLimit⟩ := m.settings
    unfold State.ProfilesNormalized State.SupplyHolds State.SomeManager State.manages
    rw [adm, sources, profiles, limit, margin, effLimit, m.sources]
    exact ⟨id, id, id⟩
  cases c with
  | aside _ _ _ _ _ _ profiles supply manager => exact ⟨profiles, supply, manager⟩
  | sensor => exact ⟨id, id, id⟩
  | handed motion => exact moved motion rfl rfl
  | disabled _ motion => exact moved motion rfl rfl
  | mapped => exact ⟨id, id, id⟩
  | acted => exact ⟨id, id, id⟩
  | resumed => exact ⟨id, id, id⟩

/-- What a turn makes of a promise about each sensor by itself. -/
theorem turn_sensors {P : SensorRecord → Prop} (s t : State) (c : Turn g s t)
    (sensor : ∀ (i : SensorId) (f : SensorRecord → SensorRecord), (s.sensors[i].Rests → (f s.sensors[i]).Rests) →
      (s.sensors[i].SumRight → (f s.sensors[i]).SumRight) → P s.sensors[i] → P (f s.sensors[i]))
    (handed : ∀ (i : SensorId) (u : State), MotionFrame i s u → (s.sensors[i].Rests → u.sensors[i].Rests) → P s.sensors[i] →
      P u.sensors[i])
    (disabled : ∀ r : SensorRecord, r.Rests → r.SumRight → P r) (h : ∀ i : SensorId, P s.sensors[i]) (i : SensorId) : P t.sensors[i] := by
  cases c with
  | aside _ _ sensors => rw [sensors]; exact h i
  | @sensor j f _ _ rests sum =>
    by_cases hj : i = j
    · subst hj
      rw [updSensor_same]
      exact sensor i f rests sum (h i)
    · rw [updSensor_other _ _ hj]
      exact h i
  | @handed j u motion rests =>
    change P u.sensors[i]
    by_cases hj : i = j
    · subst hj
      exact handed i u motion rests (h i)
    · rw [motion.others i hj]
      exact h i
  | @disabled j u f _ motion rests sum =>
    change P (u.updSensor j f).sensors[i]
    by_cases hj : i = j
    · subst hj
      rw [updSensor_same]
      exact disabled _ rests sum
    · rw [updSensor_other _ _ hj, motion.others i hj]
      exact h i
  | mapped => exact h i
  | acted => exact h i
  | resumed => exact h i

theorem turn_rest (s t : State) (c : Turn g s t) (h : s.DisabledSensorsRest) : t.DisabledSensorsRest :=
  turn_sensors (P := SensorRecord.Rests) s t c (fun _ _ rests _ => rests) (fun _ _ _ rests => rests) (fun _ h _ => h) h

theorem turn_sums (s t : State) (c : Turn g s t) (h : s.VibrationSumsHold) : t.VibrationSumsHold :=
  turn_sensors (P := SensorRecord.SumRight) s t c (fun _ _ _ sum => sum) (fun _ _ motion _ => motion.sum) (fun _ _ h => h) h

theorem softReset_settings (s : State) :
    (softReset s).adm.profiles = s.adm.profiles ∧ (softReset s).adm.limit = s.adm.limit ∧ (softReset s).adm.margin = s.adm.margin
      ∧ (softReset s).adm.effLimit = effectiveLimit s.adm.limit s.adm.margin := (evaluateBudget_work _).settings

theorem softReset_profilesNormalized (s : State) (h : s.ProfilesNormalized) : (softReset s).ProfilesNormalized := by
  unfold State.ProfilesNormalized
  rw [(softReset_settings s).1]
  exact h

theorem softReset_supplyHolds (s : State) (h : s.SupplyHolds) : (softReset s).SupplyHolds := by
  obtain ⟨-, limit, margin, effLimit⟩ := softReset_settings s
  unfold State.SupplyHolds
  rw [limit, margin, effLimit]
  exact ⟨h.1, h.2.1, rfl⟩

theorem softReset_someManager (s : State) (h : s.SomeManager) : (softReset s).SomeManager := by
  have sources : (softReset s).sources = s.sources := (evaluateBudget_work _).sources
  unfold State.SomeManager State.manages
  rw [sources]
  exact h

theorem softReset_rest (s : State) : (softReset s).DisabledSensorsRest := fun i h => by
  rw [softReset_sensor] at h ⊢
  replace h : s.sensors[i].enabled = false := h
  exact ⟨rfl, rfl, rfl, rfl, if_neg (by rw [h]; exact Bool.false_ne_true)⟩

theorem softReset_sums (s : State) : (softReset s).VibrationSumsHold := fun i => by
  rw [softReset_sensor]
  exact ⟨rfl, rfl⟩

theorem reset_profilesNormalized : State.reset.ProfilesNormalized := by
  unfold State.ProfilesNormalized Profile.Normalized
  decide +kernel

theorem reset_supplyHolds : State.reset.SupplyHolds := by unfold State.SupplyHolds; decide +kernel

theorem reset_someManager : State.reset.SomeManager := ⟨0, by decide +kernel⟩

theorem reset_rest : State.reset.DisabledSensorsRest := by unfold State.DisabledSensorsRest; decide +kernel

theorem reset_sums : State.reset.VibrationSumsHold := by unfold State.VibrationSumsHold; decide +kernel

end Sys2Proof.Machine

namespace Sys2Proof.Proofs

open Sys2Proof.Machine

/-- Settles O7: levels and copies by turns, the flag and the line by how each command ends. -/
theorem stepKeepsTheLevelsTheFlagAndTheLine : Obligations.StepKeepsTheLevelsTheFlagAndTheLine := fun _ _ h =>
  ⟨step_turns_keep turn_levelsHold (fun _ => id) (fun _ _ => id) reset_levelsHold (fun s _ => softReset_levelsHold s) h,
   step_turns_keep turn_copiesHold (fun _ => id) (fun _ _ => id) reset_copiesHold (fun s _ => softReset_copiesHold s) h,
   step_flag_line h⟩

/-- Settles O9: every turn keeps each of the five promises. -/
theorem stepKeepsTheSettingsAndTheSensors : Obligations.StepKeepsTheSettingsAndTheSensors := fun _ _ h =>
  ⟨step_turns_keep (fun s t c => (turn_settings s t c).1) (fun _ => id) (fun _ _ => id) reset_profilesNormalized
     softReset_profilesNormalized h,
   step_turns_keep (fun s t c => (turn_settings s t c).2.1) (fun _ => id) (fun _ _ => id) reset_supplyHolds softReset_supplyHolds h,
   step_turns_keep (fun s t c => (turn_settings s t c).2.2) (fun _ => id) (fun _ _ => id) reset_someManager softReset_someManager h,
   step_turns_keep turn_rest (fun _ => id) (fun _ _ => id) reset_rest (fun s _ => softReset_rest s) h,
   step_turns_keep turn_sums (fun _ => id) (fun _ _ => id) reset_sums (fun s _ => softReset_sums s) h⟩

end Sys2Proof.Proofs
end

section
/-! PROOFS. The rules for all commands: the clock, the tables, the first fault, the latch and the reservation holders. -/

namespace Sys2Proof.Machine

set_option Elab.async false

variable {g : Grant}

/-! ### The clock and the commands that wait (R1) -/

theorem turn_clock (s t : State) (c : Turn g s t) : t.now = s.now ∧ t.pending = s.pending := by
  cases c with
  | aside now pending => exact ⟨now, pending⟩
  | sensor => exact ⟨rfl, rfl⟩
  | handed motion => exact ⟨motion.now, motion.pending⟩
  | disabled _ motion => exact ⟨motion.now, motion.pending⟩
  | mapped => exact ⟨rfl, rfl⟩
  | acted => exact ⟨rfl, rfl⟩
  | resumed => exact ⟨rfl, rfl⟩

theorem turns_clock {s t : State} (w : Turns g s t) : t.now = s.now ∧ t.pending = s.pending :=
  w.keeps (P := fun u => u.now = s.now ∧ u.pending = s.pending)
    (fun _ _ c h => ⟨(turn_clock _ _ c).1.trans h.1, (turn_clock _ _ c).2.trans h.2⟩) ⟨rfl, rfl⟩

theorem softReset_clock (s : State) : (softReset s).now = s.now ∧ (softReset s).pending = s.pending :=
  ⟨(evaluateBudget_work _).now, (evaluateBudget_work _).pending⟩

theorem exec_clock (c : Instr) (s : State) : ∃ t, exec c s = .next t ∧ t.pending = s.pending
    ∧ (c ≠ .millisecondCounterTick → c ≠ .powerOnReset → t.now = s.now) := by
  obtain ⟨t, e, h⟩ := exec_turns (g := .full) (c := c) ⟨fun _ => rfl, .inr rfl⟩ s
  refine ⟨t, e, ?_⟩
  rcases h with ⟨rfl, rfl⟩ | ⟨-, rfl⟩ | ⟨rfl, rfl⟩ | w
  · exact ⟨rfl, fun _ h => absurd rfl h⟩
  · have closed := close_work (softReset (s.begin.updLink fun k => { k with tx := none }))
    have reset := softReset_clock (s.begin.updLink fun k => { k with tx := none })
    exact ⟨closed.pending.trans reset.2, fun _ _ => closed.now.trans reset.1⟩
  · exact ⟨rfl, fun h => absurd rfl h⟩
  · exact ⟨(turns_clock w).2, fun _ _ => (turns_clock w).1⟩

/-! ### The tables (R151, R157) -/

/-- All tables stay; of the Sensor table its enabled fields. -/
structure TablesStay (s t : State) : Prop extends TablesRest s t where
  map : t.prot.map = s.prot.map
  actions : t.prot.actions = s.prot.actions
  enabled : ∀ i : SensorId, t.sensors[i].enabled = s.sensors[i].enabled

theorem TablesStay.refl (s : State) : TablesStay s s := ⟨⟨rfl, fun _ => ⟨rfl, rfl⟩, rfl, rfl, rfl, rfl, rfl⟩, rfl, rfl, fun _ => rfl⟩

theorem TablesStay.trans {s t u : State} (h : TablesStay s t) (k : TablesStay t u) : TablesStay s u where
  profiles := k.profiles.trans h.profiles
  assignment b := ⟨(k.assignment b).1.trans (h.assignment b).1, (k.assignment b).2.trans (h.assignment b).2⟩
  thresholds := k.thresholds.trans h.thresholds
  windows := k.windows.trans h.windows
  sources := k.sources.trans h.sources
  routing := k.routing.trans h.routing
  timing := k.timing.trans h.timing
  map := k.map.trans h.map
  actions := k.actions.trans h.actions
  enabled i := (k.enabled i).trans (h.enabled i)

theorem WorkFrame.tablesStay {s t : State} (h : WorkFrame s t) : TablesStay s t :=
  ⟨h.tables, by rw [h.prot], by rw [h.prot], fun i => by rw [h.sensors]⟩

/-- Where no table may be written every turn leaves them. -/
theorem turn_tablesStay (hg : g.writes = false) (s t : State) (c : Turn g s t) : TablesStay s t := by
  have closed {P : Prop} (h : g.writes = true) : P := by rw [hg] at h; cases h
  cases c with
  | aside _ _ sensors _ prot tables => exact ⟨tables.resolve_right closed, by rw [prot], by rw [prot], fun i => by rw [sensors]⟩
  | @sensor i f _ enabled =>
    refine ⟨⟨rfl, fun _ => ⟨rfl, rfl⟩, rfl, rfl, rfl, rfl, rfl⟩, rfl, rfl, fun j => ?_⟩
    by_cases hj : j = i
    · subst hj
      rw [updSensor_same]
      exact enabled.resolve_right fun k => closed k.1
    · rw [updSensor_other _ _ hj]
  | @handed i u motion =>
    refine ⟨⟨motion.settings.1, motion.assignment, motion.thresholds, motion.windows, motion.sources, motion.routing, motion.timing⟩,
      congrArg (·.map) motion.prot, congrArg (·.actions) motion.prot, fun j => ?_⟩
    change u.sensors[j].enabled = _
    by_cases hj : j = i
    · subst hj; exact motion.enabled
    · rw [motion.others j hj]
  | disabled h => exact closed h
  | mapped h => exact closed h
  | acted h => exact closed h
  | resumed => exact ⟨⟨rfl, fun _ => ⟨rfl, rfl⟩, rfl, rfl, rfl, rfl, rfl⟩, rfl, rfl, fun _ => rfl⟩

theorem softReset_tablesStay (s : State) : TablesStay s (softReset s) := by
  refine ⟨⟨(softReset_settings s).1, fun b => ?_, (evaluateBudget_work _).thresholds, (evaluateBudget_work _).windows,
    (evaluateBudget_work _).sources, (evaluateBudget_work _).routing, (evaluateBudget_work _).timing⟩, ?_, ?_, fun i => ?_⟩
  · rw [softReset_bay]; exact ⟨rfl, rfl⟩
  · rw [softReset_prot]; rfl
  · rw [softReset_prot]; rfl
  · rw [softReset_sensor]; rfl

theorem exec_tablesStay {c : Instr} (hc : c.mayWriteTables = false) (s : State) : ∃ t, exec c s = .next t ∧ TablesStay s t := by
  obtain ⟨t, e, h⟩ := exec_turns (g := ⟨false, true⟩) (c := c) ⟨fun k => absurd k (by rw [hc]; exact Bool.false_ne_true), .inr rfl⟩ s
  refine ⟨t, e, ?_⟩
  rcases h with ⟨rfl, -⟩ | ⟨-, rfl⟩ | ⟨-, rfl⟩ | w
  · cases hc
  · exact ((WorkFrame.trans_updLink (begin_work s)).tablesStay.trans (softReset_tablesStay _)).trans (close_work _).tablesStay
  · exact ⟨⟨rfl, fun _ => ⟨rfl, rfl⟩, rfl, rfl, rfl, rfl, rfl⟩, rfl, rfl, fun _ => rfl⟩
  · exact w.keeps (P := TablesStay s) (fun _ _ c h => h.trans (turn_tablesStay rfl _ _ c)) (.refl s)

/-! ### The first fault and the latch (R89, R174) -/

theorem turn_latch (hg : g.resumes = false) {r : ImpactRecord} (s t : State) (c : Turn g s t) (h : s.latch = some r) : t.latch = some r := by
  cases c with
  | aside _ _ _ latch => exact latch.trans h
  | sensor => exact h
  | handed motion => exact motion.latch r h
  | disabled _ motion => exact motion.latch r h
  | mapped => exact h
  | acted => exact h
  | resumed k => rw [hg] at k; cases k

theorem exec_latch {c : Instr} {s : State} {r : ImpactRecord} (h : s.latch = some r) (noReset : c.mayReset = false)
    (noResume : ∀ h p, c ≠ .motionResume h p) : ∃ t, exec c s = .next t ∧ t.latch = some r := by
  have noByte (x : Byte) : c ≠ .linkByteReceipt x := by rintro rfl; cases noReset
  obtain ⟨t, e, k⟩ := exec_turns (g := ⟨true, false⟩) (c := c) ⟨fun _ => rfl, .inl ⟨noResume, noByte⟩⟩ s
  refine ⟨t, e, ?_⟩
  rcases k with ⟨rfl, -⟩ | ⟨rfl, -⟩ | ⟨-, rfl⟩ | w
  · cases noReset
  · cases noReset
  · exact h
  · exact w.keeps (turn_latch rfl) h

/-- The First Fault Record holds `f`, its later faults counted on. -/
def State.Holds (s : State) (f : FirstFault) : Prop := ∃ n, f.later ≤ n ∧ s.ffr = some { f with later := n }

theorem holds_of_eq {s t : State} {f : FirstFault} (h : s.Holds f) (e : t.ffr = s.ffr := by rfl) : t.Holds f := by
  obtain ⟨n, hn, k⟩ := h
  exact ⟨n, hn, e.trans k⟩

theorem changeState_ffr (b : Bay) (st : BayState) (s : State) : (changeState b st s).ffr = s.ffr := by
  unfold changeState
  split <;> rfl

variable {l : Leave}

theorem choose_ffr {s t : State} {x : Exchange} (h : s.choose = some (x, t)) : t.ffr = s.ffr := by
  obtain ⟨f, rfl⟩ := choose_eq h
  rfl

/-- A change that may not release the First Fault Record at most counts a later fault. -/
theorem change_holds (hl : l.releases = false) {f : FirstFault} (s t : State) (c : Change l s t) (h : s.Holds f) : t.Holds f := by
  cases c with
  | aside _ _ _ _ ffr => exact holds_of_eq h (ffr.resolve_right (by rw [hl]; exact Bool.false_ne_true))
  | bay => exact holds_of_eq h
  | put => exact holds_of_eq h
  | post => exact holds_of_eq h
  | capture x c n w =>
    obtain ⟨m, hm, k⟩ := h
    rw [captureFault_locked x c n w s _ k]
    exact ⟨_, hm.trans (le_satSucc m 255), rfl⟩
  | adm => exact holds_of_eq h
  | join => exact holds_of_eq h
  | granted => exact holds_of_eq h (changeState_ffr _ _ _)
  | bus => exact holds_of_eq h
  | enqueue => exact holds_of_eq h
  | release => exact holds_of_eq h
  | @start x y u chosen =>
    have ffr : u.ffr = s.ffr := choose_ffr chosen
    exact holds_of_eq (s := s) h ffr
  | remove => exact holds_of_eq h
  | rebook _ _ _ _ _ ffr => exact holds_of_eq h ffr

theorem exec_holds {c : Instr} {s : State} {f : FirstFault} (h : s.ffr = some f) (noReset : c.mayReset = false)
    (noRelease : ∀ h p, c ≠ .faultRelease h p) : ∃ t, exec c s = .next t ∧ t.Holds f := by
  have kept : mayRelease c = false := by
    cases c <;> first | rfl | exact absurd rfl (noRelease _ _) | cases noReset
  obtain ⟨t, e, k⟩ := exec_cases (l := ⟨true, true, false⟩) (c := c) ⟨rfl, fun _ => rfl, fun k => by rw [kept] at k; cases k⟩ s
  refine ⟨t, e, ?_⟩
  rcases k with ⟨rfl, -⟩ | ⟨rfl, -⟩ | w
  · cases noReset
  · cases noReset
  · exact w.keeps (change_holds rfl) ⟨f.later, le_rfl, h⟩

/-! ### Reservation holders (R22, R162 to R167) -/

theorem updBay_holder {s : State} {d : Bay} {f : BayRecord → BayRecord} (h : (f (s.bay d)).holder = (s.bay d).holder) (b : Bay) :
    ((s.updBay d f).bay b).holder = (s.bay b).holder := by
  by_cases hb : b = d
  · subst hb; rw [updBay_bay_same, h]
  · rw [updBay_bay_other _ _ hb]

theorem updBay_state {s : State} {d : Bay} {f : BayRecord → BayRecord} (h : (f (s.bay d)).state = (s.bay d).state) (b : Bay) :
    ((s.updBay d f).bay b).state = (s.bay b).state := by
  by_cases hb : b = d
  · subst hb; rw [updBay_bay_same, h]
  · rw [updBay_bay_other _ _ hb]

theorem setPhase_record (d : Bay) (p : Phase) (s : State) (b : Bay) :
    ((setPhase d p s).bay b).holder = (s.bay b).holder ∧ ((setPhase d p s).bay b).state = (s.bay b).state := by
  unfold setPhase updHead
  exact ⟨updBay_holder rfl b, updBay_state rfl b⟩

theorem updWaiting_record (d : Bay) (f : List Exchange → List Exchange) (s : State) (b : Bay) :
    ((updWaiting d f s).bay b).holder = (s.bay b).holder ∧ ((updWaiting d f s).bay b).state = (s.bay b).state := by
  unfold updWaiting
  exact ⟨updBay_holder rfl b, updBay_state rfl b⟩

theorem enqueue_bay (x : Exchange) (s : State) (b : Bay) : (enqueue x s).bay b = s.bay b := rfl

theorem putState_holder (d : Bay) (st : BayState) (s : State) (b : Bay) : ((putState d st s).bay b).holder = (s.bay b).holder := by
  rw [putState_bay]
  split
  · next h => subst h; rfl
  · rfl

theorem changeState_holder (d : Bay) (st : BayState) (s : State) (b : Bay) : ((changeState d st s).bay b).holder = (s.bay b).holder := by
  unfold changeState
  split
  · rfl
  · exact putState_holder d st s b

/-- A change without leave to remove leaves every holder. -/
theorem change_holder (hl : l.removes = false) {b : Bay} {h : Option Source} (s t : State) (c : Change l s t) (k : (s.bay b).holder = h) :
    (t.bay b).holder = h := by
  rw [← k]
  cases c with
  | aside bays => exact congrArg (fun v : Vector BayRecord 24 => v[b].holder) bays
  | bay kept => exact updBay_holder (kept.holder.resolve_right (by rw [hl]; exact Bool.false_ne_true)) b
  | put => exact putState_holder _ _ s b
  | post => rfl
  | capture => rfl
  | adm => rfl
  | join => exact (setPhase_record _ _ _ b).1
  | granted => exact (changeState_holder _ _ _ b).trans (setPhase_record _ _ _ b).1
  | bus => rfl
  | enqueue => rfl
  | release => exact (enqueue_bay _ _ b).symm ▸ (updWaiting_record _ _ s b).1
  | start chosen => obtain ⟨f, rfl⟩ := choose_eq chosen; rfl
  | remove leave => rw [hl] at leave; cases leave
  | rebook _ bays => exact (bays b).2.1

theorem works_holder {s t : State} {m r : Bool} (w : Works ⟨m, false, r⟩ s t) (b : Bay) : (t.bay b).holder = (s.bay b).holder :=
  w.keeps (change_holder rfl) rfl

/-- A bay whose drive is gone: Empty, without a holder and without an admission (R22). -/
structure State.Gone (s : State) (b : Bay) : Prop where
  holder : (s.bay b).holder = none
  state : (s.bay b).state = .empty
  admission : ∀ e ∈ s.adm.queue, e.bay ≠ b

theorem changeState_state (d : Bay) (st : BayState) (s : State) (b : Bay) :
    ((changeState d st s).bay b).state = if b = d then st else (s.bay b).state := by
  unfold changeState
  split
  · next h =>
    split
    · next e => subst e; exact h
    · rfl
  · change ((putState d st s).bay b).state = _
    rw [putState_bay]
    split
    · next e => subst e; rfl
    · rfl

/-- Nothing but an insertion takes a bay whose drive is gone to another state, and no request of it is admitted. -/
theorem change_gone (hm : l.moves = false) (hr : l.removes = false) {b : Bay} (s t : State) (c : Change l s t) (h : s.Gone b) : t.Gone b := by
  have holder : (t.bay b).holder = none := change_holder hr s t c h.holder
  refine ⟨holder, ?_, ?_⟩
  · cases c with
    | aside bays => exact (congrArg (fun v : Vector BayRecord 24 => v[b].state) bays).trans h.state
    | bay kept => exact (updBay_state kept.state b).trans h.state
    | @put d st leave =>
      rw [putState_bay]
      split
      · next e =>
        subst e
        rcases leave with k | k | k
        · rw [hm] at k; cases k
        · exact absurd h.state k
        · simp [k]
      · exact h.state
    | post => exact h.state
    | capture => exact h.state
    | adm => exact h.state
    | join => exact (setPhase_record _ _ _ b).2.trans h.state
    | @granted e rest queue =>
      have ne : b ≠ e.bay := (h.admission e (by rw [queue]; exact List.mem_cons_self)).symm
      rw [changeState_state, if_neg ne]
      exact (setPhase_record _ _ _ b).2.trans h.state
    | bus => exact h.state
    | enqueue => exact h.state
    | release => exact (enqueue_bay _ _ b).symm ▸ (updWaiting_record _ _ s b).2.trans h.state
    | start chosen => obtain ⟨f, rfl⟩ := choose_eq chosen; exact h.state
    | remove leave => rw [hr] at leave; cases leave
    | rebook _ bays => exact (bays b).1.trans h.state
  · intro e he
    cases c with
    | aside _ adm => rw [adm] at he; exact h.admission e he
    | bay => exact h.admission e he
    | put => exact h.admission e he
    | post => exact h.admission e he
    | capture => exact h.admission e he
    | adm _ _ queue => exact h.admission e (queue.subset he)
    | @join d k r _ _ state =>
      rcases List.mem_append.mp he with k | k
      · exact h.admission e k
      · rw [List.mem_singleton.mp k]
        rintro rfl
        exact state h.state
    | @granted d rest queue =>
      rw [(changeState_stays _ _ _).admission] at he
      exact h.admission e (List.mem_of_mem_tail he)
    | bus => exact h.admission e he
    | enqueue => exact h.admission e he
    | release => exact h.admission e he
    | start chosen => obtain ⟨f, rfl⟩ := choose_eq chosen; exact h.admission e he
    | remove leave => rw [hr] at leave; cases leave
    | rebook _ _ queue => rw [queue] at he; exact h.admission e he

/-- From `s` to `t` bay `b` kept its holder, or its drive is gone. -/
def HolderStays (b : Bay) (s t : State) : Prop := (t.bay b).holder = (s.bay b).holder ∨ t.Gone b

theorem holderStays_of_works {b : Bay} {s t : State} {m r : Bool} (w : Works ⟨m, false, r⟩ s t) : HolderStays b s t :=
  .inl (works_holder w b)

theorem HolderStays.after {b : Bay} {s t u : State} (h : HolderStays b t u) {m r : Bool} (w : Works ⟨m, false, r⟩ s t) : HolderStays b s u :=
  h.imp_left fun k => k.trans (works_holder w b)

theorem HolderStays.then {b : Bay} {s t u : State} (h : HolderStays b s t) {r : Bool} (w : Works ⟨false, false, r⟩ t u) : HolderStays b s u :=
  h.imp (fun k => (works_holder w b).trans k) fun k => w.keeps (change_gone rfl rfl) k

theorem removeDrive_holderStays (d : Bay) (own : OwnAnswer) (s : State) (b : Bay) : HolderStays b s (removeDrive d own s) := by
  unfold removeDrive
  extract_lets s1 s2 s3 s4
  have completed : Works ⟨false, false, true⟩ s s1 := completeRemoved_works d own s
  have cleared : Works ⟨false, false, true⟩ s2 s4 :=
    ((takeOut_works _ _ _).trans (leaveBaySet_works _ _)).trans ((disregard_works _ _ _).trans (surveyKnown_works _ _))
  have ended : Works ⟨false, false, true⟩ s4 (changeState d .empty s4) := changeState_works (.inr (.inr rfl))
  have stays : HeadsStay s2 s4 := by
    refine ((takeOut_stays d _ s2).trans (leaveBaySet_stays d _)).trans ((disregard_stays d (fun _ => true) s3).trans ?_)
    simp only [s4, surveyKnown]
    split
    · exact updBay_stays
    · exact .refl _
  by_cases hb : b = d
  · subst hb
    refine .inr ⟨?_, by rw [changeState_state, if_pos rfl], fun e he => ?_⟩
    · rw [works_holder (cleared.trans ended) b]
      change ((s1.updBay b (·.removed)).bay b).holder = none
      rw [updBay_bay_same]
      rfl
    · rw [(changeState_stays _ _ _).admission, stays.admission] at he
      simpa using (List.mem_filter.mp he).2
  · refine .inl ((works_holder (cleared.trans ended) b).trans (Eq.trans ?_ (works_holder completed b)))
    change ((s1.updBay d (·.removed)).bay b).holder = _
    rw [updBay_bay_other _ _ hb]

theorem takeReport_holderStays (d : Bay) (rep : Report) (own : OwnAnswer) (s : State) (b : Bay) :
    HolderStays b s (takeReport d rep own s) := by
  by_cases hp : rep.present = true
  · exact holderStays_of_works (m := true) (r := true) (takeReport_works rfl (.inr hp) own s)
  · have stored : Works ⟨true, false, true⟩ s (storeReport d rep s) := storeReport_works d rep s
    unfold takeReport
    rw [if_pos (by simpa using hp)]
    split
    · exact holderStays_of_works stored
    · exact (removeDrive_holderStays d own _ b).after stored

theorem queryReport_holderStays (d : Bay) (x : Exchange) (rep : Report) (s : State) (b : Bay) : HolderStays b s (queryReport d x rep s) := by
  unfold queryReport
  split
  · exact takeReport_holderStays _ _ _ _ _
  · unfold surveyReport
    exact (takeReport_holderStays _ _ _ _ _).then (r := true) mark_works
  · unfold followUpReport
    split
    · exact holderStays_of_works (m := true) (r := true) ((storeReport_works _ _ _).trans (followUpFault_works rfl _ _))
    · exact takeReport_holderStays _ _ _ _ _
  · exact takeReport_holderStays _ _ _ _ _

theorem succeed_holderStays (c : Current) (p : List Byte) (s : State) (b : Bay) : HolderStays b s (succeed c p s) := by
  by_cases hp : ∀ rep, reportOf p = some rep → rep.present = true
  · exact holderStays_of_works (m := true) (r := true) (succeed_works rfl (fun rep h => .inr (hp rep h)) s)
  · push Not at hp
    obtain ⟨rep, hr, -⟩ := hp
    have ended : Works ⟨true, false, true⟩ s (endCurrent s) := endCurrent_works s
    unfold succeed
    dsimp only
    split
    · exact holderStays_of_works ended
    · split
      · exact holderStays_of_works (ended.trans (rateOutcome_works _ _ _))
      · exact holderStays_of_works ended
      · rw [hr]
        exact (queryReport_holderStays _ _ _ _ _).after ended
      · split
        · next k => exact holderStays_of_works (ended.trans (completeHead_works (headStarted_unadmitted k)))
        · exact holderStays_of_works ended
      · exact holderStays_of_works (ended.trans (acknowledge_works _ _ _))

/-- A frame of a station that is taken keeps the holders when its effect does. -/
theorem stationFrame_holderStays {f : StationFrame} {take : Option (State → State)} {s : State} {b : Bay}
    (h : ∀ k, take = some k → ∀ t, HolderStays b t (k t)) : HolderStays b s (stationFrame f take s) := by
  have begun : Works ⟨true, false, true⟩ s s.begin := begin_works s
  have concluded (t : State) : Works ⟨false, false, true⟩ t (conclude s.begin t) := conclude_works _ _
  unfold stationFrame
  split
  · exact .inl rfl
  · split
    · exact (holderStays_of_works (begun.trans (answerStation_works _ _ _ _))).then (concluded _)
    · split
      · exact (holderStays_of_works (begun.trans (answerStation_works _ _ _ _))).then (concluded _)
      · next k => exact ((h k rfl _).after (begun.trans (answerStation_works _ _ _ _))).then (concluded _)

theorem presenceTaken_holderStays {f : StationFrame} {k : State → State} (e : presenceTaken f = some k) (s : State) (b : Bay) :
    HolderStays b s (k s) := by
  unfold presenceTaken at e
  split at e
  · split at e
    · cases e; exact holderStays_of_works (m := true) (r := true) (presenceInserted_works rfl _ _)
    · split at e
      · cases e
        unfold presenceRemoved
        split
        · exact .inl rfl
        · exact removeDrive_holderStays _ _ _ _
      · cases e
  · cases e

theorem doneTaken_holderStays {f : StationFrame} {k : State → State} (e : doneTaken f = some k) (s : State) (b : Bay) :
    HolderStays b s (k s) := by
  unfold doneTaken at e
  split at e
  · cases e; exact takeReport_holderStays _ _ _ _ _
  · cases e

theorem execAck_holderStays (f : AnswerFrame) (s : State) (b : Bay) : ∃ t, exec (.ack f) s = .next t ∧ HolderStays b s t := by
  have begun : Works ⟨true, false, true⟩ s s.begin := begin_works s
  have concluded (t : State) : Works ⟨false, false, true⟩ t (conclude s.begin t) := conclude_works _ _
  refine ⟨_, rfl, ?_⟩
  unfold answerFrame
  split
  · exact .inl rfl
  · next c hc =>
    have hc' : s.begin.bus.current = some c := (Option.filter_eq_some_iff.mp hc).1
    have failed : HolderStays b s (failAttempt c .replyCheckBad s.begin) :=
      holderStays_of_works (begun.trans (failAttempt_works rfl hc' _))
    refine HolderStays.then ?_ (concluded _)
    split
    · dsimp only
      split
      · exact (succeed_holderStays _ _ _ _).after begun
      · exact failed
    · exact failed

theorem exec_holder {c : Instr} {s : State} (b : Bay) (noReset : c.mayReset = false) (noReserve : ∀ h p, c ≠ .reserve h p)
    (noRelease : ∀ h p, c ≠ .release h p) (noClear : ∀ h p, c ≠ .reservationsClear h p) :
    ∃ t, exec c s = .next t ∧ HolderStays b s t := by
  by_cases hc : mayRemove c = true
  · cases c <;> first | exact absurd hc Bool.false_ne_true | clear hc
    case reserve h p => exact absurd rfl (noReserve h p)
    case release h p => exact absurd rfl (noRelease h p)
    case reservationsClear h p => exact absurd rfl (noClear h p)
    case done f => exact ⟨_, rfl, stationFrame_holderStays fun k e t => doneTaken_holderStays (ofKind_some e) t b⟩
    case presenceInserted => exact ⟨_, rfl, stationFrame_holderStays fun k e t => presenceTaken_holderStays e t b⟩
    case presenceRemoved => exact ⟨_, rfl, stationFrame_holderStays fun k e t => presenceTaken_holderStays e t b⟩
    case ack f => exact execAck_holderStays f s b
    case linkByteReceipt => cases noReset
  · obtain ⟨t, e, k⟩ := exec_cases (l := ⟨true, false, true⟩) (c := c) ⟨rfl, fun k => absurd k hc, fun _ => rfl⟩ s
    refine ⟨t, e, ?_⟩
    rcases k with ⟨rfl, -⟩ | ⟨rfl, -⟩ | w
    · cases noReset
    · cases noReset
    · exact holderStays_of_works w

theorem reset_consistent : State.reset.AdmissionConsistent := ⟨.nil, fun _ he => nomatch he⟩

theorem reset_standSingly : State.reset.ExchangesStandSingly := by
  have waiting : ∀ b, (State.reset.bay b).waiting = [] := by decide
  exact fun b => ⟨fun x hx => (by rw [waiting b] at hx; cases hx), Nat.zero_le _, fun _ _ _ _ => rfl⟩

end Sys2Proof.Machine

namespace Sys2Proof.Proofs

open Sys2Proof.Machine

/-- Settles O2: no turn moves the counter or the commands that wait. -/
theorem commandsAnswerAndOnlyTheTickCounts : Obligations.CommandsAnswerAndOnlyTheTickCounts := by
  refine ⟨fun c s => ?_, fun _ => rfl, fun c s hc hr => ?_⟩
  · obtain ⟨t, e, h, -⟩ := exec_clock c s
    exact ⟨t, e, h⟩
  · obtain ⟨t, e, -, h⟩ := exec_clock c s
    exact ⟨t, e, h hc hr⟩

/-- Settles O12: without a grant to write every turn leaves the tables. -/
theorem onlyTableWritesChangeTables : Obligations.OnlyTableWritesChangeTables := fun c s hc => by
  obtain ⟨t, e, h⟩ := exec_tablesStay hc s
  exact ⟨t, e, h.profiles, h.assignment, h.map, h.actions, h.enabled, h.thresholds, h.windows, h.sources, h.routing, h.timing⟩

/-- Settles O11: a change counts a later fault at most, and a turn without the grant to resume leaves a latch that is set. -/
theorem theFirstFaultAndTheLatchStay : Obligations.TheFirstFaultAndTheLatchStay :=
  ⟨fun _ _ _ h noReset noRelease => exec_holds h noReset noRelease, fun _ _ _ h noReset noResume => exec_latch h noReset noResume⟩

/-- Settles O13: a holder changes by the removal of the drive alone, after which the bay stays Empty. -/
theorem holdersChangeOnlyByTheirRequests : Obligations.HoldersChangeOnlyByTheirRequests := by
  intro c s b noReset noReserve noRelease noClear
  obtain ⟨t, e, h⟩ := exec_holder (s := s) b noReset noReserve noRelease noClear
  exact ⟨t, e, h.imp_right fun k => ⟨k.holder, k.state⟩⟩

/-- Settles O10, each promise evaluated on the reset state. -/
theorem invariantsHoldAtReset : Obligations.InvariantsHoldAtReset :=
  ⟨reset_balanced, reset_wellKept, reset_levelsHold, reset_copiesHold, reset_consistent, reset_flagFollows, reset_lineFollows,
   reset_profilesNormalized, reset_supplyHolds, reset_someManager, reset_queuesFit, reset_rest, reset_sums, reset_standSingly⟩

/-- Settles O1, by the two cases of `step`. -/
theorem stepRunsTheFrontCommand : Obligations.StepRunsTheFrontCommand := by
  refine ⟨fun c s => rfl, fun s h => ?_⟩
  unfold step
  rw [h]

end Sys2Proof.Proofs
end

section
/-! PROOFS. The tables and the arithmetic of the rules: profiles, limits, windows, falls, vibration. -/

namespace Sys2Proof.Machine

set_option Elab.async false

/-! ### Profiles and limits (R56, R58) -/

theorem loadingReservation_bounds {p : Profile} (h : p.Normalized) : p.active ≤ p.loadingReservation ∧ p.loadingReservation ≤ p.peak := by
  obtain ⟨_, active, surge, _⟩ := h
  unfold Profile.loadingReservation
  omega

/-- No state reserves more than the Peak of a normalized profile. -/
theorem reservation_le_peak {p : Profile} (h : p.Normalized) (st : BayState) : p.reservation st ≤ p.peak := by
  have loading := (loadingReservation_bounds h).2
  obtain ⟨idle, active, surge, _⟩ := h
  cases st <;> simp only [Profile.reservation] <;> omega

theorem normalizeProfile_of_normalized {p : Profile} (h : p.Normalized) : normalizeProfile p = p := by
  obtain ⟨idle, active, surge, _⟩ := h
  have hi : min p.idle p.peak = p.idle := by omega
  have ha : min (max p.active p.idle) p.peak = p.active := by omega
  have hs : min p.surge (p.peak - p.idle) = p.surge := by omega
  simp only [normalizeProfile, hi, ha, hs]

theorem effectiveLimit_floor {l m : Nat} (hl : l ≤ 60000) :
    effectiveLimit l m * 100 ≤ l * (100 - m) ∧ l * (100 - m) < (effectiveLimit l m + 1) * 100 ∧ effectiveLimit l m ≤ 60000 := by
  have le := effectiveLimit_le l m
  unfold effectiveLimit at *
  omega

/-! ### Windows (R158, R159) -/

theorem spanFrom_cases (n : Nat) : spanFrom n ∈ [0, 1, 3, 7, 15, 31] := by
  unfold spanFrom
  repeat' split
  all_goals decide

/-- The multiples of a window's width: a bay lies in the window exactly when it has the window's base. -/
theorem multiple_contains {base w n : Nat} (hw : 0 < w) (hb : base % w = 0) : base ≤ n ∧ n ≤ base + (w - 1) ↔ n / w * w = base := by
  obtain ⟨k, rfl⟩ := Nat.dvd_of_mod_eq_zero hb
  rw [Nat.mul_comm w k]
  constructor
  · rintro ⟨lower, upper⟩
    have : n / w = k := by
      rw [Nat.div_eq_iff hw]
      omega
    rw [this]
  · intro h
    have hk : n / w = k := Nat.eq_of_mul_eq_mul_right hw h
    rw [Nat.div_eq_iff hw] at hk
    omega

theorem windowFrom_stored {e : List Byte} {w : Window} (h : windowFrom e = some w) :
    w.span ∈ [0, 1, 3, 7, 15, 31] ∧ w.base % (w.span + 1) = 0 ∧ w.base ≤ 31 ∧ w.perms.toNat ≤ 15
      ∧ ∀ b : Bay, w.contains b = true ↔ b.val / (w.span + 1) * (w.span + 1) = w.base := by
  unfold windowFrom at h
  split at h
  · next en src base span perms =>
    split at h
    · cases h
    · next range =>
      push Not at range
      obtain ⟨_, hbase, hperms⟩ := range
      cases h
      have multiple : baseFrom base.toNat (spanFrom span.toNat) % (spanFrom span.toNat + 1) = 0 := Nat.mul_mod_left _ _
      refine ⟨spanFrom_cases _, multiple, (Nat.div_mul_le_self _ _).trans hbase, hperms, fun b => ?_⟩
      rw [← multiple_contains (Nat.succ_pos _) multiple]
      simp [Window.contains]
  · cases h

theorem vector_any {α : Type} {n : Nat} (v : Vector α n) (p : α → Bool) : v.toList.any p = true ↔ ∃ i : Fin n, p v[i] = true := by
  rw [List.any_eq_true]
  constructor
  · rintro ⟨x, hx, hp⟩
    obtain ⟨k, hk, rfl⟩ := List.mem_iff_getElem.mp hx
    exact ⟨⟨k, by simpa using hk⟩, by simpa using hp⟩
  · rintro ⟨i, hp⟩
    exact ⟨v[i], by simp, hp⟩

theorem windowAllows_iff (s : State) (src : Source) (perm : Nat) (b : Bay) :
    s.windowAllows src perm b = true ↔
      (∀ w : Fin 8, s.windows[w].enabled = false)
        ∨ ∃ w : Fin 8, s.windows[w].enabled = true ∧ s.windows[w].contains b = true
            ∧ s.windows[w].sources.getLsbD src.val = true ∧ s.windows[w].perms.getLsbD perm = true := by
  have none : (!s.windows.toList.any (·.enabled)) = true ↔ ∀ w : Fin 8, s.windows[w].enabled = false := by
    rw [Bool.not_eq_true', ← Bool.not_eq_true, vector_any]
    simp
  unfold State.windowAllows
  rw [Bool.or_eq_true, none, vector_any]
  simp only [Bool.and_eq_true, and_assoc]

/-! ### Falls and Jolt (R85 to R91) -/

theorem joltStep_low (r : SensorRecord) (t : Thresholds) : r.joltStep t false = { r with highRun := 0 } := by
  simp [SensorRecord.joltStep, SensorRecord.withConds, runAfter]

theorem joltStep_high {r : SensorRecord} {t : Thresholds} (h : r.highRun < 65535) :
    r.joltStep t true =
      { r with highRun := r.highRun + 1, conds := { r.conds with jolt := r.conds.jolt || decide (t.nHigh ≤ r.highRun + 1) } } := by
  simp [SensorRecord.joltStep, SensorRecord.withConds, runAfter, satSucc, h]

section

variable {r : SensorRecord} {t : Thresholds} {counter : Half}

theorem fallStep_ended (h : r.conds.falling = false) : r.fallStep t false counter = { r with lowRun := 0 } := by
  simp [SensorRecord.fallStep, runAfter, h]

theorem fallStep_running (h : r.conds.falling = false) (short : r.lowRun < 65535) (below : r.lowRun + 1 < t.nLow) :
    r.fallStep t true counter = { r with lowRun := r.lowRun + 1 } := by
  simp [SensorRecord.fallStep, runAfter, satSucc, h, short, Nat.not_le.mpr below]

theorem fallStep_asserts (h : r.conds.falling = false) (short : r.lowRun < 65535) (reached : t.nLow ≤ r.lowRun + 1) :
    r.fallStep t true counter =
      { r with lowRun := r.lowRun + 1, conds := { r.conds with falling := true },
               fallStart := some (counter - BitVec.ofNat 16 r.lowRun) } := by
  simp [SensorRecord.fallStep, SensorRecord.withConds, runAfter, satSucc, h, short, reached]

theorem fallStep_exits (h : r.conds.falling = true) :
    r.fallStep t false counter = { r with lowRun := 0, conds := { r.conds with falling := false }, fallStart := none } := by
  simp [SensorRecord.fallStep, SensorRecord.withConds, runAfter, h]

end

theorem duration_eq {r : SensorRecord} {start exit : Half} (h : r.fallStart = some start) :
    r.duration exit = if 4095 ≤ r.lowRun then 4095 else min ((exit.toNat + 65536 - start.toNat) % 65536) 4095 := by
  have : (exit - start).toNat = (exit.toNat + 65536 - start.toNat) % 65536 := by bv_omega
  unfold SensorRecord.duration
  rw [h, Option.getD_some, this]

theorem fallHeight_eq (n fs : Nat) : fallHeight n fs = min (4903 * n ^ 2 / fs ^ 2) 65535 := by
  rw [Nat.pow_two, Nat.pow_two]
  rfl

theorem deliverFall_dip {s : State} {h : Nat} (i : SensorId) (c : s.thresholds.classify h = .dip) :
    deliverFall i h s = postNotice (.dip i h s.now) (setLastFall i h .dip s) := by
  unfold deliverFall
  rw [c]
  rfl

theorem deliverFall_impact {s : State} {h : Nat} (i : SensorId) (c : s.thresholds.classify h = .impact) :
    deliverFall i h s = setImpact i h (setLastFall i h .impact s) := by
  unfold deliverFall
  rw [c]

theorem deliverFall_lowGLong {s : State} {h : Nat} (i : SensorId) (c : s.thresholds.classify h = .lowGLong) :
    deliverFall i h s = sensorFault i sensorLowGLong (postNotice (.lowGLong i h s.now) (setLastFall i h .lowGLong s)) := by
  unfold deliverFall
  rw [c]
  rfl

theorem setLastFall_lastFall (i : SensorId) (h : Nat) (r : FallResult) (s : State) :
    (setLastFall i h r s).sensors[i].lastFall = some { height := h, result := r } := by
  unfold setLastFall
  rw [updSensor_same]

/-- What a fall of height `h` leaves, by the class of the height (R88, R89). -/
theorem deliverFall_outcome (s : State) (i : SensorId) (h : Nat) :
    ((deliverFall i h s).sensors[i].lastFall =
      some { height := h, result := if h < s.thresholds.fallMin then .dip
                                    else if h ≤ s.thresholds.fallMax then .impact else .lowGLong })
    ∧ (h < s.thresholds.fallMin ∨ s.thresholds.fallMax < h → (deliverFall i h s).latch = s.latch)
    ∧ (h < s.thresholds.fallMin →
        (deliverFall i h s).notices = s.notices.hand (.dip i h s.now) ∧ (deliverFall i h s).ffr = s.ffr)
    ∧ (s.thresholds.fallMin ≤ h → h ≤ s.thresholds.fallMax →
        (deliverFall i h s).latch = some (s.latch.getD { sensor := i, height := h, time := s.now })
          ∧ (deliverFall i h s).notices = s.notices.hand (.impact i h s.now) ∧ (deliverFall i h s).ffr = s.ffr)
    ∧ (s.thresholds.fallMin ≤ h → s.thresholds.fallMax < h →
        (deliverFall i h s).notices = s.notices.hand (.lowGLong i h s.now)
          ∧ (deliverFall i h s).ffr = s.faultTaken (.sensor i) .sensor 2 .none) := by
  by_cases below : h < s.thresholds.fallMin
  · have c : s.thresholds.classify h = .dip := if_pos below
    rw [deliverFall_dip i c, if_pos below]
    exact ⟨setLastFall_lastFall _ _ _ _, fun _ => rfl, fun _ => ⟨rfl, rfl⟩, fun k => absurd below (Nat.not_lt.mpr k),
      fun k => absurd below (Nat.not_lt.mpr k)⟩
  · by_cases within : h ≤ s.thresholds.fallMax
    · have c : s.thresholds.classify h = .impact := (if_neg below).trans (if_pos within)
      rw [deliverFall_impact i c, if_neg below, if_pos within]
      refine ⟨setLastFall_lastFall _ _ _ _, fun k => absurd k (by omega), fun k => absurd k below, fun _ _ => ⟨?_, rfl, rfl⟩,
        fun _ k => absurd within (Nat.not_le.mpr k)⟩
      have latch : (setImpact i h (setLastFall i h .impact s)).latch = match s.latch with
        | some r => some r
        | none => some { sensor := i, height := h, time := s.now } := rfl
      rw [latch]
      cases s.latch <;> rfl
    · have c : s.thresholds.classify h = .lowGLong := (if_neg below).trans (if_neg within)
      rw [deliverFall_lowGLong i c, if_neg below, if_neg within]
      exact ⟨setLastFall_lastFall _ _ _ _, fun _ => rfl, fun k => absurd k below, fun _ k => absurd k within, fun _ _ => ⟨rfl, rfl⟩⟩

/-! ### Vibration and Rolling (R93) -/

theorem vibration_eq {m : Nat} (h : m ≤ 3221225472) :
    vibration m = (if m ≤ 1048576 then 1048576 - m else m - 1048576) / 1024 ∧ vibration m ≤ 3144704 := by
  have distance : ((m : Int) - 1048576).natAbs = if m ≤ 1048576 then 1048576 - m else m - 1048576 := by
    split <;> omega
  unfold vibration
  rw [distance]
  refine ⟨rfl, ?_⟩
  split <;> omega

theorem rollStep_window {r : SensorRecord} (t : Thresholds) (v : Nat) {oldest : Nat} {rest : List Nat} (h : r.window = oldest :: rest) :
    (r.rollStep t v).window = rest ++ [v] ∧ (r.rollStep t v).vibSum = r.vibSum - oldest + v
      ∧ (r.conds.rolling = false → ((r.rollStep t v).conds.rolling = true ↔ t.vOn ≤ (r.vibSum - oldest + v) / 16))
      ∧ (r.conds.rolling = true → ((r.rollStep t v).conds.rolling = false ↔ (r.vibSum - oldest + v) / 16 < t.vOff)) := by
  refine ⟨?_, ?_, fun k => ?_, fun k => ?_⟩ <;> simp [SensorRecord.rollStep, SensorRecord.withConds, *]

theorem reset_sensor (i : SensorId) : State.reset.sensors[i] = SensorRecord.reset := Vector.getElem_replicate _

theorem handed_sensors (s : State) (i : SensorId) : (s.handed i).sensors = s.sensors := rfl

theorem disableSensor_window (s : State) (i : SensorId) :
    (disableSensor i s).sensors[i].window = List.replicate 16 0 ∧ (disableSensor i s).sensors[i].vibSum = 0 := by
  unfold disableSensor
  dsimp only
  rw [(handOff_work i _).sensors, handed_sensors, updSensor_same]
  exact ⟨rfl, rfl⟩

/-! ### The state after power-on reset -/

theorem reset_caseLevel : State.reset.caseLevel = 0 := by decide

theorem reset_level : ∀ b : Bay, State.reset.level b = 0 := by decide

theorem reset_zone : ∀ z : Zone, State.reset.prot.levels.of z = 0
  | .all => rfl
  | .sensor i => Vector.getElem_replicate i.isLt

theorem reset_action : ∀ l : Level,
    State.reset.prot.actions[l].action = (if l.val < 4 then .none else if l.val = 4 then .unload else .park)
      ∧ (State.reset.prot.actions[l].loadPermit = true ↔ l.val ≤ 1) ∧ (State.reset.prot.actions[l].spinPermit = true ↔ l.val ≤ 4) := by
  decide

theorem reset_manages : ∀ src : Source, State.reset.manages src = true := by decide

end Sys2Proof.Machine

namespace Sys2Proof.Proofs

open Sys2Proof.Machine

/-- Settles O19, by the lemma of each table. -/
theorem profilesLimitsAndWindows : Obligations.ProfilesLimitsAndWindows :=
  ⟨profileFrom_normalized, fun _ h => ⟨(loadingReservation_bounds h).1, (loadingReservation_bounds h).2, reservation_le_peak h,
    normalizeProfile_of_normalized h⟩, by decide, by decide, by decide, by decide, fun _ _ hl _ => effectiveLimit_floor hl,
    by decide, by decide, by decide, by decide, by decide, by decide, fun _ _ h => windowFrom_stored h, by decide, by decide, by decide,
    by decide, by decide, by decide, by decide, windowAllows_iff⟩

/-- Settles O22: every cell evaluated. -/
theorem tablesOfTheRules : Obligations.TablesOfTheRules :=
  ⟨by decide, by decide, by decide, by decide, by decide, by decide, by decide, by decide, by decide, by decide, by decide, by decide,
   by decide⟩

/-- Settles O3: power-on reset leaves `State.reset` with the commands that wait. -/
theorem powerOnResetLeavesTheStatedValues : Obligations.PowerOnResetLeavesTheStatedValues := fun _ =>
  ⟨_, rfl, rfl, rfl, fun _ => Vector.getElem_replicate _, rfl, rfl, rfl, rfl, rfl, rfl, rfl, rfl, rfl, fun _ => Vector.getElem_replicate _,
    fun _ => Vector.getElem_replicate _, rfl, rfl, reset_caseLevel, reset_level, reset_zone, rfl, reset_action, fun _ => Vector.getElem_replicate _,
    rfl, rfl, rfl, rfl, rfl, rfl, rfl, fun _ => Vector.getElem_replicate _, fun _ => Vector.getElem_replicate _, reset_manages, rfl, rfl⟩

/-- Settles O15: each step of the classifier by its branches, and the outcome by the class of the height. -/
theorem fallsAreClassifiedAndJoltsAssert : Obligations.FallsAreClassifiedAndJoltsAssert :=
  ⟨fun _ _ _ => rfl, fun r _ => joltStep_low r _, fun _ _ h => joltStep_high h,
    fun _ _ _ h => ⟨fallStep_ended h, fallStep_running h, fallStep_asserts h⟩, fun _ _ _ h => fallStep_exits h, fun _ _ _ h => duration_eq h,
    fallHeight_eq, by decide, by decide, by decide, by decide, by decide, by decide, by decide, deliverFall_outcome⟩

/-- Settles O16: the value by cases on the magnitude, the window by its oldest value. -/
theorem vibrationAndRolling : Obligations.VibrationAndRolling :=
  ⟨fun _ h => vibration_eq h, fun _ t v _ _ h => rollStep_window t v h, fun _ => by rw [reset_sensor]; exact ⟨rfl, rfl⟩,
    fun s i => ⟨by rw [softReset_sensor]; rfl, by rw [softReset_sensor]; rfl, disableSensor_window s i⟩, by decide, by decide, by decide⟩

end Sys2Proof.Proofs
end

section
/-! PROOFS. A change of a bay's state, a notice handed over, and the examination of the Admission Queue. -/

namespace Sys2Proof.Machine

set_option Elab.async false

/-! ### A change of state (R7, R8, R60) -/

theorem changeState_same {b : Bay} {st : BayState} {s : State} (h : (s.bay b).state = st) : changeState b st s = s := if_pos h

/-- A change to another state written out. -/
theorem changeState_eq {b : Bay} {st : BayState} {s : State} (h : (s.bay b).state ≠ st) : changeState b st s =
    { s with
      bays := s.bays.set b { s.bay b with state := st, reservation := (s.profileOf b).reservation st }
      adm := { s.adm with committed := s.adm.committed + (s.profileOf b).reservation st - (s.bay b).reservation }
      notices := s.notices.hand (.bay b st ((s.profileOf b).reservation st) s.now) } := by
  unfold changeState
  rw [if_neg h, postBay, postNotice_eq, putState_eq]
  simp [State.bay]

/-! ### A notice handed over (R179) -/

theorem hand_unrouted {q : NoticeQueue} {n : Notice} (h : q.routing[n.kind] = false) : q.hand n = q := if_pos h

theorem hand_coalesced {q : NoticeQueue} {n m : Notice} {front back : List Notice} (routed : q.routing[n.kind] = true) (hq : q.WellKept)
    (e : q.queue = front ++ m :: back) (same : n.sameSubject m = true) : q.hand n = { q with queue := front ++ n :: back } := by
  have others : ∀ o ∈ front ++ back, n.sameSubject o = false := by
    intro o ho
    have distinct := hq.2
    rw [e] at distinct
    rw [sameSubject_trans same]
    obtain ⟨-, tail, cross⟩ := List.pairwise_append.mp distinct
    rcases List.mem_append.mp ho with k | k
    · rw [sameSubject_comm]
      exact cross o k m List.mem_cons_self
    · exact (List.pairwise_cons.mp tail).1 o k
  have kept (l : List Notice) (hl : ∀ o ∈ l, o ∈ front ++ back) : l.map (fun o => if n.sameSubject o then n else o) = l := by
    refine (List.map_congr_left fun o ho => ?_).trans (List.map_id l)
    rw [others o (hl o ho)]
    rfl
  unfold NoticeQueue.hand
  rw [if_neg (by rw [routed]; decide), if_pos (by rw [e]; simp [same]), e, List.map_append, List.map_cons, same,
    kept front (fun o h => List.mem_append_left _ h), kept back (fun o h => List.mem_append_right _ h)]
  rfl

theorem hand_new {q : NoticeQueue} {n : Notice} (routed : q.routing[n.kind] = true) (new : ∀ m ∈ q.queue, n.sameSubject m = false) :
    (q.queue.length < 32 → q.hand n = { q with queue := q.queue ++ [n] })
      ∧ (32 ≤ q.queue.length → q.hand n = { q with dropped := true }) := by
  have none : ¬ q.queue.any (n.sameSubject ·) = true := by simpa using new
  unfold NoticeQueue.hand
  rw [if_neg (by rw [routed]; decide), if_neg none]
  exact ⟨fun h => if_pos h, fun h => if_neg (Nat.not_lt.mpr h)⟩

/-! ### The examination (R65 to R68) -/

theorem examineLoop_cons {s : State} {e : AdmEntry} {rest : List AdmEntry} (h : s.adm.queue = e :: rest) (n : Nat) :
    examineLoop (n + 1) s = if s.admits e then examineLoop n (grant e s) else s := by
  simp only [examineLoop, h]

theorem changeState_profileOf (b : Bay) (st : BayState) (s : State) (c : Bay) : (changeState b st s).profileOf c = s.profileOf c := by
  have frame := changeState_work b st s
  unfold State.profileOf
  simp only [frame.settings.1, (frame.assignment c).1]

/-- The state, the reservation and the queue of a bay whose state changes, with the committed current (R7, R60). -/
theorem changeState_books (b : Bay) (st : BayState) (s : State) :
    ((changeState b st s).bay b).state = st
      ∧ ((s.bay b).state ≠ st → ((changeState b st s).bay b).reservation = (s.profileOf b).reservation st
          ∧ (changeState b st s).adm.committed = s.adm.committed + (s.profileOf b).reservation st - (s.bay b).reservation) := by
  refine ⟨by rw [changeState_state, if_pos rfl], fun h => ?_⟩
  rw [changeState_eq h]
  simp [State.bay]

theorem placeFor_free {b : Bay} {x : Exchange} {s : State} (queued : s.queuedFor b = false) (current : s.currentFor b = false) :
    placeFor b x s = enqueue x s := by
  unfold placeFor
  rw [queued, current]
  rfl

/-- The Bay Record's fields that placing an exchange and setting a phase leave. -/
theorem placeFor_record (b : Bay) (x : Exchange) (s : State) (c : Bay) :
    ((placeFor b x s).bay c).state = (s.bay c).state ∧ ((placeFor b x s).bay c).reservation = (s.bay c).reservation
      ∧ ((placeFor b x s).bay c).queue = (s.bay c).queue := by
  unfold placeFor
  split
  · unfold updWaiting
    by_cases h : c = b
    · subst h; rw [updBay_bay_same]; exact ⟨rfl, rfl, rfl⟩
    · rw [updBay_bay_other _ _ h]; exact ⟨rfl, rfl, rfl⟩
  · exact ⟨rfl, rfl, rfl⟩

/-- The state before the stagger of an admission (R68, steps 1 to 3). -/
def admitted (e : AdmEntry) (s : State) : State :=
  setPhase e.bay .issued (placeFor e.bay (s.exchangeFor e.bay e.kind.exchange .head [])
    (changeState e.bay e.kind.state (s.updAdm fun a => { a with queue := a.queue.tail })))

theorem grant_eq (e : AdmEntry) (s : State) : grant e s = if e.kind = .spinUp then startStagger (admitted e s) else admitted e s := rfl

theorem grant_bay (e : AdmEntry) (s : State) (b : Bay) : (grant e s).bay b = (admitted e s).bay b := by
  rw [grant_eq]
  split <;> rfl

theorem grant_bus (e : AdmEntry) (s : State) : (grant e s).bus = (admitted e s).bus := by
  rw [grant_eq]
  split <;> rfl

theorem placeFor_adm (b : Bay) (x : Exchange) (s : State) : (placeFor b x s).adm = s.adm := by
  unfold placeFor
  split <;> rfl

theorem admitted_adm (e : AdmEntry) (s : State) :
    (admitted e s).adm = (changeState e.bay e.kind.state (s.updAdm fun a => { a with queue := a.queue.tail })).adm := placeFor_adm _ _ _

theorem changeState_adm (b : Bay) (st : BayState) (s : State) :
    (changeState b st s).adm = { s.adm with committed := (changeState b st s).adm.committed } := by
  by_cases h : (s.bay b).state = st
  · rw [changeState_same h]
  · rw [changeState_eq h]

/-- An admission moves the queue, the committed current and the stagger of the Admission Unit (R66, R68). -/
theorem grant_adm (e : AdmEntry) (s : State) :
    (grant e s).adm.queue = s.adm.queue.tail ∧ (grant e s).adm.effLimit = s.adm.effLimit
      ∧ (grant e s).adm.committed = (admitted e s).adm.committed
      ∧ (e.kind = .spinUp → (grant e s).adm.lastSpin = some s.now ∧ (grant e s).adm.staggerDue =
          if s.timing.stagger = 0 then none else some (s.after s.timing.stagger))
      ∧ (e.kind = .load → (grant e s).adm.lastSpin = s.adm.lastSpin ∧ (grant e s).adm.staggerDue = s.adm.staggerDue) := by
  have moved := (admitted_adm e s).trans (changeState_adm _ _ _)
  have work : WorkFrame s (admitted e s) :=
    (((WorkFrame.refl s).trans_updAdm.trans (changeState_work _ _ _)).trans (placeFor_work _ _ _)).trans (setPhase_work _ _ _)
  have after (n : Nat) : (admitted e s).after n = s.after n := by unfold State.after; rw [work.now]
  rw [grant_eq]
  split
  · next h =>
    rw [h]
    refine ⟨(congrArg (·.queue) moved :), (congrArg (·.effLimit) moved :), rfl, fun _ => ⟨congrArg some work.now, ?_⟩, fun k => by cases k⟩
    change (if (admitted e s).timing.stagger = 0 then none else some ((admitted e s).after (admitted e s).timing.stagger)) = _
    rw [work.timing, after]
  · next h =>
    exact ⟨(congrArg (·.queue) moved :), (congrArg (·.effLimit) moved :), rfl, fun k => absurd k h,
      fun _ => ⟨(congrArg (·.lastSpin) moved :), (congrArg (·.staggerDue) moved :)⟩⟩

theorem setPhase_queue {b : Bay} {p : Phase} {s : State} {r : Request} {more : List Request} (h : (s.bay b).queue = r :: more) :
    ((setPhase b p s).bay b).queue = { r with phase := p } :: more := by
  unfold setPhase updHead
  rw [updBay_bay_same]
  simp only [h]

theorem setPhase_reservation (b : Bay) (p : Phase) (s : State) : ((setPhase b p s).bay b).reservation = (s.bay b).reservation := by
  unfold setPhase updHead
  rw [updBay_bay_same]

/-- The Bay Record and the Normal queue after an admission (R9, R68). -/
theorem grant_bay_bus (e : AdmEntry) (s : State) :
    ((grant e s).bay e.bay).state = e.kind.state
      ∧ ((s.bay e.bay).state ≠ e.kind.state → ((grant e s).bay e.bay).reservation = (s.profileOf e.bay).reservation e.kind.state
          ∧ (grant e s).adm.committed = s.adm.committed + ((grant e s).bay e.bay).reservation - (s.bay e.bay).reservation)
      ∧ (∀ r more, (s.bay e.bay).queue = r :: more → ((grant e s).bay e.bay).queue = { r with phase := .issued } :: more)
      ∧ (s.queuedFor e.bay = false → s.currentFor e.bay = false →
          (grant e s).bus.normal = s.bus.normal ++ [s.exchangeFor e.bay e.kind.exchange .head []]) := by
  let u := s.updAdm fun a => { a with queue := a.queue.tail }
  obtain ⟨state, moved⟩ := changeState_books e.bay e.kind.state u
  have record := placeFor_record e.bay (s.exchangeFor e.bay e.kind.exchange .head []) (changeState e.bay e.kind.state u) e.bay
  obtain ⟨pstate, preservation, pqueue⟩ := record
  rw [grant_bay, grant_bus, (grant_adm e s).2.2.1, admitted_adm]
  refine ⟨(setPhase_record _ _ _ _).2.trans (pstate.trans state), fun h => ?_, fun r more h => ?_, fun queued current => ?_⟩
  · obtain ⟨reservation, committed⟩ := moved h
    have booked : ((admitted e s).bay e.bay).reservation = (s.profileOf e.bay).reservation e.kind.state :=
      (setPhase_reservation _ _ _).trans (preservation.trans reservation)
    exact ⟨booked, by rw [booked]; exact committed⟩
  · refine setPhase_queue (pqueue.trans ?_)
    rw [(changeState_stays _ _ _).queue]
    exact h
  · have bus : (changeState e.bay e.kind.state u).bus = s.bus := changeState_bus _ _ _
    have free : (changeState e.bay e.kind.state u).queuedFor e.bay = false ∧ (changeState e.bay e.kind.state u).currentFor e.bay = false := by
      unfold State.queuedFor State.currentFor
      rw [bus]
      exact ⟨queued, current⟩
    change (placeFor e.bay _ (changeState e.bay e.kind.state u)).bus.normal = _
    rw [placeFor_free free.1 free.2]
    unfold enqueue
    rw [updBus_bus, bus]
    rfl

theorem examine_cons {s : State} {e : AdmEntry} {rest : List AdmEntry} (h : s.adm.queue = e :: rest) :
    examine s = if s.admits e then examine (grant e s) else s := by
  have queue : (grant e s).adm.queue = rest := by rw [(grant_adm e s).1, h]; rfl
  unfold examine
  rw [h, List.length_cons, examineLoop_cons h, queue]

theorem admits_iff (s : State) (e : AdmEntry) : s.admits e = true ↔
    s.adm.committed + ((s.profileOf e.bay).reservation e.kind.state - (s.bay e.bay).reservation) ≤ s.adm.effLimit
      ∧ (e.kind = .load ∨ s.adm.staggerDue = none) := by
  have fits : s.fits e = true ↔
      s.adm.committed + ((s.profileOf e.bay).reservation e.kind.state - (s.bay e.bay).reservation) ≤ s.adm.effLimit := decide_eq_true_iff
  have opened : s.staggerOpen = true ↔ s.adm.staggerDue = none := Option.isNone_iff_eq_none
  unfold State.admits
  rw [Bool.and_eq_true, Bool.or_eq_true, fits, opened, decide_eq_true_iff]

/-- An admission that fits keeps within the limit, or moves no current (R67). -/
theorem grant_within {s : State} {e : AdmEntry} (h : s.admits e = true) :
    (grant e s).adm.committed = s.adm.committed ∨ (grant e s).adm.committed ≤ s.adm.effLimit := by
  obtain ⟨_, moved, _⟩ := grant_bay_bus e s
  by_cases k : (s.bay e.bay).state = e.kind.state
  · refine .inl ?_
    have same : ((s.updAdm fun a => { a with queue := a.queue.tail }).bay e.bay).state = e.kind.state := k
    rw [(grant_adm e s).2.2.1, admitted_adm, changeState_same same]
    rfl
  · obtain ⟨reservation, committed⟩ := moved k
    have fits := ((admits_iff s e).mp h).1
    rw [reservation] at committed
    omega

theorem examine_within (q : List AdmEntry) : ∀ s : State, s.adm.queue = q →
    ((examine s).adm.committed ≤ s.adm.committed ∨ (examine s).adm.committed ≤ s.adm.effLimit)
      ∧ ∃ admitted : List AdmEntry, s.adm.queue = admitted ++ (examine s).adm.queue := by
  induction q with
  | nil => intro s h; rw [examine_nil s h]; exact ⟨.inl le_rfl, [], rfl⟩
  | cons e rest ih =>
    intro s h
    rw [examine_cons h]
    split
    · next k =>
      obtain ⟨queue, limit, _⟩ := grant_adm e s
      rw [h, List.tail_cons] at queue
      obtain ⟨bound, admitted, split⟩ := ih (grant e s) queue
      rw [limit] at bound
      refine ⟨?_, e :: admitted, by rw [h, List.cons_append, ← split, queue]⟩
      rcases grant_within k with w | w
      · rw [w] at bound; exact bound
      · exact .inr (bound.elim (fun k => k.trans w) id)
    · exact ⟨.inl le_rfl, [], rfl⟩

end Sys2Proof.Machine

namespace Sys2Proof.Proofs

open Sys2Proof.Machine

/-- Settles O20: the change of state written out, and the four cases of `hand`. -/
theorem stateChangesAndTheirNotices : Obligations.StateChangesAndTheirNotices :=
  ⟨fun _ _ _ => ⟨changeState_same, changeState_eq, changeState_balanced _ _⟩,
   fun _ n => ⟨hand_unrouted, fun _ _ _ routed hq e same => hand_coalesced routed hq e same, hand_new, hand_wellKept n⟩⟩

/-- Settles O21, by induction on the Admission Queue. -/
theorem admissionKeepsWithinTheLimit : Obligations.AdmissionKeepsWithinTheLimit := by
  intro s
  obtain ⟨bound, split⟩ := examine_within _ s rfl
  refine ⟨bound, split, fun none => ?_, fun e rest h => ⟨admits_iff s e, fun k => ⟨grant e s, ?_, ?_, ?_⟩⟩⟩
  · rcases h : s.adm.queue with _ | ⟨e, rest⟩
    · exact examine_nil s h
    · rw [examine_cons h, none e rest h]; rfl
  · rw [examine_cons h, if_pos k]
  · rw [(grant_adm e s).1, h]; rfl
  · obtain ⟨state, moved, queue, bus⟩ := grant_bay_bus e s
    obtain ⟨_, _, _, spin, load⟩ := grant_adm e s
    exact ⟨state, moved, queue, bus, spin, load⟩

end Sys2Proof.Proofs
end

section
/-! PROOFS. Commands that are not due, the plain expiries, station frames that are not taken, the receiver, and the end of a
transmission. -/

namespace Sys2Proof.Machine

set_option Elab.async false

/-! ### Not due (R1, R130, R142; log 6) -/

theorem awaiting_eq_none {s : State} {station : Byte}
    (h : ∀ c, s.bus.current = some c → c.answerBy = none ∨ c.ex.target.address ≠ station) : s.awaiting station = none := by
  unfold State.awaiting
  rcases hc : s.bus.current with _ | c
  · rfl
  · rcases h c hc with hn | hn <;> simp [Option.filter, hn]

theorem answerFrame_late {s : State} {station : Byte} (h : s.awaiting station = none) (kind : Byte) (payload : List Byte)
    (check : Half) (take : Current → State → State) : answerFrame station kind payload check take s = s := by
  simp [answerFrame, h]

/-- A late answer and an answer of another station have no effect (R130, R142). -/
theorem exec_answer_late {s : State} {i : Instr} {station : Byte} (hi : i.answerFrom = some station) (h : s.awaiting station = none) :
    exec i s = .next s := by
  cases i <;> simp only [Instr.answerFrom, Option.some.injEq, reduceCtorEq] at hi
  all_goals subst hi; exact congrArg Host.Outcome.next (answerFrame_late h _ _ _ _)

theorem operationDue_eq_none {s : State} {b : Bay} (h : s.expires ((s.bay b).deadline.map (·.due)) = false) (group : Bool) :
    s.operationDue b group = none := by
  unfold State.operationDue
  rcases hd : (s.bay b).deadline with _ | d
  · rfl
  · rw [hd] at h
    exact if_neg fun k => Bool.false_ne_true (h.symm.trans k.2)

theorem waitDue_eq_none {s : State} {b : Bay} (h : s.expires ((s.head b).bind (·.wait)) = false) : s.waitDue b = none := by
  unfold State.waitDue
  rcases hr : s.head b with _ | r
  · rfl
  · rw [hr] at h
    simpa [Option.filter] using h

theorem windowDue_eq_none {s : State} (h : s.expires (s.bus.current.bind (·.answerBy)) = false) : s.windowDue = none := by
  unfold State.windowDue
  rcases hc : s.bus.current with _ | c
  · rfl
  · rw [hc] at h
    simpa [Option.filter] using h

theorem resendDue_eq_false {s : State} (h : s.expires (s.bus.current.bind (·.resendAt)) = false) : s.resendDue = false := by
  unfold State.resendDue
  rcases hc : s.bus.current with _ | c
  · rfl
  · rw [hc] at h
    simp [show s.expires c.resendAt = false from h]

/-! ### An event that only puts frames on the bay bus -/

/-- The state a part's own event begins in keeps what it says of a part where nothing stands. -/
theorem begin_unengaged {s : State} (h : s.Unengaged) : s.begin.Unengaged :=
  ⟨h.urgent, h.normal, h.waiting, h.admission, h.flag⟩

/-- The answer to a station frame leaves nothing standing either. -/
theorem answerStation_unengaged {s : State} (h : s.Unengaged) (station kind : Byte) (p : List Byte) :
    (answerStation station kind p s).Unengaged :=
  ⟨h.urgent, h.normal, h.waiting, h.admission, h.flag⟩

/-- On a part at rest a frame that is not taken is answered and does nothing else. -/
theorem answerStation_sends {s : State} (h : s.Resting) (station kind : Byte) (p : List Byte) :
    conclude s.begin (answerStation station kind p s.begin) = s.sends [{ destination := station, kind := kind, payload := p }] :=
  conclude_unengaged _ _ (answerStation_unengaged (begin_unengaged h.toUnengaged) station kind p) h.survey

/-! ### Station frames -/

theorem stationFrame_busy {s : State} (h : s.bus.transaction ≠ .free) (f : StationFrame) (take : Option (State → State)) :
    stationFrame f take s = s := if_pos h

theorem stationFrame_badCheck {s : State} (h : s.bus.transaction = .free) {f : StationFrame}
    (hf : f.check ≠ stationCheck f.initiator f.kind f.payload) (take : Option (State → State)) :
    stationFrame f take s = conclude s.begin (answerStation f.initiator 0x41 [1] s.begin) := by
  simp [stationFrame, h, hf, Config.kindNak]

theorem stationFrame_malformed {s : State} (h : s.bus.transaction = .free) {f : StationFrame}
    (hf : f.check = stationCheck f.initiator f.kind f.payload) :
    stationFrame f none s = conclude s.begin (answerStation f.initiator 0x41 [3, 0] s.begin) := by
  simp [stationFrame, h, hf, Config.kindNak]

theorem stationFrame_taken {s : State} (h : s.bus.transaction = .free) {f : StationFrame}
    (hf : f.check = stationCheck f.initiator f.kind f.payload) (g : State → State) :
    stationFrame f (some g) s = conclude s.begin (g (answerStation f.initiator 0x40 [] s.begin)) := by
  simp [stationFrame, h, hf, Config.kindAck]

/-- What a command that is a station frame hands over. -/
def takenBy : Instr → Option (State → State)
  | .done f => ofKind Config.kindDone f (doneTaken f)
  | .fault f => ofKind Config.kindFault f (faultTaken f)
  | .samples f => ofKind Config.kindSamples f (samplesTaken f)
  | .presenceInserted a p c | .presenceRemoved a p c => presenceTaken (presenceFrame a p c)
  | _ => none

theorem exec_station {c : Instr} {f : StationFrame} (h : c.station = some f) (s : State) :
    exec c s = .next (stationFrame f (takenBy c) s) := by
  cases c <;> cases h <;> rfl

theorem ofKind_unknown {row : Byte} {f : StationFrame} (h : f.kind ≠ row) (take : Option (State → State)) : ofKind row f take = none :=
  if_neg h

theorem doneTaken_malformed {f : StationFrame} (h : bayAt f.initiator = none ∨ reportOf f.payload = none) : doneTaken f = none := by
  unfold doneTaken
  split
  · simp_all
  · rfl

theorem faultTaken_malformed {f : StationFrame} (h : bayAt f.initiator = none ∨ f.payload.length ≠ 1 ∨ f.payload = [0]) :
    faultTaken f = none := by
  unfold faultTaken
  split
  · simp_all
  · rfl

theorem presenceTaken_malformed {f : StationFrame} (h : bayAt f.initiator = none ∨ (f.payload ≠ [1] ∧ f.payload ≠ [2])) :
    presenceTaken f = none := by
  unfold presenceTaken
  split
  · simp_all
  · rfl

theorem samplesTaken_malformed {f : StationFrame} (h : sensorAt f.initiator = none ∨ sampleFrameOf f.payload = none) :
    samplesTaken f = none := by
  unfold samplesTaken
  split
  · simp_all
  · rfl

theorem ofKind_none {row : Byte} {f : StationFrame} {take : Option (State → State)} (h : take = none) : ofKind row f take = none := by
  simp [ofKind, h]

/-- A frame of an unknown kind hands nothing over. -/
theorem taken_unknown {c : Instr} {f : StationFrame} (h : c.station = some f)
    (k : f.kind ∉ ([0x30, 0x31, 0x32, 0x33, 0x40, 0x41] : List Byte)) : (takenBy c) = none := by
  simp only [List.mem_cons, List.not_mem_nil, or_false, not_or] at k
  obtain ⟨h30, h31, h32, h33, -⟩ := k
  cases c <;> cases h
  case done => exact ofKind_unknown h30 _
  case fault => exact ofKind_unknown h31 _
  case samples => exact ofKind_unknown h33 _
  all_goals exact absurd rfl h32

/-! ### The receiver -/

theorem dropFrame_hunt (s : State) : dropFrame (hunt s) = s.dropped := rfl

theorem arrive_dropped {s : State} {p : List Byte} (h : s.link.resetPending = true ∨ s.placeFree = false ∨ 64 < p.length)
    (k : Option FrameKind) (hd : Header) : arrive k hd p s = s.dropped := by
  unfold arrive
  by_cases hl : Config.maxPayload < p.length
  · rw [if_pos hl, dropFrame_hunt]
  · have hl' : ¬ 64 < p.length := hl
    have h1 : ((hunt s).link.resetPending || !(hunt s).placeFree) = true := by
      show (s.link.resetPending || !s.placeFree) = true
      rcases h with h | h | h
      · simp [h]
      · simp [h]
      · exact absurd h hl'
    rw [if_neg hl, passedFrame, if_pos h1, dropFrame_hunt]

/-- The value of two bytes, low byte first. -/
theorem leNat_pair (a b : Byte) : leNat [a, b] = a.toNat + 256 * b.toNat := by simp [leNat]

theorem leNat_pair_lt (a b : Byte) : leNat [a, b] < 65536 := by rw [leNat_pair]; omega

/-- Two bytes are the CRC bytes of a body when their value is its CRC (R184). -/
theorem crcBytes_iff (a b : Byte) (body : List Byte) : [a, b] = crcBytes body ↔ leNat [a, b] = (crc16 body).toNat := by
  have hlt := (crc16 body).isLt
  rw [crcBytes, word2, leNat_pair]
  simp only [leBytes, List.cons.injEq, and_true, ← BitVec.toNat_inj, BitVec.toNat_ofNat]
  omega

/-- The last byte of a frame: `body` are the bytes between the start code and the CRC (R145). -/
theorem finishFrame_eq (body : List Byte) (lo x : Byte) (s : State) :
    finishFrame (body ++ [lo, x]) s =
      if [lo, x] = crcBytes body then
        passedFrame (frameKindOf (body.getD 3 0)) { target := body.getD 1 0, source := body.getD 2 0, tag := body.getD 4 0 }
          (body.drop 5) (hunt s)
      else s.dropped := by
  have hn : (body ++ [lo, x]).length - 2 = body.length := by simp
  unfold finishFrame
  simp only [hn, List.take_left, List.drop_left, ← crcBytes_iff]
  rfl

/-- A byte that follows the length byte of a frame (R145). -/
theorem receiveByte_body {s : State} {len : Byte} {rest : List Byte} (h : s.link.rx = .inFrame (len :: rest)) (x : Byte) :
    receiveByte x s =
      if rest.length + 2 = len.toNat + 7 then finishFrame (len :: rest ++ [x]) s else growFrame (len :: rest ++ [x]) s := by
  simp [receiveByte, h]

end Sys2Proof.Machine

namespace Sys2Proof.Proofs

open Sys2Proof.Machine

/-- Settles O41: each guard of an expiry is false, and an answer finds no attempt that awaits it. -/
theorem commandsThatAreNotDueDoNothing : Obligations.CommandsThatAreNotDueDoNothing := by
  intro s
  refine ⟨fun i station hi h => exec_answer_late hi (awaiting_eq_none h), fun h => ?_, fun b h => ⟨?_, ?_⟩, fun b h => ?_, fun h => ?_,
    fun i => ⟨fun h => ?_, fun h => ?_, fun h => ?_⟩, fun h => ?_, fun h => ?_, fun h => ?_⟩
  all_goals refine congrArg Host.Outcome.next ?_
  · exact if_neg (by simp [h])
  · rw [operationDue_eq_none h]
  · rw [operationDue_eq_none h]
  · rw [waitDue_eq_none h]
  · exact if_neg (by simp [h])
  · exact if_neg (ne_true_of_eq_false h)
  · exact if_neg (ne_true_of_eq_false h)
  · exact if_neg (ne_true_of_eq_false h)
  · rw [windowDue_eq_none h]
  · exact if_neg (by simp [resendDue_eq_false h])
  · exact if_neg h

/-- Settles O46: each expiry written out, on a part where nothing follows it. -/
theorem staggerDebounceParkEndAndResend : Obligations.StaggerDebounceParkEndAndResend := by
  refine ⟨fun s hr h => ?_, fun s i h => ?_, fun s hu hs hc ht => ?_, fun s c hc h ht => ?_⟩
  all_goals refine congrArg Host.Outcome.next ?_
  · have hq : (s.begin.updAdm fun a => { a with staggerDue := none }).Unengaged :=
      ⟨hr.urgent, hr.normal, hr.waiting, hr.admission, hr.flag⟩
    have he : openStagger s.begin = s.begin.updAdm fun a => { a with staggerDue := none } := by
      rw [openStagger, settleForced, evaluateBudget_of_flag _ hq.flag, examine_nil _ hq.admission]
    rw [if_pos h, partEvent, he, conclude_unengaged _ _ hq hr.survey]
    rfl
  · rw [if_pos h]; rfl
  · have hq : (s.begin.updBus fun u => { u with transaction := .free }).Unengaged :=
      ⟨hu.urgent, hu.normal, hu.waiting, hu.admission, hu.flag⟩
    rw [if_pos ht, partEvent, conclude_unengaged _ _ hq hs]
    rfl
  · have hd : s.resendDue = true := by simp [State.resendDue, hc, h, ht]
    rw [if_pos hd]
    simp [sendAttempt, State.begin, State.updBus, hc, State.after, Config.answerWindowMs]

/-- Settles O60: by the form of the frame, what it hands over is none, and the answer is sent by the bus of a part at rest. -/
theorem stationFramesNotTaken : Obligations.StationFramesNotTaken := by
  intro s c f hf
  rw [exec_station hf]
  refine ⟨fun h => by rw [stationFrame_busy h], fun hr h => by rw [stationFrame_badCheck hr.free h, answerStation_sends hr],
    fun hr h hk => ?_⟩
  have ht : (takenBy c) = none := by
    rcases hk with hk | ⟨rfl, hk⟩ | ⟨rfl, hk⟩ | ⟨hc, hk⟩ | ⟨rfl, hk⟩
    · exact taken_unknown hf hk
    · exact ofKind_none (doneTaken_malformed hk)
    · exact ofKind_none (faultTaken_malformed hk)
    · rcases hc with rfl | rfl <;> exact presenceTaken_malformed hk
    · exact ofKind_none (samplesTaken_malformed hk)
  rw [ht, stationFrame_malformed hr.free h, answerStation_sends hr]

/-- Settles O31: the receiver by its states, and what makes a whole frame be dropped. -/
theorem framesAreReceivedOrDropped : Obligations.FramesAreReceivedOrDropped := by
  refine ⟨fun s _ => rfl, fun s h => ?_, fun s h => ?_, fun s c k h p hf hd => ?_, fun s x hx hn => ?_, fun s hx => ?_,
    fun s x hx hl => ?_, fun s x hx hl => ?_, fun s x len rest hx hn => ?_, fun s x len body lo hx hn hc => ?_,
    fun s c kind h p lo x hf hl hx hc => ?_⟩
  · exact congrArg Host.Outcome.next (if_pos h)
  · exact congrArg Host.Outcome.next (if_neg (by simp [h]))
  · rw [exec_frame hf, arrive_dropped hd]
  · exact congrArg Host.Outcome.next (by simp only [receiveByte, hx]; exact if_neg hn)
  · refine congrArg Host.Outcome.next ?_
    simp only [receiveByte, hx, Config.startCode, if_true]
    rfl
  · refine congrArg Host.Outcome.next ?_
    simp only [receiveByte, hx]
    exact if_pos hl
  · refine congrArg Host.Outcome.next ?_
    simp only [receiveByte, hx]
    exact if_neg (Nat.not_lt.mpr hl)
  · refine congrArg Host.Outcome.next ?_
    rw [receiveByte_body hx, if_neg hn]
    rfl
  · refine congrArg Host.Outcome.next ?_
    have hb : len :: (body ++ [lo]) ++ [x] = (len :: body) ++ [lo, x] := by simp
    rw [receiveByte_body (rest := body ++ [lo]) hx, if_pos (by simp [hn]), hb, finishFrame_eq, if_neg hc]
  · have hb : byte p.length :: ([h.target, h.source, kind, h.tag] ++ p ++ [lo]) ++ [x]
        = ([byte p.length, h.target, h.source, kind, h.tag] ++ p) ++ [lo, x] := by simp
    have hn : ([h.target, h.source, kind, h.tag] ++ p ++ [lo]).length + 2 = (byte p.length).toNat + 7 := by
      simp [byte]; omega
    rw [exec_frame hf]
    refine congrArg Host.Outcome.next ?_
    rw [receiveByte_body (rest := [h.target, h.source, kind, h.tag] ++ p ++ [lo]) hx, if_pos hn, hb, finishFrame_eq, if_pos hc, arrive, if_neg (by simpa [Config.maxPayload] using hl)]
    rfl

end Sys2Proof.Proofs
end

section
/-! PROOFS. The transmit arbiter, and the soft reset at the end of a transmission. -/

namespace Sys2Proof.Machine

set_option Elab.async false

/-- What the arbiter leaves of the port and the notices, by what waits for a free transmitter (R148). -/
theorem close_free {s : State} (h : s.link.tx = none) :
    match s.link.replies, s.notices.queue with
    | r :: rest, _ => (close s).link = { s.link with tx := some (.reply r), replies := rest } ∧ (close s).notices = s.notices
    | [], n :: rest => (close s).link = { s.link with tx := some (.notice n) } ∧ (close s).notices = { s.notices with queue := rest }
    | [], [] => (close s).link = { s.link with tx := none } ∧ (close s).notices = s.notices := by
  unfold close transmit
  rcases hr : s.link.replies with _ | ⟨r, rest⟩
  · rcases hn : s.notices.queue with _ | ⟨n, rest⟩ <;> simp only [h]
    · exact ⟨by rw [← h]; rfl, rfl⟩
    · exact ⟨rfl, rfl⟩
  · simp only [h]
    exact ⟨rfl, rfl⟩

/-- The part as a transmission ends: the transmitter is free (R148). -/
def State.released (s : State) : State := s.begin.updLink fun l => { l with tx := none }

/-- A transmission that ends without the reset gives the arbiter its choice (R148). -/
theorem endTransmission_plain {s : State} {f : TxFrame} (h : s.link.tx = some f)
    (hn : s.link.resetPending = false ∨ (∃ n, f = .notice n) ∨ s.link.replies ≠ []) : endTransmission s = close s.released := by
  unfold endTransmission
  simp only [h]
  cases f with
  | notice n => rfl
  | reply r =>
    have hr : ((s.begin.updLink fun l => { l with tx := none }).link.resetPending
        && (s.begin.updLink fun l => { l with tx := none }).link.replies.isEmpty) = false := by
      show (s.link.resetPending && s.link.replies.isEmpty) = false
      rcases hn with hn | ⟨n, hn⟩ | hn
      · simp [hn]
      · exact absurd hn TxFrame.noConfusion
      · simp [hn]
    exact congrArg close (if_neg (ne_true_of_eq_false hr))

theorem endTransmission_reset {s : State} {r : Reply} (h : s.link.tx = some (.reply r)) (hp : s.link.resetPending = true)
    (hr : s.link.replies = []) : endTransmission s = close (softReset s.released) := by
  unfold endTransmission
  simp only [h]
  exact congrArg close (if_pos (by simp [State.begin, State.updLink, hp, hr]))

/-- The First Fault Record, the port, the groups and the survey after a soft reset (R24, R156, R173). -/
theorem softReset_rest_cleared (s : State) :
    (softReset s).ffr = none ∧ (softReset s).link = { s.link with resetPending := false }
      ∧ (softReset s).groups = Vector.replicate 8 none
      ∧ (softReset s).survey = { running := true, settle := some (s.after Config.settleMs) } := by
  unfold softReset evaluateBudget
  dsimp only
  split <;> exact ⟨rfl, rfl, rfl, rfl⟩

/-- The Admission Unit after a soft reset (R58, R60, R75). -/
theorem softReset_adm (s : State) :
    (softReset s).adm = { s.adm with
      effLimit := effectiveLimit s.adm.limit s.adm.margin, committed := sumReservations s.softBays, queue := [], lastSpin := none
      staggerDue := none
      overBudget := decide (effectiveLimit s.adm.limit s.adm.margin < sumReservations s.softBays) } := by
  unfold softReset
  rw [evaluateBudget_adm]

theorem softReset_bays (s : State) : (softReset s).bays = s.softBays := by
  unfold softReset evaluateBudget
  dsimp only
  split <;> rfl

/-- The Notice Queue after a soft reset holds the entering BUDGET notice, where it is routed and the part over its budget (R72, R180). -/
theorem softReset_notices (s : State) :
    (softReset s).notices.routing = s.notices.routing ∧ (softReset s).notices.dropped = false
      ∧ (softReset s).notices.queue = if (softReset s).adm.overBudget && s.notices.routing[7] then
          [.budget true (softReset s).adm.committed (softReset s).adm.effLimit s.now] else [] := by
  rw [softReset_adm]
  unfold softReset evaluateBudget
  dsimp only
  by_cases ho : effectiveLimit s.adm.limit s.adm.margin < sumReservations s.softBays
  · rw [if_neg (by simp [ho])]
    by_cases hr : s.notices.routing[7] = true
    · have hn := (hand_new (q := { s.notices with queue := [], dropped := false })
        (n := .budget true (sumReservations s.softBays) (effectiveLimit s.adm.limit s.adm.margin) s.now) hr
        fun m hm => absurd hm List.not_mem_nil).1 (Nat.zero_lt_succ 31)
      simp only [ho, decide_true, postNotice_eq, State.updAdm, hn, hr, Bool.and_true, if_true]
      simp
    · have hn := hand_unrouted (q := { s.notices with queue := [], dropped := false })
        (n := .budget true (sumReservations s.softBays) (effectiveLimit s.adm.limit s.adm.margin) s.now) (Bool.eq_false_iff.mpr hr)
      simp only [ho, decide_true, postNotice_eq, State.updAdm, hn, hr]
      simp
  · rw [if_pos (by simp [ho])]
    simp [ho]

/-- The bus after a soft reset: the current exchange is disregarded, and gone in a resend gap (R144). -/
theorem softReset_current (u : BusController) :
    (∀ c, u.current = some c → u.softReset.current = if c.resendAt.isSome then none else some { c with disregarded := true })
      ∧ (u.current = none → u.softReset.current = none) := by
  refine ⟨fun c hc => ?_, fun hc => by simp [BusController.softReset, hc]⟩
  rcases hr : c.resendAt with _ | d <;> simp [BusController.softReset, hc, Option.filter, hr]

end Sys2Proof.Machine

namespace Sys2Proof.Proofs

open Sys2Proof.Machine

/-- Settles O4: the arbiter by what waits, and the fields of the soft reset. -/
theorem transmissionEndTakesTheNextFrameOrResets : Obligations.TransmissionEndTakesTheNextFrameOrResets := by
  refine ⟨fun s h => ?_, fun s f h hn => ?_, fun s r h hp hr => ?_⟩
  · refine congrArg Host.Outcome.next ?_
    simp only [endTransmission, h]
  · refine ⟨close s.released, congrArg Host.Outcome.next (endTransmission_plain h hn), ?_, ?_, close_line _,
      close_free (s := s.released) rfl⟩
    · rw [State.AnswersOnly, close_touches s.released]; rfl
    · rw [close_touches]; rfl
  · refine ⟨softReset s.released, congrArg Host.Outcome.next (endTransmission_reset h hp hr), ?_⟩
    obtain ⟨ffr, link, groups, survey⟩ := softReset_rest_cleared s.released
    obtain ⟨routing, dropped, queue⟩ := softReset_notices s.released
    obtain ⟨current, noCurrent⟩ := softReset_current s.bus
    have hp := softReset_prot s.released
    have hw := evaluateBudget_work
    refine ⟨(softReset_clock _).1, (hw _).timing, (hw _).thresholds, (hw _).windows, (hw _).sources, by rw [hp]; rfl, by rw [hp]; rfl,
      routing, by rw [softReset_adm]; rfl, by rw [softReset_adm]; rfl, by rw [softReset_adm]; rfl, by rw [link]; rfl,
      fun b => softReset_bay _ b, by rw [softReset_adm, softReset_bays], by rw [softReset_adm], by rw [softReset_adm],
      by rw [softReset_adm], softReset_flag _, dropped, queue, by rw [survey]; rfl, fun i => ?_, fun i => softReset_copy _ i,
      by rw [hp]; rfl, fun z => ?_, softReset_latch _, ?_, ffr, by rw [softReset_bus]; rfl, by rw [softReset_bus]; rfl,
      by rw [softReset_bus]; exact current, by rw [softReset_bus]; exact noCurrent, fun g => ?_⟩
    · have hd : s.released.after (Config.settleMs + s.thresholds.blindTime) = s.now + 200 + BitVec.ofNat 32 s.thresholds.blindTime := by
        rw [State.after, BitVec.ofNat_add, ← BitVec.add_assoc]; rfl
      rw [softReset_sensor, show s.released.thresholds = s.thresholds from rfl, hd]
      rfl
    · rw [hp]
      exact reset_zone z
    · rw [State.caseLevel, hp]
      show ZoneLevels.case { sensor := Vector.replicate 4 0, all := 0 } = 0
      decide
    · rw [groups]; exact Vector.getElem_replicate _

end Sys2Proof.Proofs
end

section
/-! PROOFS. Arrivals that pass or fail the checks of acceptance, and management requests that are answered and change little. -/

namespace Sys2Proof.Machine

set_option Elab.async false

/-! ### Bytes and folds -/

theorem byte_toNat {n : Nat} (h : n < 256) : (byte n).toNat = n := by simp [byte, Nat.mod_eq_of_lt h]

theorem byte_fin_toNat {k : Nat} (i : Fin k) (h : k ≤ 256) : (byte i.val).toNat = i.val := byte_toNat (Nat.lt_of_lt_of_le i.isLt h)

theorem allBays_nodup : allBays.Nodup := by decide

/-- The same change at every bay of a list. -/
theorem foldl_updBay (f : BayRecord → BayRecord) (l : List Bay) (s : State) (nodup : l.Nodup) :
    (l.foldl (fun s b => s.updBay b f) s) = { s with bays := (l.foldl (fun s b => s.updBay b f) s).bays }
      ∧ ∀ c, (l.foldl (fun s b => s.updBay b f) s).bay c = if c ∈ l then f (s.bay c) else s.bay c := by
  induction l generalizing s with
  | nil => exact ⟨rfl, fun c => rfl⟩
  | cons b l ih =>
    obtain ⟨hb, nodup⟩ := List.nodup_cons.mp nodup
    obtain ⟨rest, bays⟩ := ih (s.updBay b f) nodup
    refine ⟨rest, fun c => ?_⟩
    rw [List.foldl_cons, bays]
    by_cases hc : c = b
    · subst hc
      simp [hb]
    · simp [hc, updBay_bay_other s f hc]

/-- The same change at every bay. -/
theorem foldl_updBay_allBays (f : BayRecord → BayRecord) (s : State) :
    allBays.foldl (fun s b => s.updBay b f) s = { s with bays := s.bays.map f } := by
  obtain ⟨rest, bays⟩ := foldl_updBay f allBays s allBays_nodup
  generalize allBays.foldl (fun s b => s.updBay b f) s = t at rest bays ⊢
  have e : t.bays = s.bays.map f := Vector.ext fun i hi => by
    have hb := bays ⟨i, hi⟩
    rw [if_pos (mem_allBays _)] at hb
    rw [Vector.getElem_map]
    exact hb
  rw [rest, e]

/-! ### Arrivals -/

/-- A frame that fails check 2 (R28). -/
theorem acceptFrameAt_bad {k : Option FrameKind} {h : Header} {p : List Byte} {s : State} {e : Nat}
    (hs : s.survey.running = false ∨ targetOf h.target = some .part) (he : checkForm k h p = .error e) :
    acceptFrameAt k h p s.heard =
      s.answered { tag := h.tag, completion := { code := .badRequest, secondary := e }, payload := []
                   echo := if e = badSource then some h.source else none } := by
  have h1 : (s.heard.survey.running && !managementClass h) = false := by
    show (s.survey.running && !managementClass h) = false
    rcases hs with hs | hs <;> simp [managementClass, hs]
  rw [acceptFrameAt, if_neg (ne_true_of_eq_false h1), he]
  exact close_placeReply_heard _ s

/-- The form of a request that passes check 2 (R26, R28). -/
theorem checkForm_ok {k : FrameKind} {h : Header} {p : List Byte} {t : ReqTarget} {src : Source} (ht : targetOf h.target = some t)
    (hs : sourceOf h.source = some src) (ha : k.allows t = true) (hp : k.lengthFault p = none) :
    checkForm (some k) h p = .ok { kind := k, target := t, source := src } := by
  simp [checkForm, ht, hs, Option.filter, ha, hp]

/-- A request that passes checks 1 and 2 is served (R27). -/
theorem exec_served {c : Instr} {k : FrameKind} {h : Header} {p : List Byte} {s : State} {t : ReqTarget} {src : Source}
    (hf : c.frame = some (some k, h, p)) (hs : s.Hears h t src) (hl : p.length ≤ 64) (hr : s.survey.running = false ∨ t = .part)
    (ha : k.allows t = true) (hp : k.lengthFault p = none) :
    exec c s = .next (serveRequest { kind := k, target := t, source := src } h p s.heard) := by
  have h1 : (s.heard.survey.running && !managementClass h) = false := by
    show (s.survey.running && !managementClass h) = false
    rcases hr with hr | hr <;> simp [managementClass, hr, hs.target]
  rw [exec_frame hf, arrive_heard _ _ _ _ hl hs.noReset hs.place, acceptFrameAt, if_neg (ne_true_of_eq_false h1),
    checkForm_ok hs.target hs.source ha hp]

/-- A frame that fails check 2, as a command (R28). -/
theorem exec_bad {c : Instr} {k : Option FrameKind} {h : Header} {p : List Byte} {s : State} {e : Nat} (hf : c.frame = some (k, h, p))
    (hr : s.link.resetPending = false) (hp : s.placeFree = true) (hl : p.length ≤ 64)
    (hs : s.survey.running = false ∨ targetOf h.target = some .part) (he : checkForm k h p = .error e) :
    exec c s = .next (s.answered
      { tag := h.tag, completion := { code := .badRequest, secondary := e }, payload := []
        echo := if e = badSource then some h.source else none }) := by
  rw [exec_frame hf, arrive_heard _ _ _ _ hl hr hp, acceptFrameAt_bad hs he]

/-! ### Management requests -/

/-- A management request that changes nothing is answered, whichever way its event ends. -/
theorem serveRequest_answered {s : State} {m : MgmtKind} {src : Source} {h : Header} {p : List Byte} {r : Reply}
    (hs : s.Resting ∨ m.quiet p = true) (e : serveManagement m src h.tag p s.heard = placeReply r s.heard) :
    serveRequest { kind := .management m, target := .part, source := src } h p s.heard = s.answered r := by
  simp only [serveRequest, e]
  rcases hq : m.quiet p with _ | _
  · have hs : s.Resting := hs.resolve_right (by simp [hq])
    have hu : (placeReply r s.heard).Unengaged := ⟨hs.urgent, hs.normal, hs.waiting, hs.admission, hs.flag⟩
    rw [if_neg Bool.false_ne_true, conclude_unengaged _ _ hu hs.survey, close_placeReply_heard]
  · rw [if_pos rfl, close_placeReply_heard]

/-- A request of a manager in good form is served (R149). -/
theorem exec_managed {c : Instr} {m : MgmtKind} {h : Header} {p : List Byte} {s : State} {src : Source}
    (hf : c.frame = some (some (.management m), h, p)) (hs : s.Hears h .part src) (hl : p.length ≤ 64) (form : mgmtForm m p = none) :
    exec c s = .next (serveRequest { kind := .management m, target := .part, source := src } h p s.heard) :=
  exec_served hf hs hl (.inr rfl) rfl form

/-- A quiet request of a manager ends at the arbiter and the alert line. -/
theorem exec_managed_quiet {c : Instr} {m : MgmtKind} {h : Header} {p : List Byte} {s u : State} {src : Source} {r : Reply}
    (hf : c.frame = some (some (.management m), h, p)) (hs : s.HearsManager h src) (hl : p.length ≤ 64) (form : mgmtForm m p = none)
    (quiet : m.quiet p = true) (e : serveManagement m src h.tag p s.heard = placeReply r u.heard) :
    exec c s = .next (u.answered r) := by
  rw [exec_managed hf hs.toHears hl form]
  simp only [serveRequest, quiet, if_true, e, close_placeReply_heard]

theorem serveManagement_denied {m : MgmtKind} {src : Source} {tag : Byte} {p : List Byte} {s : State} (h : s.manages src = false) :
    serveManagement m src tag p s = placeReply (replyTo tag { code := .denied, secondary := 0 } []) s := if_pos h

section Manager

variable {s : State} {src : Source} (manager : s.manages src = true) (tag : Byte) (p : List Byte)

include manager

theorem serveManagement_tableWrite : serveManagement .tableWrite src tag p s = serveTableWrite tag p s :=
  if_neg (by simp [manager])

theorem serveManagement_tableRead : serveManagement .tableRead src tag p s = serveTableRead tag p s :=
  if_neg (by simp [manager])

theorem serveManagement_recordRead : serveManagement .recordRead src tag p s = serveRecordRead tag p s :=
  if_neg (by simp [manager])

theorem serveManagement_supplySet : serveManagement .supplySet src tag p s = serveSupplySet tag p s :=
  if_neg (by simp [manager])

theorem serveManagement_faultRelease : serveManagement .faultRelease src tag p s = serveFaultRelease tag s :=
  if_neg (by simp [manager])

theorem serveManagement_counterClear : serveManagement .counterClear src tag p s = serveCounterClear tag p s :=
  if_neg (by simp [manager])

theorem serveManagement_reservationsClear : serveManagement .reservationsClear src tag p s = serveReservationsClear tag s :=
  if_neg (by simp [manager])

theorem serveManagement_motionResume : serveManagement .motionResume src tag p s = serveMotionResume tag s :=
  if_neg (by simp [manager])

theorem serveManagement_softReset : serveManagement .softReset src tag p s = serveSoftReset tag s :=
  if_neg (by simp [manager])

end Manager

/-! ### Tables and records -/

theorem serveTableWrite_entry {id i : Byte} (h : i.toNat < tableEntries id) (tag : Byte) (e : List Byte) (s : State) :
    serveTableWrite tag (id :: i :: e) s = writeEntry tag id i e s := if_neg (Nat.not_le.mpr h)

theorem serveTableWrite_index {p : List Byte} (h : tableEntries (p.getD 0 0) ≤ (p.getD 1 0).toNat) (tag : Byte) (s : State) :
    serveTableWrite tag p s = placeReply (replyTo tag { code := .badRequest, secondary := 6 } []) s := by
  have e : p.headD 0 = p.getD 0 0 := by cases p <;> rfl
  rw [← e] at h
  exact if_pos h

theorem serveTableRead_index {p : List Byte} (h : tableEntries (p.getD 0 0) ≤ (p.getD 1 0).toNat) (tag : Byte) (s : State) :
    serveTableRead tag p s = placeReply (replyTo tag { code := .badRequest, secondary := 6 } []) s := by
  have e : p.headD 0 = p.getD 0 0 := by cases p <;> rfl
  rw [← e] at h
  exact if_pos h

theorem serveRecordRead_index {p : List Byte} (h : recordCount (p.getD 0 0) ≤ (p.getD 1 0).toNat) (tag : Byte) (s : State) :
    serveRecordRead tag p s = placeReply (replyTo tag { code := .badRequest, secondary := 6 } []) s := by
  have e : p.headD 0 = p.getD 0 0 := by cases p <;> rfl
  rw [← e] at h
  exact if_pos h

theorem serveTableRead_entry {id i : Byte} (h : i.toNat < tableEntries id) (tag : Byte) (s : State) :
    serveTableRead tag [id, i] s = answerEntry tag id i s := if_neg (Nat.not_le.mpr h)

/-- A record read, but for what the read of the Case Status record clears (R153). -/
theorem serveRecordRead_record {id i : Byte} (h : i.toNat < recordCount id) (tag : Byte) (s : State) :
    serveRecordRead tag [id, i] s = clearAfterRead id (answerDone tag ([id, i] ++ s.record id i.toNat) s) := if_neg (Nat.not_le.mpr h)

theorem clearAfterRead_other {id : Byte} (h : id ≠ 0) (s : State) : clearAfterRead id s = s := if_neg h

/-- A table that has entries has a length (R150). -/
theorem tableLength_isSome {id : Byte} (h : tableEntries id ≠ 0) : (tableLength id).isSome = true := by
  revert id
  decide

theorem mgmtForm_tableRead {id i : Byte} (h : i.toNat < tableEntries id) : mgmtForm .tableRead [id, i] = none := by
  have hi : (tableLength id).isSome = true := tableLength_isSome (by omega)
  simp only [mgmtForm, List.length_cons, List.length_nil, List.headD_cons]
  simp [Option.isSome_iff_ne_none.mp hi]

theorem mgmtForm_recordRead {id i : Byte} (h : i.toNat < recordCount id) : mgmtForm .recordRead [id, i] = none := by
  have hi : recordCount id ≠ 0 := by omega
  simp [mgmtForm, hi]

/-- A record other than the Case Status is read and nothing changes (R153). -/
theorem exec_recordRead {c : Instr} {h : Header} {id i : Byte} {s : State} {src : Source} (hs : s.HearsManager h src)
    (hf : c.frame = some (some (.management .recordRead), h, [id, i])) (hi : i.toNat < recordCount id) (hid : id ≠ 0) :
    exec c s = .next (s.answered { tag := h.tag, completion := { code := .done, secondary := 0 },
                                   payload := [id, i] ++ s.record id i.toNat, echo := none }) := by
  refine exec_managed_quiet hf hs (by simp) (mgmtForm_recordRead hi) rfl ?_
  rw [serveManagement_recordRead (s := s.heard) hs.manager, serveRecordRead_record hi, clearAfterRead_other hid]
  rfl

theorem record_bay (s : State) (b : Bay) : s.record 1 (byte b.val).toNat = (s.bay b).bytes := by
  rw [byte_fin_toNat b (by decide)]
  exact dif_pos b.isLt

theorem record_sensor (s : State) (i : SensorId) : s.record 2 (byte i.val).toNat = s.sensors[i].bytes := by
  rw [byte_fin_toNat i (by decide)]
  exact dif_pos i.isLt

/-! ### Plain table writes -/

theorem mgmtForm_tableWrite {id i : Byte} {e : List Byte} (h : tableLength id = some e.length) :
    mgmtForm .tableWrite (id :: i :: e) = none := by
  simp only [mgmtForm, List.length_cons, List.headD_cons, h]
  rw [if_neg (by omega)]
  exact if_pos (by omega)

/-- A write of a plain table is stored and answered, and nothing else changes (R149, R150). -/
theorem exec_plainWrite {c : Instr} {h : Header} {id i : Byte} {e : List Byte} {s u : State} {src : Source} {r : Reply}
    (hs : s.HearsManager h src) (hf : c.frame = some (some (.management .tableWrite), h, id :: i :: e))
    (hl : tableLength id = some e.length) (hi : i.toNat < tableEntries id) (plain : 6 ≤ id.toNat ∧ id.toNat ≤ 9) (short : e.length ≤ 62)
    (hw : writeEntry h.tag id i e s.heard = placeReply r u.heard) : exec c s = .next (u.answered r) := by
  refine exec_managed_quiet hf hs (by simp only [List.length_cons]; omega) (mgmtForm_tableWrite hl) (by simp [MgmtKind.quiet, plain]) ?_
  rw [serveManagement_tableWrite (s := s.heard) hs.manager, serveTableWrite_entry hi, hw]

theorem windowFrom_length {e : List Byte} {w : Window} (h : windowFrom e = some w) : e.length = 5 := by
  unfold windowFrom at h
  split at h
  · rfl
  · cases h

section Writes

variable {x : Byte} (tag : Byte) (e : List Byte) (s : State)

theorem writeEntry_windows {i : Fin 8} {w : Window} (hx : x.toNat = i.val) (hw : windowFrom e = some w) :
    writeEntry tag 7 x e s =
      placeReply (replyTo tag (.plain .done) ([7, x] ++ w.bytes)) { s with windows := s.windows.set i w } := by
  have hn : x.toNat < 8 := hx ▸ i.isLt
  obtain rfl : i = ⟨x.toNat, hn⟩ := Fin.ext hx.symm
  have hw' : writeEntry tag 7 x e s = answerEntry tag 7 x { s with windows := s.windows.set x.toNat w } := by
    show (if h : x.toNat < 8 then _ else _) = _
    rw [dif_pos hn, hw]
  have hr : ({ s with windows := s.windows.set x.toNat w } : State).tableEntry 7 x.toNat = w.bytes := by
    show (if h : x.toNat < 8 then _ else _) = _
    rw [dif_pos hn]
    exact congrArg Window.bytes (Vector.getElem_set_self hn)
  rw [hw', answerEntry, hr]
  rfl

theorem writeEntry_routing {i : Fin 9} (hx : x.toNat = i.val) (y : Byte) :
    writeEntry tag 9 x [y] s =
      placeReply (replyTo tag (.plain .done) [9, x, yesNo (lenient y)])
        (s.updNotices fun q => { q with routing := q.routing.set i (lenient y) }) := by
  have hn : x.toNat < 9 := hx ▸ i.isLt
  obtain rfl : i = ⟨x.toNat, hn⟩ := Fin.ext hx.symm
  have hw : writeEntry tag 9 x [y] s
      = answerEntry tag 9 x (s.updNotices fun q => { q with routing := q.routing.set x.toNat (lenient y) }) := by
    show (if h : x.toNat < 9 then _ else _) = _
    rw [dif_pos hn]
    rfl
  have hr : (s.updNotices fun q => { q with routing := q.routing.set x.toNat (lenient y) }).tableEntry 9 x.toNat
      = [yesNo (lenient y)] := by
    show (if h : x.toNat < 9 then _ else _) = _
    rw [dif_pos hn]
    exact congrArg (fun b => [yesNo b]) (Vector.getElem_set_self hn)
  rw [hw, answerEntry, hr]
  rfl

theorem writeEntry_sources {i : Fin 8} (hx : x.toNat = i.val) (y : Byte) : writeEntry tag 8 x [y] s = writeSource tag 8 x i (lenient y) s := by
  have hn : x.toNat < 8 := hx ▸ i.isLt
  obtain rfl : i = ⟨x.toNat, hn⟩ := Fin.ext hx.symm
  exact dif_pos hn

theorem writeSource_last {i : Source} {flag : Bool} (h : (s.sources.set i flag).toList.any (·) = false) :
    writeSource tag 8 x i flag s = placeReply (replyTo tag { code := .refusedState, secondary := 0 } []) s := if_neg (by simp [h])

theorem writeSource_taken {i : Source} {flag : Bool} (hx : x.toNat = i.val) (h : (s.sources.set i flag).toList.any (·) = true) :
    writeSource tag 8 x i flag s =
      placeReply (replyTo tag (.plain .done) [8, x, yesNo flag]) { s with sources := s.sources.set i flag } := by
  have hn : x.toNat < 8 := hx ▸ i.isLt
  obtain rfl : i = ⟨x.toNat, hn⟩ := Fin.ext hx.symm
  have hr : ({ s with sources := s.sources.set x.toNat flag } : State).tableEntry 8 x.toNat = [yesNo flag] := by
    show (if h : x.toNat < 8 then _ else _) = _
    rw [dif_pos hn]
    exact congrArg (fun b => [yesNo b]) (Vector.getElem_set_self hn)
  rw [writeSource, if_pos h, answerEntry, hr]
  rfl

end Writes

/-- Some source keeps its manage flag (R161). -/
theorem any_flag (v : Vector Bool 8) : v.toList.any (·) = true ↔ ∃ j : Fin 8, v[j] = true := by
  rw [vector_any]

end Sys2Proof.Machine

namespace Sys2Proof.Proofs

open Sys2Proof.Machine

/-- Settles O37: each read by its table or record. -/
theorem readsAnswerAndChangeNothing : Obligations.ReadsAnswerAndChangeNothing := by
  intro s h src hs
  refine ⟨fun id i hi => ?_, ?_, fun b => ?_, fun i => ?_, ?_, ?_⟩
  · refine exec_managed_quiet rfl hs (by simp) (mgmtForm_tableRead hi) rfl ?_
    rw [serveManagement_tableRead (s := s.heard) hs.manager, serveTableRead_entry hi]
    rfl
  · refine exec_managed_quiet rfl hs (by simp) (mgmtForm_recordRead (by decide)) rfl ?_
    rw [serveManagement_recordRead (s := s.heard) hs.manager, serveRecordRead_record (by decide)]
    rfl
  · rw [← record_bay]
    exact exec_recordRead hs rfl (by rw [byte_fin_toNat b (by decide)]; exact b.isLt) (by decide)
  · rw [← record_sensor]
    exact exec_recordRead hs rfl (by rw [byte_fin_toNat i (by decide)]; exact i.isLt) (by decide)
  · exact exec_recordRead hs rfl (by decide) (by decide)
  · exact exec_recordRead hs rfl (by decide) (by decide)

/-- Settles O32: each write by its table; of the sources the last manager stays. -/
theorem plainTableWritesStoreAndAnswer : Obligations.PlainTableWritesStoreAndAnswer := by
  intro s h src hs
  have at8 (i : Fin 8) : (byte i.val).toNat = i.val := byte_fin_toNat i (by decide)
  have in8 (i : Fin 8) : (byte i.val).toNat < 8 := by rw [at8]; exact i.isLt
  have at9 (i : Fin 9) : (byte i.val).toNat = i.val := byte_fin_toNat i (by decide)
  refine ⟨fun e he => ?_, fun i e w hw => ?_, fun i x hx => ?_, fun i x hx => ?_, fun i x => ?_⟩
  · exact exec_plainWrite (u := { s with thresholds := thresholdsFrom e }) hs rfl (congrArg some he.symm) (by decide) (by decide) (by omega) rfl
  · exact exec_plainWrite (u := { s with windows := s.windows.set i w }) hs rfl (congrArg some (windowFrom_length hw).symm) (in8 i)
      (by decide) (by have := windowFrom_length hw; omega) (writeEntry_windows _ _ _ (at8 i) hw)
  · refine exec_plainWrite (u := { s with sources := s.sources.set i (lenient x) }) hs rfl rfl (in8 i) (by decide) (by simp) ?_
    rw [writeEntry_sources _ _ (at8 i)]
    exact writeSource_taken _ s.heard (at8 i) ((any_flag _).mpr hx)
  · refine exec_plainWrite (u := s) hs rfl rfl (in8 i) (by decide) (by simp) ?_
    rw [writeEntry_sources _ _ (at8 i)]
    refine writeSource_last _ s.heard (Bool.eq_false_iff.mpr fun ha => ?_)
    obtain ⟨j, hj⟩ := (any_flag _).mp ha
    exact Bool.false_ne_true ((hx j).symm.trans hj)
  · refine exec_plainWrite (u := s.updNotices fun q => { q with routing := q.routing.set i (lenient x) }) hs rfl rfl
      (by rw [at9]; exact i.isLt) (by decide) (by simp) ?_
    exact writeEntry_routing _ _ (at9 i) x

end Sys2Proof.Proofs
end

section
/-! PROOFS. The checks of management requests and of acceptance, and the requests to bays that are refused. -/

namespace Sys2Proof.Machine

set_option Elab.async false

/-! ### Values no rule takes (R149) -/

/-- The form of a management request fails with Length or Table alone (R149). -/
theorem mgmtForm_secondary {m : MgmtKind} {p : List Byte} {e : Nat} (h : mgmtForm m p = some e) : e = badLength ∨ e = badTable := by
  unfold mgmtForm at h
  dsimp only at h
  cases m <;> dsimp only at h
  case tableWrite =>
    split at h
    · exact .inl (Option.some.inj h).symm
    · split at h
      · exact .inr (Option.some.inj h).symm
      · split at h
        · cases h
        · exact .inl (Option.some.inj h).symm
  case tableRead =>
    split at h
    · exact .inl (Option.some.inj h).symm
    · split at h
      · exact .inr (Option.some.inj h).symm
      · cases h
  case recordRead =>
    split at h
    · exact .inl (Option.some.inj h).symm
    · split at h
      · exact .inr (Option.some.inj h).symm
      · cases h
  all_goals
    split at h
    · cases h
    · exact .inl (Option.some.inj h).symm

theorem zoneOf_none : ∀ y : Byte, 5 ≤ y.toNat → zoneOf y = none := by decide

theorem actionOf_none : ∀ x : Byte, 4 ≤ x.toNat → actionOf x = none := by decide

theorem rateOf_none : ∀ y : Byte, 4 ≤ y.toNat → rateOf y = none := by decide

theorem windowFrom_none {en sources base span perms : Byte} (h : 1 < en.toNat ∨ 31 < base.toNat ∨ 15 < perms.toNat) :
    windowFrom [en, sources, base, span, perms] = none := if_pos h

section BadValues

variable {i : Byte} (tag : Byte) (s : State)

theorem writeEntry_assignment_bad {x y : Byte} (hi : i.toNat < 24) (h : 8 ≤ x.toNat ∨ 5 ≤ y.toNat) :
    writeEntry tag 2 i [x, y] s = refuseValue tag s := by
  show (if h : i.toNat < 24 then _ else _) = _
  rw [dif_pos hi]
  by_cases hx : x.toNat < 8
  · simp [hx, zoneOf_none y (by omega)]
  · simp [hx]

theorem writeEntry_action_bad {x y z : Byte} (hi : i.toNat < 8) (h : 4 ≤ x.toNat) : writeEntry tag 4 i [x, y, z] s = refuseValue tag s := by
  show (if h : i.toNat < 8 then _ else _) = _
  rw [dif_pos hi]
  simp [actionOf_none x h]

theorem writeEntry_sensor_bad {x y : Byte} (hi : i.toNat < 4) (h : 4 ≤ y.toNat) : writeEntry tag 5 i [x, y] s = refuseValue tag s := by
  show (if h : i.toNat < 4 then _ else _) = _
  rw [dif_pos hi]
  simp [rateOf_none y h]

theorem writeEntry_windows_bad {e : List Byte} (hi : i.toNat < 8) (h : windowFrom e = none) :
    writeEntry tag 7 i e s = refuseValue tag s := by
  show (if h : i.toNat < 8 then _ else _) = _
  rw [dif_pos hi, h]

theorem serveCounterClear_bad {x : Byte} (h : 24 ≤ x.toNat) (h' : x.toNat < 255) : serveCounterClear tag [x] s = refuseValue tag s := by
  unfold serveCounterClear
  dsimp only [List.headD_cons]
  rw [dif_neg (Nat.not_lt.mpr h), if_neg (Nat.ne_of_lt h')]

end BadValues

/-- A table write whose content names a value no rule takes is answered Value (R149). -/
theorem exec_writeRefused {c : Instr} {h : Header} {id i : Byte} {e : List Byte} {s : State} {src : Source} (hs : s.HearsManager h src)
    (rest : s.Resting) (hf : c.frame = some (some (.management .tableWrite), h, id :: i :: e)) (hl : tableLength id = some e.length)
    (hi : i.toNat < tableEntries id) (short : e.length ≤ 62) (hw : writeEntry h.tag id i e s.heard = refuseValue h.tag s.heard) :
    exec c s = .next (s.answered { tag := h.tag, completion := { code := .badRequest, secondary := 7 }, payload := [], echo := none }) := by
  rw [exec_managed hf hs.toHears (by simp only [List.length_cons]; omega) (mgmtForm_tableWrite hl)]
  refine congrArg Host.Outcome.next (serveRequest_answered (.inl rest) ?_)
  rw [serveManagement_tableWrite (s := s.heard) hs.manager, serveTableWrite_entry hi, hw]
  rfl

/-! ### Requests to one bay -/

theorem command_frame (k : ReqKind) (h : Header) (p : List Byte) : (k.command h p).frame = some (some (.queued k), h, p) := by
  cases k <;> rfl

/-- A target that the kind does not allow (R26). -/
theorem allows_false {k : FrameKind} {t : ReqTarget}
    (h : ((∃ m, k = .management m) ∧ t ≠ .part) ∨ ((∀ m, k ≠ .management m) ∧ t = .part)
      ∨ ((k = .queued .status ∨ k = .queued .pass) ∧ ∀ b, t ≠ .bay b)) : k.allows t = false := by
  unfold FrameKind.allows
  split <;> simp_all

/-- A target that it does allow (R26). -/
theorem allows_true {k : FrameKind} {t : ReqTarget} (hm : (∃ m, k = .management m) ↔ t = .part)
    (hq : k = .queued .status ∨ k = .queued .pass → ∃ b, t = .bay b) : k.allows t = true := by
  unfold FrameKind.allows
  split <;> simp_all

theorem sourceOf_none {x : Byte} (h : 8 ≤ x.toNat) : sourceOf x = none := dif_neg (Nat.not_lt.mpr h)

/-- A payload out of the form of a request to bays (R28). -/
theorem lengthFault_bad {k : FrameKind} {p : List Byte} (hm : ∀ m, k ≠ .management m)
    (h : if k = .queued .pass then 32 < p.length else p ≠ []) : k.lengthFault p = some badLength := by
  unfold FrameKind.lengthFault
  split
  · exact absurd rfl (hm _)
  · rw [if_pos rfl] at h
    exact if_neg (Nat.not_le.mpr h)
  · rw [if_neg (by assumption)] at h
    exact if_neg (by simpa using h)

theorem allows_bay (k : ReqKind) (b : Bay) : (FrameKind.queued k).allows (.bay b) = true := by cases k <;> rfl

/-- The payload of a queued kind in its form (R28). -/
theorem lengthFault_none {k : ReqKind} {p : List Byte} (h : p = [] ∨ (k = .pass ∧ p.length ≤ 32)) :
    (FrameKind.queued k).lengthFault p = none := by
  rcases h with rfl | ⟨rfl, h⟩
  · cases k <;> rfl
  · exact if_pos h

theorem serveRequest_queued (k : ReqKind) (t : ReqTarget) (src : Source) (h : Header) (p : List Byte) (s : State) :
    serveRequest { kind := .queued k, target := t, source := src } h p s = conclude s (requestBays k src h.tag p t s) := rfl

theorem requestBays_bay (k : ReqKind) (src : Source) (tag : Byte) (p : List Byte) (b : Bay) (s : State) :
    requestBays k src tag p (.bay b) s = requestOne k src tag p b s := rfl

theorem fits_of_form {k : ReqKind} {p : List Byte} (h : p = [] ∨ (k = .pass ∧ p.length ≤ 32)) : p.length ≤ 64 := by
  rcases h with rfl | ⟨-, h⟩
  · exact Nat.zero_le _
  · omega

/-- A request of a queued kind to one bay that passes checks 1 and 2 (R27). -/
theorem exec_queued {k : ReqKind} {h : Header} {p : List Byte} {s : State} {b : Bay} {src : Source} (hs : s.Hears h (.bay b) src)
    (hr : s.survey.running = false) (hp : p = [] ∨ (k = .pass ∧ p.length ≤ 32)) :
    exec (k.command h p) s = .next (conclude s.heard (requestOne k src h.tag p b s.heard)) := by
  rw [exec_served (command_frame k h p) hs (fits_of_form hp) (.inl hr) (allows_bay k b) (lengthFault_none hp), serveRequest_queued,
    requestBays_bay]

theorem requestOne_refused {k : ReqKind} {src : Source} {b : Bay} {s : State} {c : Completion} (h : s.accessFailure k src b = some c)
    (tag : Byte) (p : List Byte) : requestOne k src tag p b s = placeReply (replyTo tag c []) s := by
  simp [requestOne, h]

theorem requestOne_cached {src : Source} {b : Bay} {s : State} {rep : Report} {age : Nat} (h : s.accessFailure .status src b = none)
    (hc : s.freshCache b = some (rep, age)) (tag : Byte) (p : List Byte) :
    requestOne .status src tag p b s = placeReply (replyTo tag (.plain .done) (cachePayload rep age)) s := by
  simp [requestOne, h, hc]

section Uncached

variable {k : ReqKind} {src : Source} {b : Bay} {s : State} (access : s.accessFailure k src b = none)
  (cache : k = .status → s.freshCache b = none) (tag : Byte) (p : List Byte)

include access cache

theorem requestOne_full (full : s.queueFull b = true) : requestOne k src tag p b s = placeReply (replyTo tag (.plain .queueFull) []) s := by
  have none : (if k = .status then s.freshCache b else none) = none := by split <;> simp_all
  simp only [requestOne, access, none, if_pos full]

theorem requestOne_accepted (full : s.queueFull b = false) :
    requestOne k src tag p b s = acceptRequest b (entryOf k src tag none p) s := by
  have none : (if k = .status then s.freshCache b else none) = none := by split <;> simp_all
  simp only [requestOne, access, none, if_neg (ne_true_of_eq_false full)]

end Uncached

/-- On a part at rest, a request that only places a reply leaves the state `answered`. -/
theorem conclude_placeReply_heard {s : State} (hs : s.Resting) (r : Reply) : conclude s.heard (placeReply r s.heard) = s.answered r := by
  have hu : (placeReply r s.heard).Unengaged := ⟨hs.urgent, hs.normal, hs.waiting, hs.admission, hs.flag⟩
  rw [conclude_unengaged _ _ hu hs.survey, close_placeReply_heard]

/-- Checks 3 to 5 by their cases (R27, R159, R165). -/
theorem accessFailure_denied {s : State} {k : ReqKind} {src : Source} {b : Bay} (h : s.windowAllows src k.permission b = false) :
    s.accessFailure k src b = some { code := .denied, secondary := 0 } := if_pos h

section Allowed

variable {s : State} {k : ReqKind} {src : Source} {b : Bay} (allowed : s.windowAllows src k.permission b = true)

include allowed

theorem accessFailure_reserved {holder : Source} (hk : k ≠ .status) (hh : (s.bay b).holder = some holder) (other : holder ≠ src) :
    s.accessFailure k src b = some { code := .reserved, secondary := holder.val } := by
  simp [State.accessFailure, allowed, State.otherHolder, hk, hh, other, reservedBy, Option.filter]

theorem accessFailure_unreserved (h : k = .status ∨ (s.bay b).holder = none ∨ (s.bay b).holder = some src) :
    s.accessFailure k src b = if (s.bay b).state = .empty then some { code := .bayEmpty, secondary := 0 } else none := by
  have none : s.otherHolder k src b = none := by
    unfold State.otherHolder
    rcases h with h | h | h <;> simp [h]
  simp only [State.accessFailure, allowed, none]
  rfl

end Allowed

theorem queueFull_iff (s : State) (b : Bay) : s.queueFull b = true ↔ 4 ≤ (s.bay b).queue.length := decide_eq_true_iff

end Sys2Proof.Machine

namespace Sys2Proof.Proofs

open Sys2Proof.Machine

/-- Settles O40: the form, the manage flag, the index and the value in their order. -/
theorem managementRequestsAreChecked : Obligations.ManagementRequestsAreChecked := by
  refine ⟨fun s c m h p src hf hl rest hs => ⟨fun e he => ?_, fun form hm => ?_, fun form hm hi => ?_⟩, fun s h src c hs rest hc => ?_⟩
  · have hb : checkForm (some (.management m)) h p = .error e := by
      simp [checkForm, hs.target, hs.source, Option.filter, FrameKind.allows, FrameKind.lengthFault, he]
    rw [exec_bad hf hs.noReset hs.place hl (.inr hs.target) hb,
      if_neg (show ¬ e = badSource by obtain rfl | rfl := mgmtForm_secondary he <;> decide)]
  · rw [exec_managed hf hs hl form]
    exact congrArg Host.Outcome.next (serveRequest_answered (.inl rest) (serveManagement_denied hm))
  · rw [exec_managed hf hs hl form]
    refine congrArg Host.Outcome.next (serveRequest_answered (.inl rest) ?_)
    rcases hi with ⟨rfl | rfl, hi⟩ | ⟨rfl, hi⟩
    · rw [serveManagement_tableWrite (s := s.heard) hm, serveTableWrite_index hi]; rfl
    · rw [serveManagement_tableRead (s := s.heard) hm, serveTableRead_index hi]; rfl
    · rw [serveManagement_recordRead (s := s.heard) hm, serveRecordRead_index hi]; rfl
  · rcases hc with ⟨b, x, y, hv, rfl⟩ | ⟨i, x, y, z, hv, rfl⟩ | ⟨i, x, y, hv, rfl⟩ | ⟨i, en, sources, base, span, perms, hv, rfl⟩
      | ⟨x, hlo, hhi, rfl⟩
    · have hb : (byte b.val).toNat < 24 := by rw [byte_fin_toNat b (by decide)]; exact b.isLt
      exact exec_writeRefused hs rest rfl rfl hb (by simp) (writeEntry_assignment_bad _ _ hb hv)
    · have hb : (byte i.val).toNat < 8 := by rw [byte_fin_toNat i (by decide)]; exact i.isLt
      exact exec_writeRefused hs rest rfl rfl hb (by simp) (writeEntry_action_bad _ _ hb hv)
    · have hb : (byte i.val).toNat < 4 := by rw [byte_fin_toNat i (by decide)]; exact i.isLt
      exact exec_writeRefused hs rest rfl rfl hb (by simp) (writeEntry_sensor_bad _ _ hb hv)
    · have hb : (byte i.val).toNat < 8 := by rw [byte_fin_toNat i (by decide)]; exact i.isLt
      exact exec_writeRefused hs rest rfl rfl hb (by simp) (writeEntry_windows_bad _ _ hb (windowFrom_none hv))
    · rw [exec_managed rfl hs.toHears (by simp) rfl]
      refine congrArg Host.Outcome.next (serveRequest_answered (.inl rest) ?_)
      rw [serveManagement_counterClear (s := s.heard) hs.manager, serveCounterClear_bad _ _ hlo hhi]
      rfl

/-- Settles O28: checks 1 to 7 in their order, each with its answer. -/
theorem requestsThatFailACheckAreAnswered : Obligations.RequestsThatFailACheckAreAnswered := by
  refine ⟨fun s c k h p t src hf hs ht hl hr => ?_, fun s kind h p hr hp hl hs => ?_, fun s c k h p hf hr hp hl hs ht => ?_,
    fun s c k h p t hf hr hp hl hs ht hm hq hsrc => ?_, fun s c k h p t src hf hm hs ht hq hr hl hlen => ?_,
    fun s k h b src c rest hs hc hfail => ?_⟩
  · have h1 : (s.heard.survey.running && !managementClass h) = true := by
      show (s.survey.running && !managementClass h) = true
      simp [hr, managementClass, hs.target, ht]
    rw [exec_frame hf, arrive_heard _ _ _ _ hl hs.noReset hs.place, acceptFrameAt, if_pos h1, close_placeReply_heard]
    rfl
  · exact exec_bad (k := none) rfl hr hp hl hs rfl
  · have hn : (targetOf h.target).filter (k.allows ·) = none := by
      rcases ht with ht | ⟨t, ht, hk⟩
      · rw [ht]; rfl
      · simp [ht, Option.filter, allows_false hk]
    refine exec_bad hf hr hp hl hs ?_
    simp [checkForm, hn, badTarget]
  · refine exec_bad (e := badSource) hf hr hp hl (hs.imp_right fun e => ht.trans (congrArg some e)) ?_
    simp [checkForm, ht, Option.filter, allows_true hm hq, sourceOf_none hsrc]
  · have hk : (∃ m, k = .management m) ↔ t = .part := ⟨fun ⟨m, e⟩ => absurd e (hm m), fun e => absurd e ht⟩
    refine exec_bad hf hs.noReset hs.place hl (.inl hr) ?_
    simp [checkForm, hs.target, hs.source, Option.filter, allows_true hk hq, lengthFault_bad hm hlen, badLength]
  · rw [exec_queued hs rest.survey (.inl rfl), ← conclude_placeReply_heard rest]
    refine congrArg (fun u => Host.Outcome.next (conclude s.heard u)) ?_
    rcases hfail with ⟨hw, rfl⟩ | ⟨hw, ⟨holder, hk, hh, other, rfl⟩ | ⟨hh, ⟨he, rfl⟩ | ⟨he, hfull, rfl⟩⟩⟩
    · exact requestOne_refused (s := s.heard) (accessFailure_denied hw) _ _
    · exact requestOne_refused (s := s.heard) (accessFailure_reserved hw hk hh other) _ _
    · exact requestOne_refused (s := s.heard) ((accessFailure_unreserved hw hh).trans (if_pos he)) _ _
    · exact requestOne_full (s := s.heard) ((accessFailure_unreserved hw hh).trans (if_neg he)) hc _ _ ((queueFull_iff _ _).mpr hfull)

end Sys2Proof.Proofs
end

section
/-! PROOFS. The supply settings, the requests that clear, and RESERVE and RELEASE. -/

namespace Sys2Proof.Machine

set_option Elab.async false

/-! ### The budget evaluated (R72) -/

/-- An evaluation written out. -/
theorem evaluateBudget_eq (s : State) : evaluateBudget s =
    { s with adm := { s.adm with overBudget := decide (s.adm.effLimit < s.adm.committed) }
             notices := s.notices.handAll (s.budgetNews s.adm.committed) } := by
  unfold State.budgetNews
  obtain ⟨h, e⟩ | ⟨n, e⟩ := evaluateBudget_cases s
  · rw [e, if_pos h.symm, ← show s.adm.overBudget = decide (s.adm.effLimit < s.adm.committed) from h]
    rfl
  · rw [e, if_neg fun k => n k.symm]
    rfl

/-- Where only the flag may be wrong, an event ends in its evaluation. -/
theorem conclude_evaluated (s0 s : State) (hu : s.bus.urgent = []) (hn : s.bus.normal = []) (hw : ∀ b, (s.bay b).waiting = [])
    (hq : s.adm.queue = []) (hs : s.survey.running = false) : conclude s0 s = close (evaluateBudget s) := by
  have choice (t : State) (ht : t.bus = s.bus) (hb : t.bays = s.bays) : busChoice t = t := by
    have hw' : ∀ b, (t.bay b).waiting = [] := fun b => by rw [State.bay, hb]; exact hw b
    unfold busChoice
    simp only [foldl_releaseWaiting_none t hw']
    exact takeLoop_empty _ _ (by rw [ht]; exact hu) (by rw [ht]; exact hn)
  have h1 : (evaluateBudget s).bus = s.bus := by rw [evaluateBudget_eq]
  have h2 : (evaluateBudget s).bays = s.bays := by rw [evaluateBudget_eq]
  unfold conclude
  rw [completeSurvey_off s hs, choice s rfl rfl, settleBudget_of_empty s0 s hq, choice _ h1 h2,
    evaluateBudget_of_flag _ (evaluateBudget_flag s)]

/-- On a part where nothing stands, an event that ends in a reply gives it. -/
theorem conclude_placeReply (s0 : State) {s : State} (h : s.Unengaged) (hs : s.survey.running = false) (r : Reply) :
    conclude s0 (placeReply r s) = driveAlertLine { s with link := s.link.given [r] } := by
  rw [conclude_unengaged _ (placeReply r s) ⟨h.urgent, h.normal, h.waiting, h.admission, h.flag⟩ hs, close_placeReply]

/-- The bus of a part at rest. -/
theorem Resting.bus {s : State} (h : s.Resting) (sent : List BusFrame) : { s.bus with sent := sent } = idleBus sent := by
  simp only [idleBus, h.urgent, h.normal, h.current, h.free]

/-! ### Clears (R154, R167) -/

theorem counterClear_bay (b : Bay) (tag : Byte) (s : State) :
    serveCounterClear tag [byte b.val] s = placeReply (replyTo tag (.plain .done) []) (s.updBay b fun r => { r with retry := 0 }) := by
  have hb : (byte b.val).toNat = b.val := byte_fin_toNat b (by decide)
  have e : (⟨(byte b.val).toNat, by rw [hb]; exact b.isLt⟩ : Bay) = b := Fin.ext hb
  unfold serveCounterClear
  exact (dif_pos (by rw [List.headD_cons, hb]; exact b.isLt)).trans (congrArg (fun c => answerDone tag [] (clearRetry c s)) e)

theorem counterClear_all (tag : Byte) (s : State) :
    serveCounterClear tag [255] s =
      placeReply (replyTo tag (.plain .done) []) { s with bays := s.bays.map fun r => { r with retry := 0 } } := by
  rw [← foldl_updBay_allBays]
  rfl

theorem reservationsClear_eq (tag : Byte) (s : State) (held : Bool) (h : held = true ↔ ∃ b, (s.bay b).holder.isSome = true) :
    serveReservationsClear tag s =
      placeReply (replyTo tag (.plain (if held then .done else .already)) [])
        { s with bays := s.bays.map fun r => { r with holder := none } } := by
  have any : (allBays.any fun b => (s.bay b).holder.isSome) = held := by
    rw [Bool.eq_iff_iff, h, List.any_eq_true]
    exact ⟨fun ⟨b, _, hb⟩ => ⟨b, hb⟩, fun ⟨b, hb⟩ => ⟨b, mem_allBays b, hb⟩⟩
  rw [← foldl_updBay_allBays, ← any]
  rfl

/-! ### The supply settings (R58, R59) -/

/-- A request of a manager that may move bays, levels or budget ends as any event does. -/
theorem exec_managed_loud {c : Instr} {m : MgmtKind} {h : Header} {p : List Byte} {s : State} {src : Source}
    (hf : c.frame = some (some (.management m), h, p)) (hs : s.Hears h .part src) (hl : p.length ≤ 64) (form : mgmtForm m p = none)
    (loud : m.quiet p = false) : exec c s = .next (conclude s.heard (serveManagement m src h.tag p s.heard)) := by
  rw [exec_managed hf hs hl form]
  simp [serveRequest, loud]

theorem fieldAt_pair (a b : Byte) (more : List Byte) : fieldAt (a :: b :: more) 0 2 = a.toNat + 256 * b.toNat := by
  simp [fieldAt, leNat]

/-- The Admission Unit with other supply settings. -/
def Admission.supplied (a : Admission) (limit margin : Nat) : Admission :=
  { a with limit := limit, margin := margin, effLimit := effectiveLimit limit margin }

theorem setSupply_eq {s : State} (hq : s.adm.queue = []) (limit margin : Nat) :
    setSupply limit margin s = evaluateBudget (s.updAdm (·.supplied (min limit 60000) (min margin 50))) := by
  unfold setSupply settleForced
  exact examine_nil _ (by rw [evaluateBudget_adm]; exact hq)

/-! ### RESERVE and RELEASE (R163, R164, R168) -/

/-- A decision on each bay of a list that looks at its own bay alone sets the holder where it is Done. -/
theorem foldl_decide {decision : State → Bay → Completion} {holder : Option Source}
    (own : ∀ (s t : State) (b : Bay), s.bay b = t.bay b → s.windows = t.windows → decision s b = decision t b)
    (l : List Bay) (s : State) (nodup : l.Nodup) :
    (l.foldl (fun s b => if decision s b = .plain .done then setHolder b holder s else s) s)
        = { s with bays := (l.foldl (fun s b => if decision s b = .plain .done then setHolder b holder s else s) s).bays }
      ∧ ∀ c, (l.foldl (fun s b => if decision s b = .plain .done then setHolder b holder s else s) s).bay c =
          if c ∈ l ∧ decision s c = .plain .done then { s.bay c with holder := holder } else s.bay c := by
  induction l generalizing s with
  | nil => exact ⟨rfl, fun c => by simp⟩
  | cons b l ih =>
    obtain ⟨hb, nodup⟩ := List.nodup_cons.mp nodup
    by_cases hd : decision s b = .plain .done
    · obtain ⟨rest, bays⟩ := ih (setHolder b holder s) nodup
      simp only [List.foldl_cons, if_pos hd]
      refine ⟨rest, fun c => ?_⟩
      rw [bays]
      by_cases hc : c = b
      · subst hc
        simp [hb, hd, setHolder]
      · have he : (setHolder b holder s).bay c = s.bay c := updBay_bay_other s _ hc
        rw [own (setHolder b holder s) s c he rfl, he]
        simp [hc]
    · obtain ⟨rest, bays⟩ := ih s nodup
      simp only [List.foldl_cons, if_neg hd]
      refine ⟨rest, fun c => ?_⟩
      rw [bays]
      by_cases hc : c = b
      · subst hc
        simp [hd]
      · simp [hc]

theorem reserveResult_own (src : Source) (s t : State) (b : Bay) (hb : s.bay b = t.bay b) (hw : s.windows = t.windows) :
    s.reserveResult src b = t.reserveResult src b := by
  unfold State.reserveResult State.windowAllows
  rw [hb, hw]

theorem releaseResult_own (src : Source) (s t : State) (b : Bay) (hb : s.bay b = t.bay b) (hw : s.windows = t.windows) :
    s.releaseResult src b = t.releaseResult src b := by
  unfold State.releaseResult State.windowAllows
  rw [hb, hw]

theorem allows_reservation {t : ReqTarget} (h : t ≠ .part) : FrameKind.reserve.allows t = true ∧ FrameKind.release.allows t = true := by
  cases t with
  | part => exact absurd rfl h
  | bay b => exact ⟨rfl, rfl⟩
  | row r => exact ⟨rfl, rfl⟩
  | all => exact ⟨rfl, rfl⟩

/-- An event that changes bays alone and gives a reply. -/
theorem decided_answers {s u : State} {l : List Bay} {p : Bay → Prop} [DecidablePred p] {holder : Option Source}
    (h : u = { s.heard with bays := u.bays }
      ∧ ∀ c, u.bay c = if c ∈ l ∧ p c then { s.heard.bay c with holder := holder } else s.heard.bay c) (r : Reply) :
    Answers (.next (driveAlertLine { u with link := u.link.given [r] })) fun t =>
      (∀ b, t.bay b = if b ∈ l ∧ p b then { s.bay b with holder := holder } else s.bay b)
        ∧ t.link = s.link.answer r
        ∧ t = { s with bays := t.bays, link := t.link, bus := { s.bus with sent := [] }, alertLine := s.alertHolds } := by
  obtain ⟨fields, bays⟩ := h
  have hl : u.link = s.heard.link := by rw [fields]
  refine ⟨_, rfl, bays, ?_, ?_⟩
  · show u.link.given [r] = _
    rw [hl]
    rfl
  · rw [fields]
    rfl

end Sys2Proof.Machine

namespace Sys2Proof.Proofs

open Sys2Proof.Machine

/-- Settles O38: the settings with their evaluation, and each clear. -/
theorem settingsAndClearsTakeEffect : Obligations.SettingsAndClearsTakeEffect := by
  refine ⟨fun s h src lo hi m limit margin hs rest hl hm => ?_, fun s h src hs => ⟨?_, fun b => ?_, ?_, fun held hh => ?_, ?_⟩⟩
  · have v1 : min (fieldAt [lo, hi, m] 0 2) 60000 = limit := by rw [fieldAt_pair, hl]
    have v2 : min (fieldAt [lo, hi, m] 2 1) 50 = margin := by rw [hm]; simp [fieldAt, leNat]
    have served : serveSupplySet h.tag [lo, hi, m] s.heard
        = placeReply { tag := h.tag, completion := { code := .done, secondary := 0 }, echo := none
                       payload := leBytes 2 limit ++ [byte margin] ++ leBytes 2 (effectiveLimit limit margin) }
            (evaluateBudget (s.heard.updAdm (·.supplied limit margin))) := by
      unfold serveSupplySet
      rw [setSupply_eq (s := s.heard) rest.admission, v1, v2]
      simp only [evaluateBudget_adm]
      rfl
    have idle : (evaluateBudget (s.heard.updAdm (·.supplied limit margin))).Unengaged := by
      rw [evaluateBudget_eq]
      exact ⟨rest.urgent, rest.normal, rest.waiting, rest.admission, rfl⟩
    rw [exec_managed_loud rfl hs.toHears (by simp) rfl rfl, serveManagement_supplySet (s := s.heard) hs.manager, served,
      conclude_placeReply _ idle (by rw [evaluateBudget_eq]; exact rest.survey), evaluateBudget_eq]
    refine ⟨_, rfl, rfl, ?_, rfl, ?_⟩
    · by_cases hd : decide (limit * (100 - margin) / 100 < s.adm.committed) = s.adm.overBudget
      · exact (congrArg s.notices.handAll (if_pos hd)).trans (if_pos hd).symm
      · exact (congrArg s.notices.handAll (if_neg hd)).trans (if_neg hd).symm
    · rw [← Resting.bus rest []]
      rfl
  · refine exec_managed_quiet (u := { s with ffr := none }) rfl hs (by simp) rfl rfl ?_
    rw [serveManagement_faultRelease (s := s.heard) hs.manager]
    rfl
  · refine exec_managed_quiet (u := s.updBay b fun r => { r with retry := 0 }) rfl hs (by simp) rfl rfl ?_
    rw [serveManagement_counterClear (s := s.heard) hs.manager, counterClear_bay]
    rfl
  · refine exec_managed_quiet (u := { s with bays := s.bays.map fun r => { r with retry := 0 } }) rfl hs (by simp) rfl rfl ?_
    rw [serveManagement_counterClear (s := s.heard) hs.manager, counterClear_all]
    rfl
  · refine exec_managed_quiet (u := { s with bays := s.bays.map fun r => { r with holder := none } }) rfl hs (by simp) rfl rfl ?_
    rw [serveManagement_reservationsClear (s := s.heard) hs.manager, reservationsClear_eq _ s.heard held hh]
    rfl
  · refine exec_managed_quiet (u := { s with link := { s.link with resetPending := true } }) rfl hs (by simp) rfl rfl ?_
    rw [serveManagement_softReset (s := s.heard) hs.manager]
    rfl

/-- Settles O30: each member is decided by its own bay, which no other member's decision touches. -/
theorem reserveAndReleaseAreDecidedAtOnce : Obligations.ReserveAndReleaseAreDecidedAtOnce := by
  refine ⟨fun s h t src hs ht hr => ⟨?_, ?_⟩, fun s src b hw => ⟨if_pos hw, if_pos hw⟩, fun s src b hw => ?_⟩
  · rw [exec_served (k := .reserve) rfl hs (by simp) (.inl hr) (allows_reservation ht).1 rfl, serveRequest, reserveBays, close_placeReply]
    exact decided_answers (foldl_decide (decision := fun s b => s.reserveResult src b) (holder := some src) (reserveResult_own src)
      (targetBays t) s.heard (targetBays_nodup t)) _
  · rw [exec_served (k := .release) rfl hs (by simp) (.inl hr) (allows_reservation ht).2 rfl, serveRequest, releaseBays, close_placeReply]
    exact decided_answers (foldl_decide (decision := fun s b => s.releaseResult src b) (holder := none) (releaseResult_own src)
      (targetBays t) s.heard (targetBays_nodup t)) _
  · have hw' : ¬ s.windowAllows src permReserve b = false := by rw [show s.windowAllows src permReserve b = true from hw]; decide
    have reserve (he : (s.bay b).state ≠ .empty) : s.reserveResult src b = match (s.bay b).holder with
        | none => .plain .done
        | some t => if t = src then .plain .already else reservedBy t := (if_neg hw').trans (if_neg he)
    have release : s.releaseResult src b = match (s.bay b).holder with
        | none => .plain .already
        | some t => if t = src then .plain .done else reservedBy t := if_neg hw'
    refine ⟨fun he => ⟨fun hh => ?_, fun hh => ?_, fun o hh other => ?_⟩, fun he => (if_neg hw').trans (if_pos he), fun hh => ?_,
      fun hh => ?_, fun o hh other => ?_⟩
    · rw [reserve he, hh]; rfl
    · rw [reserve he, hh]; exact if_pos rfl
    · rw [reserve he, hh]; exact if_neg other
    · rw [release, hh]; rfl
    · rw [release, hh]; exact if_pos rfl
    · rw [release, hh]; exact if_neg other

end Sys2Proof.Proofs
end

section
/-! PROOFS. The byte layouts of entries, records, notices and frames. -/

namespace Sys2Proof.Machine

set_option Elab.async false

/-! ### Fields of an entry -/

theorem byte_mod (v : Nat) : byte v = byte (v % 256) := BitVec.eq_of_toNat_eq (by simp [byte])

theorem leBytes_two (v : Nat) : leBytes 2 v = [byte (v % 256), byte (v / 256 % 256)] := by
  rw [← byte_mod, ← byte_mod]
  rfl

theorem leBytes_four (v : Nat) :
    leBytes 4 v = [byte (v % 256), byte (v / 256 % 256), byte (v / 65536 % 256), byte (v / 16777216 % 256)] := by
  rw [← byte_mod, ← byte_mod, ← byte_mod, ← byte_mod]
  simp [leBytes, byte, Nat.div_div_eq_div_mul]

/-- The two bytes of a field, low byte first (R187). -/
def wordAt (e : List Byte) (i : Nat) : Nat := (e.getD i 0).toNat + 256 * (e.getD (i + 1) 0).toNat

theorem drop_take_two {e : List Byte} {i : Nat} (h : i + 2 ≤ e.length) : (e.drop i).take 2 = [e.getD i 0, e.getD (i + 1) 0] := by
  have h0 : i < e.length := by omega
  have h1 : i + 1 < e.length := by omega
  rw [List.drop_eq_getElem_cons h0, List.drop_eq_getElem_cons h1]
  simp only [List.take_succ_cons, List.take_zero, List.getD_eq_getElem?_getD, List.getElem?_eq_getElem h0, List.getElem?_eq_getElem h1,
    Option.getD_some]

theorem fieldAt_two {e : List Byte} {i : Nat} (h : i + 2 ≤ e.length) : fieldAt e i 2 = wordAt e i := by
  rw [fieldAt, drop_take_two h, leNat_pair, wordAt]

theorem fieldAt_one {e : List Byte} {i : Nat} (h : i + 1 ≤ e.length) : fieldAt e i 1 = (e.getD i 0).toNat := by
  have h0 : i < e.length := h
  rw [fieldAt, List.drop_eq_getElem_cons h0]
  simp only [leNat, List.take_succ_cons, List.take_zero, List.getD_eq_getElem?_getD, List.getElem?_eq_getElem h0, Option.getD_some]
  omega

theorem fieldAt_four {e : List Byte} {i : Nat} (h : i + 4 ≤ e.length) : fieldAt e i 4 = wordAt e i + 65536 * wordAt e (i + 2) := by
  have h0 : i < e.length := by omega
  have h1 : i + 1 < e.length := by omega
  have h2 : i + 2 < e.length := by omega
  have h3 : i + 3 < e.length := by omega
  rw [fieldAt, List.drop_eq_getElem_cons h0, List.drop_eq_getElem_cons h1, List.drop_eq_getElem_cons h2, List.drop_eq_getElem_cons h3]
  simp only [wordAt, leNat, List.take_succ_cons, List.take_zero, List.getD_eq_getElem?_getD, List.getElem?_eq_getElem h0,
    List.getElem?_eq_getElem h1, List.getElem?_eq_getElem h2, show i + 2 + 1 = i + 3 from rfl, List.getElem?_eq_getElem h3,
    Option.getD_some]
  omega

theorem profileFrom_eq {e : List Byte} (h : e.length = 18) : profileFrom e = normalizeProfile
    { peak := wordAt e 0, idle := wordAt e 2, active := wordAt e 4, surge := wordAt e 6, spinUpTime := clampTime (wordAt e 8)
      loadTime := clampTime (wordAt e 10), unloadTime := clampTime (wordAt e 12), parkTime := clampTime (wordAt e 14)
      stopTime := clampTime (wordAt e 16) } := by
  unfold profileFrom
  repeat rw [fieldAt_two (by omega)]

theorem thresholdsFrom_eq {e : List Byte} (h : e.length = 26) : thresholdsFrom e =
    { lowG := max 1 (min (wordAt e 0) 1023), nLow := max 1 (min (wordAt e 2) 32), highG := max 1024 (min (wordAt e 4) 32767)
      nHigh := max 1 (min (wordAt e 6) 8), joltHold := min (wordAt e 8) 10000, debounce := min (wordAt e 10) 3000
      fallMin := wordAt e 12, fallMax := max (wordAt e 14) (wordAt e 12), vOn := wordAt e 16, vOff := min (wordAt e 18) (wordAt e 16)
      tiltC := if wordAt e 20 = 65535 then 65536 else wordAt e 20, nTilt := max 1 (min (wordAt e 22) 1000)
      blindTime := max 10 (min (wordAt e 24) 1000) } := by
  unfold thresholdsFrom
  repeat rw [fieldAt_two (by omega)]
  rfl

theorem timingFrom_eq {e : List Byte} (h : e.length = 15) : timingFrom e =
    { stagger := min (wordAt e 0) 10000, waitLimit := min (wordAt e 2 + 65536 * wordAt e 4) 600000, freshness := min (wordAt e 6) 60000
      retryLimit := min (e.getD 8 0).toNat 7, retryThreshold := max 1 (e.getD 9 0).toNat
      alertThreshold := max 1 (min (e.getD 10 0).toNat 7), restoreCeiling := min (e.getD 11 0).toNat 7
      alertMask := (e.getD 12 0).setWidth 4 } := by
  have mask : BitVec.ofNat 4 (e.getD 12 0).toNat = (e.getD 12 0).setWidth 4 := BitVec.eq_of_toNat_eq (by simp)
  unfold timingFrom
  rw [fieldAt_four (by omega), fieldAt_two (by omega), fieldAt_two (by omega), fieldAt_one (by omega), fieldAt_one (by omega),
    fieldAt_one (by omega), fieldAt_one (by omega), fieldAt_one (by omega), mask]
  rfl

/-! ### Records -/

theorem leBytes_length (n v : Nat) : (leBytes n v).length = n := by
  induction n generalizing v with
  | zero => rfl
  | succ n ih => simp [leBytes, ih]

/-- The bits of a flags byte (R188). -/
theorem flagByte_bits (a b c d e f g h : Bool) :
    (List.range 8).map (flagByte [a, b, c, d, e, f, g, h]).getLsbD = [a, b, c, d, e, f, g, h] := by
  revert a b c d e f g h
  decide

/-- A flags byte of fewer bits leaves the others clear. -/
theorem flagByte_snoc (bits : List Bool) : flagByte (bits ++ [false]) = flagByte bits := by
  simp [flagByte]

theorem countBytes_length (c : Count) : (countBytes c).length = 4 := leBytes_length 4 _

/-- The three bytes of a protective operation (R188). -/
theorem slotBytes_eq (o : Option ProtOp) : slotBytes o =
    match o with
    | some op => [match op.kind with | .unload => 1 | .park => 2 | .stop => 3, byte op.level.val,
                  byte ((if op.started then 1 else 0) + if op.stopPhase then 2 else 0)]
    | none => [0, 0, 0] := by
  rcases o with _ | ⟨kind, level, started, stopPhase, _⟩
  · rfl
  · cases kind <;> cases started <;> cases stopPhase <;> rfl

theorem slotBytes_length (o : Option ProtOp) : (slotBytes o).length = 3 := by cases o <;> rfl

theorem deadlineBytes_length (d : Option OpDeadline) : (deadlineBytes d).length = 5 := by
  cases d <;> simp [deadlineBytes, countBytes_length]

theorem lastFaultBytes_length (f : Option LastFault) : (lastFaultBytes f).length = 6 := by
  cases f <;> simp [lastFaultBytes, countBytes_length]

theorem cacheBytes_length (c : Option Cache) : (cacheBytes c).length = 8 := by
  cases c <;> simp [cacheBytes, countBytes_length, Report.bytes]

theorem sampleBytes_length (p : Option Sample) : (sampleBytes p).length = 8 := by
  cases p <;> simp [sampleBytes, signedBytes, word2, leBytes_length]

theorem lastFallBytes_length (f : Option LastFall) : (lastFallBytes f).length = 3 := by
  cases f <;> simp [lastFallBytes, word2, leBytes_length]

/-- The last fall by its result (R188). -/
theorem lastFallBytes_eq (f : Option LastFall) : lastFallBytes f =
    match f with
    | some f => word2 f.height ++ [match f.result with | .dip => 1 | .impact => 2 | .lowGLong => 3]
    | none => List.replicate 3 0 := by
  rcases f with _ | ⟨height, result⟩
  · rfl
  · cases result <;> rfl

/-- A queue entry by its origin, phase and wait deadline (R188). -/
theorem Request.bytes_eq (e : Request) : e.bytes =
    [e.kind.byte, match e.origin with | .upstream src _ _ => byte src.val | .part => 0xFF,
     match e.origin with | .upstream _ tag _ => tag | .part => 0,
     byte ((match e.phase with | .queued => 0 | .checking => 1 | .deferred => 2 | .admitting => 3 | .issued => 4)
       + (match e.origin with | .upstream _ _ (some _) => 64 | _ => 0) + if e.wait.isSome then 128 else 0)]
      ++ leBytes 4 (e.wait.getD 0).toNat := by
  rcases ho : e.origin with ⟨src, tag, _ | g⟩ | _ <;> cases hp : e.phase <;> simp [Request.bytes, ho, hp, Origin.fields, Phase.code] <;> rfl

theorem Request.bytes_length (r : Request) : r.bytes.length = 8 := by simp [Request.bytes, optCount, countBytes_length]

theorem flatMap_bytes_length (q : List Request) : (q.flatMap Request.bytes).length = 8 * q.length := by
  induction q with
  | nil => rfl
  | cons r q ih => simp [Request.bytes_length, ih]; omega

theorem queueBytes_length (q : List Request) : (queueBytes q).length = 32 := by
  simp [queueBytes]

/-- Eight bytes at a time, the entries of a bay queue, and 0 past them. -/
theorem entries_at (q : List Request) (m : Nat) {k : Nat} (h : 8 * k + 8 ≤ m) :
    ((q.flatMap Request.bytes ++ List.replicate m 0).drop (8 * k)).take 8 =
      match q[k]? with
      | none => List.replicate 8 0
      | some e => e.bytes := by
  induction q generalizing k with
  | nil =>
    simp only [List.flatMap_nil, List.nil_append, List.drop_replicate, List.take_replicate, List.getElem?_nil]
    rw [Nat.min_eq_left (by omega)]
  | cons r q ih =>
    cases k with
    | zero => simp [Request.bytes_length]
    | succ k =>
      have e : ((r :: q).flatMap Request.bytes ++ List.replicate m 0).drop (8 * (k + 1))
          = (q.flatMap Request.bytes ++ List.replicate m 0).drop (8 * k) := by
        rw [List.flatMap_cons, List.append_assoc, show 8 * (k + 1) = r.bytes.length + 8 * k by rw [Request.bytes_length]; omega,
          ← List.drop_drop, List.drop_left]
      rw [e, ih (by omega), List.getElem?_cons_succ]

theorem queueBytes_at (q : List Request) (k : Fin 4) :
    ((queueBytes q).drop (8 * k.val)).take 8 =
      match q[k.val]? with
      | none => List.replicate 8 0
      | some e => e.bytes := by
  have hk := k.isLt
  rw [queueBytes, List.drop_take, List.take_take, Nat.min_eq_left (by omega), entries_at q 32 (by omega)]

end Sys2Proof.Machine

namespace Sys2Proof.Proofs

open Sys2Proof.Machine

/-- Settles O36: each layout written out, with the lengths of the records. -/
theorem layoutsOfTablesRecordsAndFrames : Obligations.LayoutsOfTablesRecordsAndFrames := by
  refine ⟨fun v => ⟨leBytes_two v, leBytes_four v⟩, fun e => ⟨profileFrom_eq, thresholdsFrom_eq, timingFrom_eq⟩, fun s i => ?_, by decide,
    by decide, ?_, ?_, fun p => ?_, fun s => ?_, fun r => ?_, fun r hw => ?_, rfl, fun f => ?_, fun s => rfl,
    fun b st sub cause w yes z i o l m n t => ?_, fun r => ⟨_, rfl, rfl⟩, fun n => ⟨_, rfl, rfl⟩, fun f => ⟨_, rfl, rfl⟩⟩
  · refine ⟨?_, ?_, ?_, ?_, ?_, ?_, ?_, ?_, ?_, ?_⟩
    · rintro c rfl
      exact (dif_pos c.isLt).trans (by simp [Profile.bytes, word2])
    · rintro b rfl
      exact dif_pos b.isLt
    · rintro k rfl
      exact dif_pos k.isLt
    · rintro k rfl
      exact dif_pos k.isLt
    · rintro k rfl
      exact dif_pos k.isLt
    · show s.thresholds.bytes = _
      simp [Thresholds.bytes, word2]
    · rintro k rfl
      exact dif_pos k.isLt
    · rintro k rfl
      exact dif_pos k.isLt
    · rintro k rfl
      exact dif_pos k.isLt
    · rfl
  · decide
  · decide
  · have head : p.headD 0 = p.getD 0 0 := by cases p <;> rfl
    refine ⟨fun h => ?_, fun h => ⟨?_, ?_⟩, fun h ht => ?_, fun n h ht => ?_, fun h => ?_, fun h => ?_, rfl, rfl, fun m hm => ?_⟩
    · exact if_pos h
    · exact if_pos h
    · exact if_pos h
    · simp only [mgmtForm, head, if_neg (Nat.not_lt.mpr h), ht, badTable]
    · simp only [mgmtForm, head, if_neg (Nat.not_lt.mpr h), ht, badLength]
    · simp only [mgmtForm, head, if_neg (not_not.mpr h), Option.isNone_iff_eq_none, badTable]
    · simp only [mgmtForm, head, if_neg (not_not.mpr h), badTable]
    · have e : (if p.length = 0 then none else some badLength) = if p = [] then none else some 4 := by
        simp [List.length_eq_zero_iff, badLength]
      simp only [List.mem_cons, List.not_mem_nil, or_false] at hm
      obtain rfl | rfl | rfl | rfl := hm <;> exact e
  · refine ⟨s.flagsByte, s.sourcesByte, ?_, ?_, ?_, ?_⟩
    · simp only [State.caseStatus, countBytes, word2, word4, optCount, List.append_assoc]
      cases s.latch <;> rfl
    · have h : (impactBytes s.latch).length = 7 := by
        cases s.latch <;> simp [impactBytes, word2, leBytes_length, countBytes_length]
      simp [State.caseStatus, countBytes_length, word2, word4, optCount, leBytes_length, ZoneLevels.bytes, h]
    · rw [State.flagsByte, ← flagByte_snoc]
      exact flagByte_bits _ _ _ _ _ _ _ _
    · rw [State.sourcesByte, ← flagByte_snoc, ← flagByte_snoc, ← flagByte_snoc, ← flagByte_snoc]
      exact flagByte_bits _ _ _ _ _ _ _ _
  · refine ⟨queueBytes r.queue, ?_, ?_, fun k => ?_⟩
    · simp only [BayRecord.bytes, word2, List.append_assoc, holderByte, slotBytes_eq, deadlineBytes, lastFaultBytes, cacheBytes]
      rfl
    · simp [BayRecord.bytes, word2, leBytes_length, slotBytes_length, deadlineBytes_length, lastFaultBytes_length, cacheBytes_length,
        queueBytes_length]
    · rw [queueBytes_at]
      rcases r.queue[k.val]? with _ | e
      · rfl
      · exact Request.bytes_eq e
  · refine ⟨r.presence, r.conds.byte, ?_, ?_, ?_, ?_⟩
    · simp only [SensorRecord.bytes, word2, List.append_assoc, requestedByte, optHalf, optCount, sampleBytes, signedBytes, lastFallBytes_eq,
        List.flatMap_cons, List.flatMap_nil, List.append_nil]
      rfl
    · simp [SensorRecord.bytes, word2, word4, optHalf, optCount, countBytes_length, leBytes_length, sampleBytes_length,
        lastFallBytes_length, hw]
    · exact flagByte_bits _ _ _ _ _ _ _ _
    · rw [Conditions.byte, ← flagByte_snoc, ← flagByte_snoc, ← flagByte_snoc]
      exact flagByte_bits _ _ _ _ _ _ _ _
  · cases hf : f.subject <;> cases hw : f.work <;> simp [firstFaultBytes, hf, hw, Subject.bytes, Work.byte, countBytes, word4]
  · refine ⟨rfl, ?_, rfl, rfl, rfl, rfl, rfl, rfl, rfl⟩
    cases sub <;> rfl

end Sys2Proof.Proofs
end

section
/-! PROOFS. What an event leaves of the First Fault Record, one sample of a frame, and a SAMPLES frame. -/

namespace Sys2Proof.Machine

set_option Elab.async false

/-! ### The First Fault Record where nothing faults -/

/-- Work that neither captures nor releases leaves the First Fault Record (R174). -/
theorem works_ffr {l : Leave} (hm : l.moves = false) (hr : l.releases = false) {s t : State} (w : Works l s t) : t.ffr = s.ffr :=
  w.keeps (P := fun u => u.ffr = s.ffr) (fun u v c h => by
    refine Eq.trans ?_ h
    cases c with
    | aside _ _ _ _ ffr => exact ffr.resolve_right (by rw [hr]; exact Bool.false_ne_true)
    | capture _ _ _ _ leave => exact absurd leave (by rw [hm]; exact Bool.false_ne_true)
    | granted => exact changeState_ffr _ _ _
    | @start x y v chosen => exact (choose_ffr chosen :)
    | rebook _ _ _ _ _ ffr => exact ffr
    | _ => rfl) rfl

/-- Work that does nothing but the ordinary. -/
def Leave.ordinary : Leave := { moves := false, removes := false, releases := false }

theorem conclude_ffr (s0 s : State) : (conclude s0 s).ffr = s.ffr :=
  works_ffr (l := Leave.ordinary) rfl rfl (conclude_works s0 s)

theorem handOff_ffr (i : SensorId) (s : State) : (handOff i s).ffr = s.ffr :=
  works_ffr (l := Leave.ordinary) rfl rfl (handOff_works i s)

/-! ### One sample (R82) -/

/-- The outcome of a fall touches the sensor's last fall, the latch, the First Fault Record and the notices (R88). -/
theorem deliverFall_eq (i : SensorId) (h : Nat) (s : State) : deliverFall i h s =
    { s with
      sensors := s.sensors.set i { s.sensors[i] with lastFall := some { height := h, result := s.thresholds.classify h } }
      latch := (deliverFall i h s).latch, ffr := (deliverFall i h s).ffr, notices := (deliverFall i h s).notices } := by
  cases c : s.thresholds.classify h with
  | dip => rw [deliverFall_dip i c]; rfl
  | impact => rw [deliverFall_impact i c]; rfl
  | lowGLong => rw [deliverFall_lowGLong i c]; rfl

/-- It looks at the thresholds, the clock and what it touches alone. -/
theorem deliverFall_congr (i : SensorId) (h : Nat) {s t : State} (thresholds : t.thresholds = s.thresholds) (now : t.now = s.now)
    (latch : t.latch = s.latch) (ffr : t.ffr = s.ffr) (notices : t.notices = s.notices) :
    (deliverFall i h t).latch = (deliverFall i h s).latch ∧ (deliverFall i h t).ffr = (deliverFall i h s).ffr
      ∧ (deliverFall i h t).notices = (deliverFall i h s).notices := by
  cases c : s.thresholds.classify h with
  | dip =>
    rw [deliverFall_dip i c, deliverFall_dip i (thresholds ▸ c)]
    exact ⟨latch, ffr, by rw [postNotice_eq, postNotice_eq, now]; exact congrArg (NoticeQueue.hand · _) notices⟩
  | impact =>
    rw [deliverFall_impact i c, deliverFall_impact i (thresholds ▸ c)]
    simp only [setImpact, postNotice_eq, setLastFall, updSensor_latch, updSensor_ffr, updSensor_notices, updSensor_now, latch, ffr,
      notices, now, and_self]
  | lowGLong =>
    rw [deliverFall_lowGLong i c, deliverFall_lowGLong i (thresholds ▸ c)]
    simp only [sensorFault, captureFault, postNotice_eq, setLastFall, updSensor_latch, updSensor_ffr, updSensor_notices, updSensor_now,
      latch, ffr, notices, now, and_self]

/-- A run counter as the smaller of its successor and its greatest value (R76). -/
theorem runAfter_eq_min {n : Nat} (h : n ≤ 65535) (more : Bool) : runAfter more n = if more then min (n + 1) 65535 else 0 := by
  unfold runAfter satSucc
  split
  · split <;> omega
  · rfl

/-- A sensor after the tests of a sample and the Falling rules, its outcome delivered (R85 to R88). -/
def State.fallen (s : State) (i : SensorId) (high low : Bool) (counter : Half) : State :=
  let r := if high then s.sensors[i].noteHigh s.thresholds s.now s.after else s.sensors[i]
  let v := s.updSensor i fun _ => r.fallStep s.thresholds low counter
  if r.conds.falling && !low then deliverFall i (fallHeight (r.duration counter) r.rate.hertz) v else v

/-- A sample by its two halves: what the fall gives, then the other conditions (R82). -/
theorem takeSample_eq (i : SensorId) (counter : Half) (x y z : Int) (s : State) :
    takeSample i counter x y z s =
      (s.fallen i (s.thresholds.high (squaredMagnitude x y z))
        (s.thresholds.low (squaredMagnitude x y z) s.sensors[i].debounceDue) counter).updSensor i fun r =>
          { ((r.joltStep s.thresholds (s.thresholds.high (squaredMagnitude x y z))).rollStep s.thresholds
              (vibration (squaredMagnitude x y z))).tiltStep s.thresholds (s.thresholds.tilts (squaredMagnitude x y z) z) with
            lastSample := some { counter := counter, x := x, y := y, z := z } } := by
  unfold takeSample State.fallen
  dsimp only
  generalize s.thresholds.high (squaredMagnitude x y z) = high
  generalize s.thresholds.low (squaredMagnitude x y z) s.sensors[i].debounceDue = low
  cases high
  · rfl
  · simp only [if_true, updSensor_same]
    have e : (s.updSensor i fun r => r.noteHigh s.thresholds s.now s.after).updSensor i (fun r => r.fallStep s.thresholds low counter)
        = s.updSensor i fun _ => (s.sensors[i].noteHigh s.thresholds s.now s.after).fallStep s.thresholds low counter := by
      simp [State.updSensor]
    rw [e]

theorem deliverFall_lastFall (i : SensorId) (h : Nat) (s : State) :
    (deliverFall i h s).sensors[i].lastFall = some { height := h, result := s.thresholds.classify h } := by
  rw [deliverFall_eq]
  simp

theorem fallStep_lastFall (r : SensorRecord) (t : Thresholds) (low : Bool) (counter : Half) :
    (r.fallStep t low counter).lastFall = r.lastFall := by
  unfold SensorRecord.fallStep
  dsimp only
  repeat' split
  all_goals rfl

/-- What a fall gives, written out. -/
theorem fallen_eq (s : State) (i : SensorId) (high low : Bool) (counter : Half) {r : SensorRecord} {d : State} {ends : Bool}
    (hr : r = s.sensors[i]) (hd : d = deliverFall i (fallHeight (r.duration counter) r.rate.hertz) s)
    (he : ends = (r.conds.falling && !low)) :
    s.fallen i high low counter =
      { s with
        sensors := s.sensors.set i
          { (if high then r.noteHigh s.thresholds s.now s.after else r).fallStep s.thresholds low counter with
            lastFall := if ends then d.sensors[i].lastFall else r.lastFall }
        latch := if ends then d.latch else s.latch
        ffr := if ends then d.ffr else s.ffr
        notices := if ends then d.notices else s.notices } := by
  have hfall : (if high then r.noteHigh s.thresholds s.now s.after else r).conds.falling = r.conds.falling := by cases high <;> rfl
  have hheight : fallHeight ((if high then r.noteHigh s.thresholds s.now s.after else r).duration counter)
      (if high then r.noteHigh s.thresholds s.now s.after else r).rate.hertz = fallHeight (r.duration counter) r.rate.hertz := by
    cases high <;> rfl
  have hlast : ((if high then r.noteHigh s.thresholds s.now s.after else r).fallStep s.thresholds low counter).lastFall = r.lastFall := by
    rw [fallStep_lastFall]
    cases high <;> rfl
  unfold State.fallen
  simp only [← hr, hfall, hheight, ← he]
  generalize (if high then r.noteHigh s.thresholds s.now s.after else r).fallStep s.thresholds low counter = w at hlast ⊢
  cases ends with
  | false =>
    rw [if_neg Bool.false_ne_true]
    simp only [Bool.false_eq_true, if_false, ← hlast]
    rfl
  | true =>
    obtain ⟨latch, ffr, notices⟩ := deliverFall_congr i (fallHeight (r.duration counter) r.rate.hertz)
      (s := s) (t := s.updSensor i fun _ => w) rfl rfl rfl rfl rfl
    rw [if_pos rfl, deliverFall_eq, latch, ffr, notices]
    simp only [if_true, hd, deliverFall_lastFall, updSensor_same]
    simp [State.updSensor]

/-- A sensor's record after the tests of a sample and the Falling rules (R85 to R87). -/
theorem fallStep_record (r : SensorRecord) (t : Thresholds) (now : Count) (due : Nat → Count) (high low : Bool) (counter : Half)
    {lowRun : Nat} (hl : lowRun = runAfter low r.lowRun) :
    (if high then r.noteHigh t now due else r).fallStep t low counter =
      { r with
        lowRun := lowRun
        lastHigh := if high then some now else r.lastHigh
        joltDue := if high then some (due t.joltHold) else r.joltDue
        debounceDue := if high then (if t.debounce = 0 then none else some (due t.debounce)) else r.debounceDue
        fallStart :=
          if r.conds.falling then (if low then r.fallStart else none)
          else if low ∧ t.nLow ≤ lowRun then some (counter - BitVec.ofNat 16 (lowRun - 1)) else r.fallStart
        conds := { r.conds with falling := if r.conds.falling then low else low && decide (t.nLow ≤ lowRun) } } := by
  subst hl
  obtain ⟨enabled, rate, requested, furtherRate, expected, ⟨rolling, tilted, jolt, falling, blind⟩, run, rest⟩ := r
  cases falling with
  | true => cases high <;> cases low <;> rfl
  | false =>
    by_cases reached : low = true ∧ t.nLow ≤ runAfter low run
    · cases high <;> simp [SensorRecord.fallStep, SensorRecord.noteHigh, SensorRecord.withConds, reached.1, reached.1 ▸ reached.2]
    · have never : (low && decide (t.nLow ≤ runAfter low run)) = false := by simpa using reached
      cases high <;> simp [SensorRecord.fallStep, SensorRecord.noteHigh, never, reached]

/-- A sensor's record after the other conditions of a sample (R91, R93, R94). -/
theorem later_steps_record (r : SensorRecord) (t : Thresholds) (high tilted : Bool) (v : Nat) {highRun tiltRun untiltRun mean : Nat}
    (hh : highRun = runAfter high r.highRun) (ht : tiltRun = runAfter tilted r.tiltRun) (hu : untiltRun = runAfter (!tilted) r.untiltRun)
    (hm : mean = (r.vibSum - r.window.headD 0 + v) / 16) :
    ((r.joltStep t high).rollStep t v).tiltStep t tilted =
      { r with
        highRun := highRun, tiltRun := tiltRun, untiltRun := untiltRun
        window := r.window.tail ++ [v], vibSum := r.vibSum - r.window.headD 0 + v
        conds :=
          { falling := r.conds.falling
            jolt := r.conds.jolt || (high && decide (t.nHigh ≤ highRun))
            rolling := if r.conds.rolling then !decide (mean < t.vOff) else decide (t.vOn ≤ mean)
            tilted := if r.conds.tilted then !decide (t.nTilt ≤ untiltRun) else decide (t.nTilt ≤ tiltRun)
            blind := r.conds.blind } } := by
  subst hh ht hu hm
  rfl

/-! ### The samples of a frame leave the bus (R82) -/

/-- The same part with another bus. -/
def State.onBus (s : State) (u : BusController) : State := { s with bus := u }

theorem deliverFall_onBus (i : SensorId) (h : Nat) (s : State) (u : BusController) :
    deliverFall i h (s.onBus u) = (deliverFall i h s).onBus u := by
  obtain ⟨latch, ffr, notices⟩ := deliverFall_congr i h (s := s) (t := s.onBus u) rfl rfl rfl rfl rfl
  rw [deliverFall_eq, latch, ffr, notices, deliverFall_eq i h s]
  rfl

theorem takeSample_onBus (i : SensorId) (c : Half) (x y z : Int) (s : State) (u : BusController) :
    takeSample i c x y z (s.onBus u) = (takeSample i c x y z s).onBus u := by
  rw [takeSample_eq, takeSample_eq, fallen_eq s _ _ _ _ rfl rfl rfl,
    fallen_eq (s.onBus u) _ _ _ _ rfl (deliverFall_onBus i (fallHeight (s.sensors[i].duration c) s.sensors[i].rate.hertz) s u).symm rfl]
  rfl

theorem takeSamples_onBus (i : SensorId) (u : BusController) (samples : List (Int × Int × Int)) (c : Half) (s : State) :
    takeSamples i c samples (s.onBus u) = (takeSamples i c samples s).onBus u := by
  induction samples generalizing c s with
  | nil => rfl
  | cons x rest ih => rw [takeSamples, takeSample_onBus, ih]; rfl

/-! ### A SAMPLES frame (R81) -/

/-- The state a station frame is handed over in: the answer is on the bus (R141). -/
def State.acked (s : State) (station : Byte) : State := answerStation station 0x40 [] s.begin

/-- A station frame that is taken (R141). -/
theorem exec_taken {c : Instr} {f : StationFrame} {s : State} {kind : Byte} {g : State → State} (h : c.station = some f)
    (hs : s.Receives kind f) (hg : takenBy c = some g) : exec c s = .next (conclude s.begin (g (s.acked f.initiator))) := by
  rw [exec_station h, hg, stationFrame_taken hs.free (by rw [hs.ofKind]; exact hs.check)]
  rfl

theorem takenBy_samples {f : StationFrame} {i : SensorId} {first : Half} {samples : List (Int × Int × Int)} (hk : f.kind = 0x33)
    (hi : sensorAt f.initiator = some i) (hp : sampleFrameOf f.payload = some (first, samples)) :
    takenBy (.samples f) = some (samplesFrame i first samples) := by
  simp [takenBy, ofKind, hk, Config.kindSamples, samplesTaken, hi, hp]

/-- What an event leaves as its work has left it: the sensors, the latch, the First Fault Record and the Protection Unit. -/
theorem conclude_motion (s0 s : State) :
    (conclude s0 s).sensors = s.sensors ∧ (conclude s0 s).latch = s.latch ∧ (conclude s0 s).ffr = s.ffr
      ∧ (conclude s0 s).prot = s.prot :=
  ⟨(conclude_work s0 s).sensors, (conclude_work s0 s).latch, conclude_ffr s0 s, (conclude_work s0 s).prot⟩

/-- What a hand-off leaves of them (R100). -/
theorem handOff_motion (i : SensorId) (s : State) :
    (handOff i s).sensors = s.sensors ∧ (handOff i s).latch = s.latch ∧ (handOff i s).ffr = s.ffr
      ∧ (handOff i s).prot.copies = s.prot.copies.set i { enabled := s.sensors[i].enabled, conds := s.sensors[i].conds }
      ∧ (handOff i s).prot.latchCopy = s.latch.isSome :=
  ⟨(handOff_work i s).sensors, (handOff_work i s).latch, handOff_ffr i s, by rw [(handOff_work i s).prot]; rfl,
   by rw [(handOff_work i s).prot]; rfl⟩

section Frame

variable {s : State} {i : SensorId} (first : Half) (samples : List (Int × Int × Int))

theorem samplesFrame_disabled (h : s.sensors[i].enabled = false) : samplesFrame i first samples s = s := if_pos h

theorem samplesFrame_requested (he : s.sensors[i].enabled = true) (hr : s.sensors[i].requested.isSome = true) :
    samplesFrame i first samples s = restartBlind i s := by
  unfold samplesFrame
  dsimp only
  rw [if_neg (by rw [he]; decide), if_pos hr]

theorem samplesFrame_expected (he : s.sensors[i].enabled = true) (hr : s.sensors[i].requested = none) {e : Half}
    (hx : s.sensors[i].expected = some e) :
    samplesFrame i first samples s =
      if 32768 ≤ (first - e).toNat then restartBlind i s else acceptFrame i ((first - e).toNat ≠ 0) first samples s := by
  unfold samplesFrame
  dsimp only
  rw [if_neg (by rw [he]; decide), if_neg (by rw [hr]; decide), hx]

theorem samplesFrame_first (he : s.sensors[i].enabled = true) (hr : s.sensors[i].requested = none)
    (hx : s.sensors[i].expected = none) : samplesFrame i first samples s = acceptFrame i false first samples s := by
  unfold samplesFrame
  dsimp only
  rw [if_neg (by rw [he]; decide), if_neg (by rw [hr]; decide), hx]

end Frame

/-- The sensor at the taking of an accepted frame (R81, R83, R95). -/
def SensorRecord.accepting (r : SensorRecord) (gap : Bool) (first : Half) (n : Nat) (due : Count) : SensorRecord :=
  { r with
    lowRun := if gap then 0 else r.lowRun, highRun := if gap then 0 else r.highRun
    tiltRun := if gap then 0 else r.tiltRun, untiltRun := if gap then 0 else r.untiltRun
    conds := { r.conds with blind := false }, expected := some (first + BitVec.ofNat 16 n), blindDue := some due }

theorem acceptFrame_eq (i : SensorId) (gap : Bool) (first : Half) (samples : List (Int × Int × Int)) (s : State) :
    acceptFrame i gap first samples s =
      handOff i (takeSamples i first samples (s.updSensor i (·.accepting gap first samples.length (s.after s.thresholds.blindTime)))) := by
  cases gap <;> rfl

theorem samplesFrame_others (i : SensorId) (first : Half) (samples : List (Int × Int × Int)) (s : State) {j : SensorId} (hj : j ≠ i) :
    (samplesFrame i first samples s).sensors[j] = s.sensors[j] := by
  have accepted (gap : Bool) : (acceptFrame i gap first samples s).sensors[j] = s.sensors[j] := by
    rw [acceptFrame_eq, (handOff_motion i _).1, (takeSamples_motion i _ _ _).others j hj, updSensor_other _ _ hj]
  unfold samplesFrame
  dsimp only
  split
  · rfl
  · split
    · exact updSensor_other _ _ hj
    · split
      · exact accepted _
      · split
        · exact updSensor_other _ _ hj
        · exact accepted _

theorem takeSample_enabled (i : SensorId) (c : Half) (x y z : Int) (s : State) :
    (takeSample i c x y z s).sensors[i].enabled = s.sensors[i].enabled := by
  rw [takeSample_eq, updSensor_same, fallen_eq s _ _ _ _ rfl rfl rfl, fallStep_record _ _ _ _ _ _ _ rfl]
  simp [SensorRecord.joltStep, SensorRecord.rollStep, SensorRecord.tiltStep, SensorRecord.withConds]

theorem takeSamples_enabled (i : SensorId) (samples : List (Int × Int × Int)) (c : Half) (s : State) :
    (takeSamples i c samples s).sensors[i].enabled = s.sensors[i].enabled := by
  induction samples generalizing c s with
  | nil => rfl
  | cons x rest ih => exact (ih _ _).trans (takeSample_enabled i c _ _ _ s)

end Sys2Proof.Machine

namespace Sys2Proof.Proofs

open Sys2Proof.Machine

/-- Settles O59: the fall by its written-out outcome, then the record step by step. -/
theorem samplesAreTakenOneByOne : Obligations.SamplesAreTakenOneByOne := by
  refine ⟨fun s i counter => ⟨rfl, fun x y z rest => rfl⟩, ?_⟩
  intro s t i counter x y z r q m high low tilted lowRun highRun tiltRun untiltRun mean ht hr hq hm hhigh hlow htilted hlr hhr htr hur
    hmean b1 b2 b3 b4
  have taken : t = (s.fallen i high low counter).updSensor i fun e =>
      { ((e.joltStep s.thresholds high).rollStep s.thresholds (vibration m)).tiltStep s.thresholds tilted with
        lastSample := some { counter := counter, x := x, y := y, z := z } } := by
    rw [ht, takeSample_eq, hhigh, hlow, htilted, hm, hr]
  rw [fallen_eq s i high low counter hr rfl rfl, fallStep_record r s.thresholds s.now s.after high low counter
    (hlr.trans (runAfter_eq_min b1 low).symm)] at taken
  clear ht
  have record := hq
  rw [taken, updSensor_same] at record
  simp only [Fin.getElem_fin, Vector.getElem_set_self] at record
  have highs : highRun = runAfter high r.highRun := hhr.trans (runAfter_eq_min b2 high).symm
  have tilts : tiltRun = runAfter tilted r.tiltRun := htr.trans (runAfter_eq_min b3 tilted).symm
  have untilts : untiltRun = runAfter (!tilted) r.untiltRun := hur.trans (by rw [runAfter_eq_min b4]; cases tilted <;> rfl)
  rw [later_steps_record (highRun := highRun) (tiltRun := tiltRun) (untiltRun := untiltRun) (mean := mean) (hh := ?_) (ht := ?_)
    (hu := ?_) (hm := ?_)] at record
  rotate_left
  · exact highs
  · exact tilts
  · exact untilts
  · exact hmean
  refine ⟨fun j hj => ?_, by rw [taken]; rfl, ⟨fun he => ?_, fun he => ?_⟩, ?_⟩
  · rw [taken, updSensor_other _ _ hj]
    exact updSensor_other s (fun _ => _) hj
  · rw [record, taken, he]
    exact ⟨rfl, rfl, rfl, rfl⟩
  · rw [record, taken, he]
    exact ⟨rfl, rfl, rfl, rfl⟩
  · rw [record]

/-- Settles O58: the frame by its cases; what follows the hand-off leaves the sensors, the latch and the fault record. -/
theorem samplesAreDiscardedOrTaken : Obligations.SamplesAreDiscardedOrTaken := by
  intro s i f first samples hs hi hp
  rw [exec_taken (c := .samples f) rfl hs (takenBy_samples hs.ofKind hi hp)]
  obtain ⟨sensors, latch, ffr, prot⟩ := conclude_motion s.begin (samplesFrame i first samples (s.acked f.initiator))
  refine ⟨_, rfl, fun j hj => ?_, fun he => ?_, fun he hr => ?_, fun gap he hr hx => ?_⟩
  · rw [sensors]
    exact samplesFrame_others i first samples _ hj
  · rw [sensors, latch, samplesFrame_disabled (s := s.acked f.initiator) _ _ he]
    exact ⟨rfl, rfl⟩
  · have e : samplesFrame i first samples (s.acked f.initiator) = restartBlind i (s.acked f.initiator) := by
      rcases hq : s.sensors[i].requested with _ | rate
      · obtain ⟨e, hx, hold⟩ := hr.resolve_left (by rw [hq]; decide)
        rw [samplesFrame_expected (s := s.acked f.initiator) _ _ he hq hx, if_pos hold]
      · exact samplesFrame_requested (s := s.acked f.initiator) _ _ he (congrArg Option.isSome hq)
    rw [sensors, latch, e]
    exact ⟨updSensor_same _ _ _, rfl⟩
  · have e : samplesFrame i first samples (s.acked f.initiator) = acceptFrame i gap first samples (s.acked f.initiator) := by
      rcases hx with ⟨hx, rfl⟩ | ⟨e, hx, fresh, hg⟩
      · exact samplesFrame_first (s := s.acked f.initiator) _ _ he hr hx
      · have hgap : decide ((first - e).toNat ≠ 0) = gap := by
          rw [Bool.eq_iff_iff, decide_eq_true_iff, hg]
          simp [← BitVec.toNat_inj, BitVec.toNat_sub]
          omega
        rw [samplesFrame_expected (s := s.acked f.initiator) _ _ he hr hx, if_neg (Nat.not_le.mpr fresh), hgap]
    obtain ⟨u, hu⟩ : ∃ u, s.acked f.initiator = s.onBus u := ⟨_, rfl⟩
    have taken : takeSamples i first samples
        ((s.onBus u).updSensor i (·.accepting gap first samples.length ((s.onBus u).after (s.onBus u).thresholds.blindTime)))
        = (takeSamples i first samples
            (s.updSensor i (·.accepting gap first samples.length (s.after s.thresholds.blindTime)))).onBus u :=
      takeSamples_onBus i u samples first (s.updSensor i (·.accepting gap first samples.length (s.after s.thresholds.blindTime)))
    rw [e, hu, acceptFrame_eq, taken] at sensors latch ffr prot
    obtain ⟨sensors', latch', ffr', copies, latchCopy⟩ := handOff_motion i ((takeSamples i first samples
      (s.updSensor i (·.accepting gap first samples.length (s.after s.thresholds.blindTime)))).onBus u)
    rw [e, hu, acceptFrame_eq, taken, sensors, latch, ffr, prot, sensors', latch', ffr', copies, latchCopy]
    refine ⟨rfl, rfl, rfl, ?_, rfl⟩
    have enabled := takeSamples_enabled i samples first
      (s.updSensor i (·.accepting gap first samples.length (s.after s.thresholds.blindTime)))
    rw [updSensor_same] at enabled
    have copy := congrArg (fun p : Protection => p.copies) (takeSamples_motion i samples first
      (s.updSensor i (·.accepting gap first samples.length (s.after s.thresholds.blindTime)))).prot
    exact congrArg₂ (fun (v : Vector MotionCopy 4) (e : Bool) => v.set i { enabled := e, conds := _ }) copy (enabled.trans he)

end Sys2Proof.Proofs
end

section
/-! PROOFS. A change of level on a part whose bays have neither requests nor protective operations nor a restore to make, and the
events that bring one about. -/

namespace Sys2Proof.Machine

set_option Elab.async false

/-! ### Passes over quiet bays (R106) -/

/-- No bay has a request, a protective operation or a restore to make. -/
structure State.Quiet (s : State) : Prop where
  queue : ∀ b, (s.bay b).queue = []
  slot : ∀ b, (s.bay b).slot = none
  intent : ∀ b, (s.bay b).restoreIntent = false

/-- The sweep level that pass 1 leaves a bay whose effective level was `o` (R106, R110, R121). -/
def State.sweptTo (s : State) (sweeping : Bool) (b : Bay) (o : Level) : Level :=
  if sweeping ∧ o.val < (s.level b).val ∧ s.prot.action (s.level b) ≠ .none
      ∧ (minLevel (s.bay b).sweepLevel (s.level b)).val < (s.level b).val then s.level b
  else minLevel (s.bay b).sweepLevel (s.level b)

/-- A change of the bay's own record that keeps its zone keeps its effective level (R105). -/
theorem updBay_level (s : State) (b c : Bay) {f : BayRecord → BayRecord} (hf : (f (s.bay b)).zone = (s.bay b).zone) :
    (s.updBay b f).level c = s.level c := by
  unfold State.level
  rw [updBay_bay]
  split
  · next h => rw [h, hf]; rfl
  · rfl

theorem sweptTo_updBay_other (s : State) (sweeping : Bool) {b c : Bay} {f : BayRecord → BayRecord} (o : Level) (hc : c ≠ b)
    (hf : (f (s.bay b)).zone = (s.bay b).zone) : (s.updBay b f).sweptTo sweeping c o = s.sweptTo sweeping c o := by
  unfold State.sweptTo
  simp only [updBay_level s b c hf, updBay_bay_other s f hc, updBay_prot]

theorem head_none {s : State} {b : Bay} (h : (s.bay b).queue = []) : s.head b = none := by rw [State.head, h]; rfl

theorem forbidAdmitting_none {s : State} {b : Bay} (h : s.head b = none) : forbidAdmitting b s = s := by
  unfold forbidAdmitting
  rw [h]

/-- An action for which the table of R112 names nothing. -/
theorem applyAction_unnamed {s : State} {b : Bay} (a : Action) (l : Level) (h : ∀ k, protEntry k (s.bay b).state = .none) :
    applyAction b a l s = s := by
  unfold applyAction
  cases a.kind with
  | none => rfl
  | some k => exact if_pos (h k)

theorem protEntry_stopped {st : BayState} (h : st = .off ∨ st = .empty) (k : ProtKind) : protEntry k st = .none := by
  rcases h with rfl | rfl <;> cases k <;> rfl

theorem visitSweep_quiet {s : State} (q : s.Quiet) {sweeping : Bool} {b : Bay} {o : Level}
    (h : sweeping = false ∨ (s.level b).val ≤ o.val ∨ (s.bay b).state = .off ∨ (s.bay b).state = .empty) :
    visitSweep sweeping b o s = s.updBay b fun r => { r with sweepLevel := s.sweptTo sweeping b o } := by
  have none (f : BayRecord → BayRecord) (hf : (f (s.bay b)).queue = (s.bay b).queue) : (s.updBay b f).head b = none :=
    head_none (by rw [updBay_bay_same, hf, q.queue])
  unfold visitSweep State.sweptTo
  dsimp only
  simp only [updBay_bay_same, updBay_prot]
  by_cases rise : sweeping = true ∧ o.val < (s.level b).val ∧ s.prot.action (s.level b) ≠ .none
      ∧ (minLevel (s.bay b).sweepLevel (s.level b)).val < (s.level b).val
  · have stopped : (s.bay b).state = .off ∨ (s.bay b).state = .empty :=
      (h.resolve_left (by simp [rise.1])).resolve_left (Nat.not_le.mpr rise.2.1)
    simp only [if_pos rise]
    rw [applyAction_unnamed _ _ (by simp only [updBay_bay_same]; exact protEntry_stopped stopped), updBay_updBay,
      forbidAdmitting_none (none _ rfl), ite_self]
  · simp only [if_neg rise]
    rw [forbidAdmitting_none (none (fun r => { r with sweepLevel := minLevel r.sweepLevel (s.level b) }) rfl), ite_self]
    simp [State.updBay]

/-- A bay's sweep level set keeps the bays quiet. -/
theorem State.Quiet.swept {s : State} (q : s.Quiet) (b : Bay) (l : Level) : (s.updBay b fun r => { r with sweepLevel := l }).Quiet where
  queue c := by rw [updBay_bay]; split; exacts [q.queue b, q.queue c]
  slot c := by rw [updBay_bay]; split; exacts [q.slot b, q.slot c]
  intent c := by rw [updBay_bay]; split; exacts [q.intent b, q.intent c]

/-- Pass 1 over quiet bays moves sweep levels alone. -/
theorem foldl_visitSweep_quiet (sweeping : Bool) (o : Bay → Level) (l : List Bay) {s : State} (q : s.Quiet) (nodup : l.Nodup)
    (h : ∀ b ∈ l, sweeping = false ∨ (s.level b).val ≤ (o b).val ∨ (s.bay b).state = .off ∨ (s.bay b).state = .empty) :
    (l.foldl (fun s b => visitSweep sweeping b (o b) s) s)
        = { s with bays := (l.foldl (fun s b => visitSweep sweeping b (o b) s) s).bays }
      ∧ (l.foldl (fun s b => visitSweep sweeping b (o b) s) s).Quiet
      ∧ ∀ c, (l.foldl (fun s b => visitSweep sweeping b (o b) s) s).bay c =
          if c ∈ l then { s.bay c with sweepLevel := s.sweptTo sweeping c (o c) } else s.bay c := by
  induction l generalizing s with
  | nil => exact ⟨rfl, q, fun c => rfl⟩
  | cons b l ih =>
    obtain ⟨hb, nodup⟩ := List.nodup_cons.mp nodup
    simp only [List.foldl_cons]
    rw [visitSweep_quiet q (h b List.mem_cons_self)]
    have level (c : Bay) : (s.updBay b fun r => { r with sweepLevel := s.sweptTo sweeping b (o b) }).level c = s.level c :=
      updBay_level s b c rfl
    obtain ⟨rest, quiet, bays⟩ := ih (q.swept b (s.sweptTo sweeping b (o b))) nodup fun c hc => by
      have hcb : c ≠ b := fun e => hb (e ▸ hc)
      rw [level, updBay_bay_other _ _ hcb]
      exact h c (List.mem_cons_of_mem b hc)
    refine ⟨rest, quiet, fun c => ?_⟩
    rw [bays]
    by_cases hc : c = b
    · subst hc
      simp [hb]
    · rw [sweptTo_updBay_other s sweeping (o c) hc rfl, updBay_bay_other _ _ hc]
      simp [hc]

theorem placeParks_none {s : State} (h : ∀ b, (s.bay b).slot = none) : placeParks s = s := by
  unfold placeParks
  rw [if_neg]
  simp [State.callsForPark, State.parkUnstarted, h]

theorem recheckDeferred_none {s : State} {b : Bay} (h : s.head b = none) : recheckDeferred b s = s := by
  unfold recheckDeferred
  rw [h]

theorem restoreNow_none {s : State} {b : Bay} (h : (s.bay b).restoreIntent = false) : restoreNow b s = s :=
  if_neg (by simp [State.restoreDue, h])

theorem foldl_id {α : Type} {f : State → α → State} {s : State} (l : List α) (h : ∀ a ∈ l, f s a = s) : l.foldl f s = s := by
  induction l with
  | nil => rfl
  | cons a l ih =>
    rw [List.foldl_cons, h a List.mem_cons_self]
    exact ih fun c hc => h c (List.mem_cons_of_mem a hc)

/-- The passes of R106 over quiet bays. -/
theorem carryOut_quiet (sweeping : Bool) (o : Bay → Level) {l : List Bay} {s : State} (q : s.Quiet) (empty : s.adm.queue = [])
    (nodup : l.Nodup)
    (h : ∀ b ∈ l, sweeping = false ∨ (s.level b).val ≤ (o b).val ∨ (s.bay b).state = .off ∨ (s.bay b).state = .empty) :
    carryOut sweeping (l.map fun b => (b, o b)) s = { s with bays := (carryOut sweeping (l.map fun b => (b, o b)) s).bays }
      ∧ ∀ c, (carryOut sweeping (l.map fun b => (b, o b)) s).bay c =
          if c ∈ l then { s.bay c with sweepLevel := s.sweptTo sweeping c (o c) } else s.bay c := by
  obtain ⟨rest, quiet, bays⟩ := foldl_visitSweep_quiet sweeping o l q nodup h
  have e : carryOut sweeping (l.map fun b => (b, o b)) s = l.foldl (fun s b => visitSweep sweeping b (o b) s) s := by
    unfold carryOut
    simp only [List.foldl_map]
    rw [placeParks_none quiet.slot, examine_nil _ (by rw [rest]; exact empty)]
    refine foldl_id l fun b _ => ?_
    rw [visitRecheck, recheckDeferred_none (head_none (quiet.queue b)), restoreNow_none (quiet.intent b)]
  rw [e]
  exact ⟨rest, bays⟩

/-! ### The LEVEL notices (R106 step 1) -/

/-- The notices of these zones, of the levels before and after (R106). -/
theorem foldl_postLevel (old new : ZoneLevels) (zones : List Zone) {s : State} (h : s.prot.levels = new) :
    zones.foldl (fun s z => postLevel old z s) s =
      { s with notices := s.notices.handAll (zones.filterMap fun z =>
          if old.of z = new.of z then none else some (.level z (old.of z) (new.of z) s.now)) } := by
  induction zones generalizing s with
  | nil => rfl
  | cons z zones ih =>
    have one : postLevel old z s = if old.of z = new.of z then s else postNotice (.level z (old.of z) (new.of z) s.now) s := by
      unfold postLevel
      rw [h]
    rw [List.foldl_cons, one, List.filterMap_cons]
    split
    · exact ih h
    · rw [ih (s := postNotice _ s) h]
      rfl

/-- The part with other zone levels, their notices posted. -/
def State.relevelled (s : State) : State :=
  { s.leveled with notices := s.notices.handAll (s.levelNews s.prot.computeLevels) }

/-- Where the levels stay, no LEVEL notice is given. -/
theorem levelNews_same (s : State) : s.levelNews s.prot.levels = [] := by simp [State.levelNews]

/-! ### The levels recomputed (R101, R106) -/

/-- The sweep level a bay has after its effective level is computed anew. -/
def State.resweptTo (s : State) (sweeping : Bool) (b : Bay) : Level := s.leveled.sweptTo sweeping b (s.level b)

/-- Levels that differ are carried out for the bays whose effective level changed (R101, R106). -/
theorem recomputeLevels_moved (sweeping : Bool) {s : State} (other : s.prot.computeLevels ≠ s.prot.levels) :
    recomputeLevels sweeping s
      = carryOut sweeping ((allBays.filter fun b => (s.bay b).state ≠ .empty ∧ s.level b ≠ s.relevelled.level b).map
          fun b => (b, s.level b)) s.relevelled := by
  unfold recomputeLevels
  dsimp only
  rw [if_neg other, levelChange,
    foldl_postLevel s.prot.levels s.prot.computeLevels zoneOrder (s := { s with prot := { s.prot with levels := s.prot.computeLevels } }) rfl]
  rfl

/-- On a part whose bays are quiet, where no bay that is spun up meets a higher level in a sweep, the levels, their notices and the
sweep levels change alone. -/
theorem recomputeLevels_quiet (sweeping : Bool) {s : State} (q : s.Quiet) (empty : s.adm.queue = [])
    (h : ∀ b, sweeping = false ∨ (s.leveled.level b).val ≤ (s.level b).val ∨ (s.bay b).state = .off ∨ (s.bay b).state = .empty) :
    recomputeLevels sweeping s = { s.relevelled with bays := (recomputeLevels sweeping s).bays }
      ∧ ∀ b, (recomputeLevels sweeping s).bay b =
          if (s.bay b).state ≠ .empty ∧ s.level b ≠ s.leveled.level b then
            { s.bay b with sweepLevel := s.resweptTo sweeping b } else s.bay b := by
  by_cases same : s.prot.computeLevels = s.prot.levels
  · have e : s.leveled = s := by
      unfold State.leveled
      rw [same]
    have kept : recomputeLevels sweeping s = s := by
      unfold recomputeLevels
      exact if_pos same
    rw [kept]
    refine ⟨?_, fun b => ?_⟩
    · unfold State.relevelled
      rw [e, same, levelNews_same]
      rfl
    · rw [e]
      simp
  · obtain ⟨rest, bays⟩ := carryOut_quiet sweeping (l := allBays.filter fun b =>
        (s.bay b).state ≠ .empty ∧ s.level b ≠ s.relevelled.level b) (s := s.relevelled) s.level ⟨q.queue, q.slot, q.intent⟩ empty
      (allBays_nodup.filter _) fun b _ => h b
    rw [recomputeLevels_moved sweeping same]
    refine ⟨rest, fun b => ?_⟩
    rw [bays]
    simp only [List.mem_filter, mem_allBays, true_and, decide_eq_true_iff]
    rfl

theorem sweptTo_lowered {s : State} {sweeping : Bool} {b : Bay} {o : Level} (h : sweeping = false ∨ (s.level b).val ≤ o.val) :
    s.sweptTo sweeping b o = minLevel (s.bay b).sweepLevel (s.level b) := by
  refine if_neg fun k => ?_
  rcases h with h | h
  · exact absurd k.1 (by simp [h])
  · exact absurd k.2.1 (Nat.not_lt.mpr h)

/-- What the levels computed anew leave of a part where nothing stands. -/
theorem recomputeLevels_unengaged {sweeping : Bool} {s u : State} (hs : s.Unengaged)
    (h : u = { s.relevelled with bays := u.bays }
      ∧ ∀ b, u.bay b = if (s.bay b).state ≠ .empty ∧ s.level b ≠ s.leveled.level b then
          { s.bay b with sweepLevel := s.resweptTo sweeping b } else s.bay b) : u.Unengaged := by
  obtain ⟨rest, bays⟩ := h
  have bus : u.bus = s.bus := by rw [rest]; rfl
  have adm : u.adm = s.adm := by rw [rest]; rfl
  refine ⟨by rw [bus]; exact hs.urgent, by rw [bus]; exact hs.normal, fun b => ?_, by rw [adm]; exact hs.admission, ?_⟩
  · rw [bays]
    split
    · exact hs.waiting b
    · exact hs.waiting b
  · rw [State.FlagFollows, adm]
    exact hs.flag

/-- On a calm part, levels computed anew in an event that is answered (R101, R106): the levels, their notices, the sweep levels and the
port change. -/
theorem relevelled_answered {s v : State} {sweeping : Bool} (calm : s.Calm)
    (hv : v = { s.heard with prot := v.prot, latch := v.latch }) (levels : v.prot.levels = s.prot.levels)
    (lowered : sweeping = false ∨ ∀ b, (v.leveled.level b).val ≤ (s.level b).val) (r : Reply) :
    Answers (.next (conclude s.heard (placeReply r (recomputeLevels sweeping v)))) fun t =>
      t.prot = v.leveled.prot ∧ t.latch = v.latch
        ∧ (∀ b, t.bay b = if (s.bay b).state ≠ .empty ∧ s.level b ≠ t.level b then
            { s.bay b with sweepLevel := minLevel (s.bay b).sweepLevel (t.level b) } else s.bay b)
        ∧ t.link = s.link.answer r ∧ t.notices = s.notices.handAll (s.levelNews t.prot.levels)
        ∧ t = { s with bays := t.bays, prot := t.prot, latch := t.latch, bus := idleBus [], link := t.link, notices := t.notices
                       alertLine := t.alertHolds } := by
  have bay (b : Bay) : v.bay b = s.bay b := by rw [hv]; rfl
  have level (b : Bay) : v.level b = s.level b := by rw [State.level, bay, levels]; rfl
  have h := recomputeLevels_quiet sweeping (s := v) ⟨fun b => by rw [bay]; exact calm.queue b, fun b => by rw [bay]; exact calm.slot b,
    fun b => by rw [bay]; exact calm.intent b⟩ (by rw [hv]; exact calm.admission)
    fun b => lowered.imp_right fun k => .inl (by rw [level]; exact k b)
  have idle : v.Unengaged := by
    rw [hv]
    exact ⟨calm.urgent, calm.normal, calm.waiting, calm.admission, calm.flag⟩
  have idle' := recomputeLevels_unengaged idle h
  obtain ⟨rest, bays⟩ := h
  generalize recomputeLevels sweeping v = u at rest bays idle' ⊢
  have prot : u.prot = v.leveled.prot := by rw [rest]; rfl
  have survey : u.survey = s.survey := by rw [rest]; show v.survey = _; rw [hv]; rfl
  rw [conclude_placeReply _ idle' (by rw [survey]; exact calm.survey)]
  have newLevel (b : Bay) : u.level b = v.leveled.level b := by
    have zone : (u.bay b).zone = (v.bay b).zone := by
      rw [bays]
      split
      · rfl
      · rfl
    rw [State.level, prot, zone]
    rfl
  refine ⟨_, rfl, prot, by show u.latch = _; rw [rest]; rfl, fun b => ?_, ?_, ?_, ?_⟩
  · show u.bay b = if (s.bay b).state ≠ .empty ∧ s.level b ≠ u.level b then
      { s.bay b with sweepLevel := minLevel (s.bay b).sweepLevel (u.level b) } else s.bay b
    have swept : v.resweptTo sweeping b = minLevel (s.bay b).sweepLevel (u.level b) := by
      rw [State.resweptTo, sweptTo_lowered (lowered.imp_right fun k => by rw [level]; exact k b), newLevel,
        show v.leveled.bay b = s.bay b from bay b]
    rw [bays, bay, level, newLevel, swept, newLevel]
  · show u.link.given [r] = _
    rw [rest]
    show v.link.given [r] = _
    rw [hv]
    rfl
  · show u.notices = s.notices.handAll (s.levelNews u.prot.levels)
    rw [prot, rest]
    show v.notices.handAll (v.levelNews _) = _
    rw [State.levelNews, levels, hv]
    rfl
  · rw [rest, hv, ← Resting.bus calm.toResting []]
    rfl

/-! ### Levels that can only fall (R103) -/

theorem computeLevels_mono {p q : Protection} (sensor : ∀ i, (p.sensorLevel i).val ≤ (q.sensorLevel i).val)
    (caseWide : p.caseWide.val ≤ q.caseWide.val) (z : Zone) : (p.computeLevels.of z).val ≤ (q.computeLevels.of z).val := by
  cases z with
  | sensor i =>
    show (p.computeLevels.sensor[i]).val ≤ (q.computeLevels.sensor[i]).val
    rw [computeLevels_sensor, computeLevels_sensor, maxLevel_val, maxLevel_val]
    exact max_le_max caseWide (sensor i)
  | all =>
    show p.computeLevels.all.val ≤ q.computeLevels.all.val
    rw [computeLevels_all_val, computeLevels_all_val]
    exact max_le_max caseWide (max_le_max (max_le_max (sensor 0) (sensor 1)) (max_le_max (sensor 2) (sensor 3)))

/-- A latch copy that clears lowers no term but the impact one. -/
theorem unlatched_le (p : Protection) (z : Zone) :
    (({ p with latchCopy := false } : Protection).computeLevels.of z).val ≤ (p.computeLevels.of z).val := by
  refine computeLevels_mono (p := { p with latchCopy := false }) (q := p) (fun i => Nat.le_refl (p.sensorLevel i).val) ?_ z
  rw [caseWide_val, caseWide_val]
  exact max_le_max le_rfl (Nat.zero_le _)

/-- A copy in which Jolt clears lowers its sensor's level alone. -/
theorem unjolted_le {p : Protection} {i : SensorId} {c : MotionCopy} (h : p.copies[i] = c) (z : Zone) :
    (({ p with copies := p.copies.set i { c with conds := { c.conds with jolt := false } } } : Protection).computeLevels.of z).val
      ≤ (p.computeLevels.of z).val := by
  have copy (j : SensorId) : (p.copies.set i { c with conds := { c.conds with jolt := false } })[j]
      = if j = i then { c with conds := { c.conds with jolt := false } } else p.copies[j] := by
    by_cases e : j = i
    · subst e
      simp
    · have : i.val ≠ j.val := fun k => e (Fin.ext k.symm)
      simp [e, Vector.getElem_set_ne, this]
  have enabled (j : SensorId) : (if j = i then { c with conds := { c.conds with jolt := false } } else p.copies[j]).enabled
      = p.copies[j].enabled := by
    split
    · next e => rw [e, h]
    · rfl
  have falling (j : SensorId) : (if j = i then { c with conds := { c.conds with jolt := false } } else p.copies[j]).conds.falling
      = p.copies[j].conds.falling := by
    split
    · next e => rw [e, h]
    · rfl
  refine computeLevels_mono (p := { p with copies := p.copies.set i { c with conds := { c.conds with jolt := false } } }) (q := p)
    (fun j => ?_) ?_ z
  · simp only [Protection.sensorLevel, copy]
    by_cases e : j = i
    · subst e
      simp only [if_true, h]
      split
      · simp only [maxLevel_val, levelTerm_val, Bool.false_eq_true, if_false, Nat.zero_max]
        exact max_le_max le_rfl (le_max_right _ _)
      · exact Nat.zero_le _
    · simp only [e, if_false]
      exact le_rfl
  · have same : ({ p with copies := p.copies.set i { c with conds := { c.conds with jolt := false } } } : Protection).someFalling
        = p.someFalling := by
      rw [Bool.eq_iff_iff, someFalling_iff, someFalling_iff]
      simp only [copy, enabled, falling]
    rw [caseWide_val, caseWide_val, same]

/-! ### The falling sensor (R123) -/

theorem find_lowest {p : SensorId → Bool} {i : SensorId} (here : p i = true) (below : ∀ j : SensorId, j.val < i.val → p j = false) :
    allSensors.find? p = some i := by
  unfold allSensors
  match i with
  | 0 => simp [List.find?, here]
  | 1 => simp [List.find?, here, below 0 (by decide)]
  | 2 => simp [List.find?, here, below 0 (by decide), below 1 (by decide)]
  | 3 => simp [List.find?, here, below 0 (by decide), below 1 (by decide), below 2 (by decide)]

theorem fallingSensor_lowest {s : State} {i : SensorId} (he : s.sensors[i].enabled = true) (hf : s.sensors[i].conds.falling = true)
    (hlow : ∀ j : SensorId, j.val < i.val → ¬ (s.sensors[j].enabled = true ∧ s.sensors[j].conds.falling = true)) :
    s.fallingSensor = some i :=
  find_lowest (by rw [he, hf]; rfl) fun j hj => by simpa using hlow j hj

theorem fallingSensor_none {s : State} (h : ∀ j : SensorId, ¬ (s.sensors[j].enabled = true ∧ s.sensors[j].conds.falling = true)) :
    s.fallingSensor = none := by
  unfold State.fallingSensor
  rw [List.find?_eq_none]
  intro j _
  simpa using h j

end Sys2Proof.Machine

namespace Sys2Proof.Proofs

open Sys2Proof.Machine

/-- Settles O39: refused, Already, or the levels without the latch. -/
theorem motionResumeClearsTheLatch : Obligations.MotionResumeClearsTheLatch := by
  have served (s : State) (h : Header) (src : Source) (hs : s.HearsManager h src) :
      exec (.motionResume h []) s = .next (conclude s.heard (serveMotionResume h.tag s.heard)) := by
    rw [exec_managed_loud rfl hs.toHears (by simp) rfl rfl, serveManagement_motionResume (s := s.heard) hs.manager]
  refine ⟨fun s h src i hs rest he hf hlow => ?_, fun s h src hs rest hn hl => ?_, fun s h src hs calm hn hl holds => ?_⟩
  · have lowest : s.heard.fallingSensor = some i := fallingSensor_lowest he hf hlow
    rw [served s h src hs, serveMotionResume, lowest]
    exact congrArg Host.Outcome.next (conclude_placeReply_heard rest _)
  · rw [served s h src hs, serveMotionResume, fallingSensor_none (s := s.heard) hn]
    simp only [show s.heard.latch = none from hl, Option.isNone_none, if_true]
    exact congrArg Host.Outcome.next (conclude_placeReply_heard rest _)
  · have latched : s.heard.latch.isNone = false := by
      show s.latch.isNone = false
      rw [← Option.not_isSome, hl]
      rfl
    have e : serveMotionResume h.tag s.heard = answerDone h.tag [] (clearLatch s.heard) := by
      rw [serveMotionResume, fallingSensor_none (s := s.heard) hn]
      simp only [latched, Bool.false_eq_true, if_false]
    rw [served s h src hs, e]
    obtain ⟨t, ht, prot, latch, bays, link, notices, rest⟩ := relevelled_answered (sweeping := true)
      (v := { s.heard with latch := none, prot := { s.prot with latchCopy := false } }) calm rfl rfl
      (.inr fun b => by
        show (({ s.prot with latchCopy := false } : Protection).computeLevels.of (s.bay b).zone).val ≤ (s.prot.levels.of (s.bay b).zone).val
        rw [holds.1]
        exact unlatched_le s.prot _)
      { tag := h.tag, completion := { code := .done, secondary := 0 }, payload := [], echo := none }
    refine ⟨t, ht, latch, ⟨?_, ?_⟩, ?_, bays, link, notices, ?_⟩
    · rw [prot]; rfl
    · rw [prot, latch]; rfl
    · rw [prot]; rfl
    · rw [latch] at rest
      exact rest

end Sys2Proof.Proofs
end

section
/-! PROOFS. Writes of the tables that the levels and the restores follow, and the expiries that a sensor hands over. -/

namespace Sys2Proof.Machine

set_option Elab.async false

/-! ### Table writes on a calm part (R121, R122, R152) -/

section Writes

variable {x : Byte} (tag : Byte) (s : State)

theorem writeEntry_levelMap {i : Fin 6} {l : Level} (hx : x.toNat = i.val) (y : Byte) (hl : l.val = min y.toNat 7) :
    writeEntry tag 3 x [y] s =
      placeReply (replyTo tag (.plain .done) [3, x, byte l.val]) (writeLevelMap i l s) := by
  have hn : x.toNat < 6 := hx ▸ i.isLt
  obtain rfl : i = ⟨x.toNat, hn⟩ := Fin.ext hx.symm
  have e : (⟨min y.toNat 7, by omega⟩ : Level) = l := Fin.ext hl.symm
  have map : (writeLevelMap ⟨x.toNat, hn⟩ l s).prot.map = s.prot.map.set x.toNat l := by
    rw [writeLevelMap, (recomputeLevels_work false _).prot]
    rfl
  have hr : (writeLevelMap ⟨x.toNat, hn⟩ l s).tableEntry 3 x.toNat = [byte l.val] := by
    show (if h : x.toNat < 6 then _ else _) = _
    rw [dif_pos hn]
    simp [map]
  have hw : writeEntry tag 3 x [y] s = answerEntry tag 3 x (writeLevelMap ⟨x.toNat, hn⟩ l s) :=
    (dif_pos hn).trans (congrArg (fun l => answerEntry tag 3 x (writeLevelMap ⟨x.toNat, hn⟩ l s)) e)
  rw [hw, answerEntry, hr]
  rfl

theorem writeEntry_levelAction {i : Fin 8} (hx : x.toNat = i.val) (a : Action) (y z : Byte) {u : State}
    (hu : writeLevelAction i ⟨a, lenient y, lenient z⟩ s = u)
    (entry : u.prot.actions = s.prot.actions.set i ⟨a, lenient y, lenient z⟩) :
    writeEntry tag 4 x [byte a.code, y, z] s =
      placeReply (replyTo tag (.plain .done) [4, x, byte a.code, yesNo (lenient y), yesNo (lenient z)]) u := by
  have hn : x.toNat < 8 := hx ▸ i.isLt
  obtain rfl : i = ⟨x.toNat, hn⟩ := Fin.ext hx.symm
  have ha : actionOf (byte a.code) = some a := by cases a <;> rfl
  have hw : writeEntry tag 4 x [byte a.code, y, z] s = answerEntry tag 4 x u := by
    show (if h : x.toNat < 8 then _ else _) = _
    rw [dif_pos hn, List.headD_cons, ha]
    exact congrArg (answerEntry tag 4 x) hu
  have hr : u.tableEntry 4 x.toNat = [byte a.code, yesNo (lenient y), yesNo (lenient z)] := by
    show (if h : x.toNat < 8 then _ else _) = _
    rw [dif_pos hn]
    simp [entry, ActionEntry.bytes]
  rw [hw, answerEntry, hr]
  rfl

theorem writeEntry_timing (e : List Byte) {u : State} (hu : writeTiming (timingFrom e) s = u) (entry : u.timing = timingFrom e) :
    writeEntry tag 10 0 e s = placeReply (replyTo tag (.plain .done) ([10, 0] ++ (timingFrom e).bytes)) u := by
  have hr : u.tableEntry 10 (0 : Byte).toNat = (timingFrom e).bytes := by
    show u.timing.bytes = _
    rw [entry]
  show answerEntry tag 10 0 (writeTiming (timingFrom e) s) = _
  rw [hu, answerEntry, hr]
  rfl

end Writes

/-- On a calm part no check or restore follows a write of the Level Action Table (R122). -/
theorem writeLevelAction_calm {s : State} (q : s.Quiet) (i : Fin 8) (e : ActionEntry) :
    writeLevelAction i e s = { s with prot := { s.prot with actions := s.prot.actions.set i e } } := by
  have checks := foldl_id (f := fun s b => recheckDeferred b s) (s := { s with prot := { s.prot with actions := s.prot.actions.set i e } })
    allBays fun b _ => recheckDeferred_none (head_none (q.queue b))
  have restores := foldl_id (f := fun s b => restoreNow b s) (s := { s with prot := { s.prot with actions := s.prot.actions.set i e } })
    allBays fun b _ => restoreNow_none (q.intent b)
  exact (congrArg (fun s => allBays.foldl (fun s b => restoreNow b s) s) checks).trans restores

/-- The stagger deadline under a new interval (R66). -/
def State.restaggered (s : State) (t : Timing) : Option Count :=
  match s.adm.staggerDue, s.adm.lastSpin with
  | some d, some u =>
    if t.stagger = s.timing.stagger then some d
    else if t.stagger ≤ (s.now - u).toNat then none
    else some (u + BitVec.ofNat 32 t.stagger)
  | d, _ => d

theorem settleForced_still {s : State} (flag : s.FlagFollows) (empty : s.adm.queue = []) : settleForced s = s := by
  rw [settleForced, evaluateBudget_of_flag s flag, examine_nil s empty]

/-- A write of the Timing record moves the record and the stagger deadline alone, where no admission waits and no restore is due
(R66, R152). -/
theorem writeTiming_calm {s : State} (q : s.Quiet) (empty : s.adm.queue = []) (flag : s.FlagFollows) (t : Timing) :
    writeTiming t s = { s with timing := t, adm := { s.adm with staggerDue := s.restaggered t } } := by
  have opened : settleForced (State.updAdm { s with timing := t } fun a => { a with staggerDue := none })
      = State.updAdm { s with timing := t } fun a => { a with staggerDue := none } := settleForced_still (by exact flag) (by exact empty)
  have kept (e : Option Count) (h : s.adm.staggerDue = e) :
      { s with timing := t } = State.updAdm { s with timing := t } fun a => { a with staggerDue := e } := by rw [← h]; rfl
  have stag (e : Option Count) (he : s.restaggered t = e) :
      (if t.stagger = s.timing.stagger then { s with timing := t } else restagger { s with timing := t })
        = State.updAdm { s with timing := t } fun a => { a with staggerDue := e } := by
    unfold State.restaggered at he
    unfold restagger
    rcases hd : s.adm.staggerDue with _ | d
    · simp only [hd, ite_self] at he ⊢
      exact kept e (hd.trans he)
    · rcases hu : s.adm.lastSpin with _ | u
      · simp only [hd, hu, ite_self] at he ⊢
        exact kept e (hd.trans he)
      · simp only [hd, hu] at he ⊢
        by_cases same : t.stagger = s.timing.stagger
        · rw [if_pos same] at he ⊢
          exact kept e (hd.trans he)
        · rw [if_neg same] at he ⊢
          by_cases long : t.stagger ≤ (s.now - u).toNat
          · rw [if_pos long] at he
            subst he
            exact (if_pos long).trans opened
          · rw [if_neg long] at he
            subst he
            exact if_neg long
  unfold writeTiming
  dsimp only
  rw [stag _ rfl]
  by_cases same : t.restoreCeiling = s.timing.restoreCeiling
  · rw [if_pos same]
    rfl
  · rw [if_neg same]
    exact foldl_id allBays fun b _ => restoreNow_none (q.intent b)

/-- An arrival that is answered on a part where nothing stands. -/
theorem conclude_answers (s0 : State) {u : State} (hu : u.Unengaged) (hs : u.survey.running = false) (r : Reply) :
    conclude s0 (placeReply r u.heard) = u.answered r := by
  rw [conclude_unengaged _ (placeReply r u.heard) ⟨hu.urgent, hu.normal, hu.waiting, hu.admission, hu.flag⟩ hs, close_placeReply_heard]

/-! ### Levels in an event of a sensor (R100, R106) -/

/-- Levels computed anew as the last work of an event where nothing stands, on quiet bays that need no sweep. -/
theorem relevelled_closes {s0 v : State} {sweeping : Bool} (idle : v.Unengaged) (survey : v.survey.running = false) (q : v.Quiet)
    (h : ∀ b, sweeping = false ∨ (v.leveled.level b).val ≤ (v.level b).val ∨ (v.bay b).state = .off ∨ (v.bay b).state = .empty) :
    ∃ u, conclude s0 (recomputeLevels sweeping v) = close u ∧ u = { v.relevelled with bays := u.bays }
      ∧ ∀ b, u.bay b = if (v.bay b).state ≠ .empty ∧ v.level b ≠ v.leveled.level b then
          { v.bay b with sweepLevel := v.resweptTo sweeping b } else v.bay b := by
  have recomputed := recomputeLevels_quiet sweeping q idle.admission h
  have idle' := recomputeLevels_unengaged idle recomputed
  exact ⟨_, conclude_unengaged s0 _ idle' (by rw [recomputed.1]; exact survey), recomputed⟩

theorem handAll_append (q : NoticeQueue) (ms ns : List Notice) : q.handAll (ms ++ ns) = (q.handAll ms).handAll ns := by
  simp [NoticeQueue.handAll]

theorem captureFault_eq (x : Subject) (c : Cause) (n : Nat) (w : Work) (s : State) :
    captureFault x c n w s = { s with ffr := s.faultTaken x c n w } := by
  unfold captureFault State.faultTaken satSucc
  cases s.ffr <;> rfl

/-! ### A fall that ends unseen (R90) -/

/-- The sensor after it. -/
def SensorRecord.fallEnded (r : SensorRecord) : SensorRecord :=
  if r.conds.falling then
    { r with conds := { r.conds with falling := false }, fallStart := none, lastFall := some { height := 65535, result := .impact } }
  else r

/-- The impact latch after it. -/
def State.unseenLatch (s : State) (i : SensorId) : Option ImpactRecord :=
  if s.sensors[i].conds.falling then some (s.latch.getD { sensor := i, height := 65535, time := s.now }) else s.latch

/-- Its notice. -/
def State.unseenNews (s : State) (i : SensorId) : List Notice :=
  if s.sensors[i].conds.falling then [.impact i 65535 s.now] else []

theorem endFallUnseen_eq (i : SensorId) (s : State) : endFallUnseen i s =
    { s with sensors := s.sensors.set i s.sensors[i].fallEnded, latch := s.unseenLatch i
             notices := s.notices.handAll (s.unseenNews i) } := by
  unfold endFallUnseen SensorRecord.fallEnded State.unseenLatch State.unseenNews
  by_cases h : s.sensors[i].conds.falling = true
  · simp only [if_pos h]
    have latch : (match s.latch with | some r => some r | none => some { sensor := i, height := 65535, time := s.now })
        = some (s.latch.getD { sensor := i, height := 65535, time := s.now }) := by cases s.latch <;> rfl
    simp only [setImpact, setLastFall, postNotice_eq, updSensor_latch, updSensor_notices, updSensor_now, Config.unknownHeight]
    simp only [State.updSensor, Fin.getElem_fin, Vector.getElem_set_self, Vector.set_set, SensorRecord.withConds]
    refine Eq.trans ?_ (congrArg (fun l => { s with
      sensors := s.sensors.set i { s.sensors[i] with
        conds := { s.sensors[i].conds with falling := false }, fallStart := none
        lastFall := some { height := 65535, result := .impact } }
      latch := l, notices := s.notices.handAll [.impact i 65535 s.now] }) latch)
    cases s.latch <;> rfl
  · simp only [if_neg h]
    simp [NoticeQueue.handAll]

/-! ### A blind sensor (R95) -/

/-- The sensor after its blind deadline. -/
def SensorRecord.blinded (r : SensorRecord) : SensorRecord :=
  { r.fallEnded.noRuns with conds := { r.conds with blind := true, falling := false }, blindDue := none }

theorem fallEnded_conds (r : SensorRecord) : r.fallEnded.conds = { r.conds with falling := false } := by
  unfold SensorRecord.fallEnded
  split
  · rfl
  · next h =>
    rw [Bool.not_eq_true] at h
    rw [← h]

/-- The blind deadline's work before its hand-off (R90, R95, R172). -/
def State.blindWork (s : State) (i : SensorId) : State :=
  { s with
    sensors := s.sensors.set i s.sensors[i].blinded, latch := s.unseenLatch i, ffr := s.faultTaken (.sensor i) .sensor 1 .none
    notices := s.notices.handAll (s.unseenNews i ++ [.fault (.sensor i) .sensor 1 .none s.ffr.isNone s.now]) }

theorem blindExpired_eq {i : SensorId} {s : State} (h : s.sensors[i].conds.blind = false) :
    blindExpired i s = handOff i (s.blindWork i) := by
  unfold blindExpired
  rw [if_neg (by rw [h]; decide)]
  dsimp only
  rw [endFallUnseen_eq, sensorFault, captureFault_eq, postNotice_eq]
  refine congrArg (handOff i) ?_
  unfold State.blindWork
  rw [handAll_append]
  simp [State.updSensor, SensorRecord.blinded, SensorRecord.withConds, SensorRecord.noRuns, fallEnded_conds, NoticeQueue.handAll,
    State.faultTaken, sensorBlind]

/-- The jolt hold's work before its hand-off (R92). -/
def State.joltWork (s : State) (i : SensorId) : State :=
  s.updSensor i fun r => { r with joltDue := none, conds := { r.conds with jolt := false } }

theorem joltHoldExpired_eq (i : SensorId) (s : State) :
    joltHoldExpired i s = if s.sensors[i].conds.jolt then handOff i (s.joltWork i) else s.joltWork i := rfl

/-- What a sensor's event leaves of the sensors, the latch and the fault record, whether it hands over or not. -/
theorem joltHoldExpired_motion (i : SensorId) (s : State) :
    (joltHoldExpired i s).sensors = (s.joltWork i).sensors ∧ (joltHoldExpired i s).latch = s.latch
      ∧ (joltHoldExpired i s).ffr = s.ffr := by
  rw [joltHoldExpired_eq]
  split
  · exact ⟨(handOff_motion i _).1, (handOff_motion i _).2.1, (handOff_motion i _).2.2.1⟩
  · exact ⟨rfl, rfl, rfl⟩

/-- Zone levels handed over are those of the copies, and stay so to the end of the event (R101). -/
theorem handOff_levelsHold (s0 : State) (i : SensorId) (s : State) : (conclude s0 (handOff i s)).LevelsHold := by
  obtain ⟨_, latch, _, prot⟩ := conclude_motion s0 (handOff i s)
  unfold State.LevelsHold
  rw [prot, latch, (handOff_work i s).prot, (handOff_work i s).latch]
  exact ⟨rfl, rfl⟩

/-- The state a hand-off computes the levels in (R100). -/
def State.handing (s : State) (i : SensorId) : State :=
  { s with prot := { s.prot with
      copies := s.prot.copies.set i { enabled := s.sensors[i].enabled, conds := s.sensors[i].conds }
      latchCopy := s.latch.isSome } }

/-- The bays after a change of levels keep their zones, so their levels are those of the zones. -/
theorem relevelled_level {u v : State} {p : Bay → Prop} [DecidablePred p] {l : Bay → Level} (hp : u.prot = v.leveled.prot)
    (hb : ∀ b, u.bay b = if p b then { v.bay b with sweepLevel := l b } else v.bay b) (b : Bay) : u.level b = v.leveled.level b := by
  have zone : (u.bay b).zone = (v.bay b).zone := by
    rw [hb]
    split
    · rfl
    · rfl
  rw [State.level, hp, zone]
  rfl

/-- A hand-off as the last work of an event where nothing stands, on quiet bays that need no sweep. -/
theorem handOff_closes {s0 s : State} {i : SensorId} (idle : s.Unengaged) (survey : s.survey.running = false) (q : s.Quiet)
    (h : ∀ b, ((s.handing i).leveled.level b).val ≤ (s.level b).val ∨ (s.bay b).state = .off ∨ (s.bay b).state = .empty) :
    ∃ u, conclude s0 (handOff i s) = close u ∧ u.link = s.link ∧ u.notices = s.notices.handAll (s.levelNews u.prot.levels)
      ∧ u.prot = (s.handing i).leveled.prot
      ∧ ∀ b, ((s.handing i).leveled.level b).val ≤ (s.level b).val →
          u.bay b = if (s.bay b).state ≠ .empty ∧ s.level b ≠ u.level b then
            { s.bay b with sweepLevel := minLevel (s.bay b).sweepLevel (u.level b) } else s.bay b := by
  obtain ⟨u, closes, rest, bays⟩ := relevelled_closes (s0 := s0) (v := s.handing i) (sweeping := true)
    ⟨idle.urgent, idle.normal, idle.waiting, idle.admission, idle.flag⟩ survey ⟨q.queue, q.slot, q.intent⟩ fun b => .inr (h b)
  have prot : u.prot = (s.handing i).leveled.prot := by rw [rest]; rfl
  have level := relevelled_level prot bays
  refine ⟨u, closes, by rw [rest]; rfl, ?_, prot, fun b lowered => ?_⟩
  · rw [prot, rest]
    rfl
  · have swept : (s.handing i).resweptTo true b = minLevel (s.bay b).sweepLevel ((s.handing i).leveled.level b) :=
      sweptTo_lowered (s := (s.handing i).leveled) (.inr lowered)
    rw [bays, level, swept]
    rfl

/-- The end of an event leaves the bays and the Protection Unit. -/
theorem close_bay (s : State) (b : Bay) : (close s).bay b = s.bay b := by rw [close_touches]; rfl

theorem close_prot (s : State) : (close s).prot = s.prot := by rw [close_touches]

theorem close_level (s : State) (b : Bay) : (close s).level b = s.level b := by rw [State.level, close_prot, close_bay]; rfl

end Sys2Proof.Machine

namespace Sys2Proof.Proofs

open Sys2Proof.Machine

/-- Settles O34: a table write on a calm part, each with the levels, the checks or the stagger that follow it. -/
theorem levelAndTimingTableWrites : Obligations.LevelAndTimingTableWrites := by
  intro s h src hs calm
  have quiet : s.heard.Quiet := ⟨calm.queue, calm.slot, calm.intent⟩
  refine ⟨fun i x l hl => ?_, fun i a x y => ?_, fun e he => ?_⟩
  · have hi : (byte i.val).toNat = i.val := byte_fin_toNat i (by decide)
    rw [exec_managed_loud (m := .tableWrite) rfl hs.toHears (by simp) (mgmtForm_tableWrite rfl) rfl,
      serveManagement_tableWrite (s := s.heard) hs.manager, serveTableWrite_entry (by rw [hi]; exact i.isLt),
      writeEntry_levelMap _ _ hi x hl, writeLevelMap]
    obtain ⟨t, ht, prot, latch, bays, link, notices, rest⟩ := relevelled_answered (sweeping := false)
      (v := { s.heard with prot := { s.prot with map := s.prot.map.set i l } }) calm rfl rfl (.inl rfl)
      (replyTo h.tag (.plain .done) [3, byte i.val, byte l.val])
    refine ⟨t, ht, ?_, ?_, ?_, bays, link, notices, ?_⟩
    · rw [prot]; rfl
    · rw [prot]; rfl
    · rw [prot]; rfl
    · rw [latch] at rest
      exact rest
  · have hi : (byte i.val).toNat = i.val := byte_fin_toNat i (by decide)
    rw [exec_managed_loud (m := .tableWrite) rfl hs.toHears (by simp) (mgmtForm_tableWrite rfl) rfl,
      serveManagement_tableWrite (s := s.heard) hs.manager, serveTableWrite_entry (by rw [hi]; exact i.isLt),
      writeEntry_levelAction _ _ hi a x y (writeLevelAction_calm quiet i _) rfl]
    exact congrArg Host.Outcome.next (conclude_answers s.heard
      (u := { s with prot := { s.prot with actions := s.prot.actions.set i ⟨a, lenient x, lenient y⟩ } })
      ⟨calm.urgent, calm.normal, calm.waiting, calm.admission, calm.flag⟩ calm.survey _)
  · rw [exec_managed_loud (m := .tableWrite) rfl hs.toHears (by simp [he]) (mgmtForm_tableWrite (by rw [he]; rfl)) rfl,
      serveManagement_tableWrite (s := s.heard) hs.manager, serveTableWrite_entry (id := 10) (i := 0) (by decide),
      writeEntry_timing _ _ e (writeTiming_calm quiet calm.admission calm.flag _) rfl]
    generalize timingFrom e = t
    exact congrArg Host.Outcome.next (conclude_answers s.heard
      (u := { s with timing := t, adm := { s.adm with staggerDue := s.restaggered t } })
      ⟨calm.urgent, calm.normal, calm.waiting, calm.admission, calm.flag⟩ calm.survey _)

/-- Settles O47: what each deadline does before its hand-off, and on a calm part the levels that follow it. -/
theorem joltHoldAndBlindExpiries : Obligations.JoltHoldAndBlindExpiries := by
  refine ⟨fun s i due => ?_, fun s i due sees => ?_⟩
  · have run : exec (.joltHoldExpiry i) s = .next (conclude s.begin (joltHoldExpired i s.begin)) :=
      congrArg Host.Outcome.next (if_pos due)
    obtain ⟨sensors, latch, ffr, prot⟩ := conclude_motion s.begin (joltHoldExpired i s.begin)
    obtain ⟨sensors', latch', ffr'⟩ := joltHoldExpired_motion i s.begin
    refine ⟨_, run, ?_, fun jolt => ?_, fun jolt => ?_, latch.trans latch', ffr.trans ffr', fun calm levels copies enabled => ?_⟩
    · rw [sensors, sensors']
      rfl
    · rw [prot, joltHoldExpired_eq, if_pos (show s.begin.sensors[i].conds.jolt = true from jolt), (handOff_motion i _).2.2.2.1]
      simp [State.joltWork, State.updSensor, State.begin]
    · rw [prot, joltHoldExpired_eq, if_neg (by rw [show s.begin.sensors[i].conds.jolt = false from jolt]; decide)]
      rfl
    · have idle : (s.begin.joltWork i).Unengaged := ⟨calm.urgent, calm.normal, calm.waiting, calm.admission, calm.flag⟩
      by_cases jolt : s.sensors[i].conds.jolt = true
      · have copy : s.prot.copies[i] = { enabled := s.sensors[i].enabled, conds := s.sensors[i].conds } := by
          rw [← enabled, ← (copies i).1]
        refine ⟨?_, ?_⟩
        · rw [joltHoldExpired_eq, if_pos (show s.begin.sensors[i].conds.jolt = true from jolt)]
          exact handOff_levelsHold _ _ _
        · have fell (b : Bay) : (((s.begin.joltWork i).handing i).leveled.level b).val ≤ (s.level b).val := by
            have prot : ((s.begin.joltWork i).handing i).prot = { s.prot with
                copies := s.prot.copies.set i { s.prot.copies[i] with conds := { s.prot.copies[i].conds with jolt := false } } } := by
              rw [copy]
              simp [State.handing, State.joltWork, State.updSensor, State.begin, ← levels.2]
            show (((s.begin.joltWork i).handing i).prot.computeLevels.of (s.bay b).zone).val ≤ (s.prot.levels.of (s.bay b).zone).val
            rw [prot, levels.1]
            exact unjolted_le rfl _
          obtain ⟨u, closes, link, notices, prot, bays⟩ := handOff_closes (s0 := s.begin) (i := i) idle calm.survey
            ⟨calm.queue, calm.slot, calm.intent⟩ fun b => .inl (fell b)
          rw [joltHoldExpired_eq, if_pos (show s.begin.sensors[i].conds.jolt = true from jolt), closes]
          refine ⟨⟨u, rfl, link.trans (by simp [State.joltWork, State.updSensor, State.begin]), ?_⟩, fun b => ?_⟩
          · rw [close_prot]
            exact notices
          · rw [close_bay, close_level]
            exact bays b (fell b)
      · have off : s.sensors[i].conds.jolt = false := by simpa using jolt
        rw [joltHoldExpired_eq, if_neg (show ¬ s.begin.sensors[i].conds.jolt = true from jolt),
          conclude_unengaged s.begin _ idle calm.survey]
        have same : (close (s.begin.joltWork i)).prot = s.prot := close_prot _
        have level (b : Bay) : (close (s.begin.joltWork i)).level b = s.level b := close_level _ _
        refine ⟨?_, ⟨s.begin.joltWork i, rfl, by simp [State.joltWork, State.updSensor, State.begin], ?_⟩, fun b => ?_⟩
        · rw [State.LevelsHold, same, show (close (s.begin.joltWork i)).latch = s.latch by rw [close_touches]; rfl]
          exact levels
        · rw [same, levelNews_same]
          rfl
        · rw [close_bay, level, if_neg (by simp)]
          rfl
  · have run : exec (.blindExpiry i) s = .next (conclude s.begin (handOff i (s.begin.blindWork i))) :=
      congrArg Host.Outcome.next ((if_pos due).trans (congrArg (conclude s.begin) (blindExpired_eq (s := s.begin) sees)))
    obtain ⟨sensors, latch, ffr, prot⟩ := conclude_motion s.begin (handOff i (s.begin.blindWork i))
    obtain ⟨sensors', latch', ffr', copies', latchCopy⟩ := handOff_motion i (s.begin.blindWork i)
    have record : (s.begin.blindWork i).sensors = s.sensors.set i s.sensors[i].blinded := rfl
    have same : (s.begin.blindWork i).sensors[i] = s.sensors[i].blinded := by simp [record]
    have enabled : s.sensors[i].blinded.enabled = s.sensors[i].enabled := by
      unfold SensorRecord.blinded SensorRecord.fallEnded
      split
      · rfl
      · rfl
    refine ⟨_, run, ?_⟩
    beta_reduce
    rw [sensors, latch, ffr, prot, sensors', latch', ffr', copies', same]
    refine ⟨rfl, rfl, rfl, rfl, rfl, rfl, fun j hj => ?_, ?_, rfl, rfl, fun calm down => ?_⟩
    · rw [record]
      have : i.val ≠ j.val := fun k => hj (Fin.ext k.symm)
      simp [Vector.getElem_set_ne, this]
    · rw [enabled]
      rfl
    · obtain ⟨u, closes, link, notices, prot', _⟩ := handOff_closes (s0 := s.begin) (s := s.begin.blindWork i) (i := i)
        ⟨calm.urgent, calm.normal, calm.waiting, calm.admission, calm.flag⟩ calm.survey ⟨calm.queue, calm.slot, calm.intent⟩
        fun b => .inr (down b)
      refine ⟨u, closes, link.trans (by simp [State.blindWork, State.begin]), ?_⟩
      rw [handAll_append, ← prot, closes, close_prot]
      exact notices

end Sys2Proof.Proofs
end

section
/-! PROOFS. What work at one bay comes to where nothing stands for the bay, and how an event that starts an exchange ends. -/

namespace Sys2Proof.Machine

set_option Elab.async false

/-! ### Where nothing stands for a bay -/

/-- No exchange for the bay is queued, current, or waiting. -/
structure State.Unbusied (s : State) (b : Bay) : Prop where
  urgent : s.bus.urgent = []
  normal : ∀ x ∈ s.bus.normal, x.serves b = false
  current : ∀ c, s.bus.current = some c → c.ex.serves b = false
  waiting : (s.bay b).waiting = []

/-- An exchange that does not stand for a bay is not addressed to it. -/
theorem individual_false {x : Exchange} {b : Bay} (h : x.serves b = false) : x.individual b = false := by
  unfold Exchange.serves at h
  unfold Exchange.individual
  rw [decide_eq_false_iff_not]
  intro k
  rw [k] at h
  simp at h

theorem updBus_self {s : State} {f : BusController → BusController} (h : f s.bus = s.bus) : s.updBus f = s := by
  unfold State.updBus
  rw [h]

theorem updBay_self {s : State} {b : Bay} {f : BayRecord → BayRecord} (h : f (s.bay b) = s.bay b) : s.updBay b f = s := by
  unfold State.updBay
  rw [h, State.bay]
  simp

section Unbusied

variable {s : State} {b : Bay} (h : s.Unbusied b)

include h

theorem queuedFor_unbusied : s.queuedFor b = false := by
  simpa [State.queuedFor, h.urgent] using h.normal

theorem currentFor_unbusied : s.currentFor b = false := by
  unfold State.currentFor
  cases hc : s.bus.current with
  | none => rfl
  | some c => exact h.current c hc

theorem placeFor_unbusied (x : Exchange) : placeFor b x s = enqueue x s := placeFor_free (queuedFor_unbusied h) (currentFor_unbusied h)

theorem standing_unbusied (p : Exchange → Bool) : s.standing b p = none := by
  have none : s.bus.normal.find? (fun x => x.individual b && p x) = none := by
    rw [List.find?_eq_none]
    intro x hx
    simp [individual_false (h.normal x hx)]
  simp [State.standing, h.urgent, h.waiting, none]

theorem headExchange_unbusied : s.headExchange b = none := standing_unbusied h _

theorem stateChangingFor_unbusied : s.stateChangingFor b = false := by
  unfold State.stateChangingFor
  have queued : s.bus.normal.any (fun x => x.serves b && x.kind.stateChanging) = false := by
    rw [List.any_eq_false]
    intro x hx
    simp [h.normal x hx]
  dsimp only
  rw [h.urgent, queued]
  cases hc : s.bus.current with
  | none => rfl
  | some c => simp [h.current c hc]

theorem inFlight_unbusied : s.inFlight b = (s.bay b).state.transitional := by
  simp [State.inFlight, stateChangingFor_unbusied h]

theorem takeOut_unbusied (p : Exchange → Bool) : takeOut b p s = s := by
  have kept : s.bus.normal.filter (fun x => !(x.individual b && p x)) = s.bus.normal := by
    rw [List.filter_eq_self]
    intro x hx
    simp [individual_false (h.normal x hx)]
  unfold takeOut
  dsimp only
  rw [updBus_self (s := s), updBay_self (s := s), releaseWaiting_none b s h.waiting]
  · rw [h.waiting, List.filter_nil, ← h.waiting]
  · rw [kept, h.urgent, List.filter_nil, ← h.urgent]

theorem leaveBaySet_unbusied : leaveBaySet b s = s := by
  unfold leaveBaySet
  rw [updBus_self (s := s), releaseWaiting_none b s h.waiting]
  rw [h.urgent, List.map_nil, List.filter_nil, ← h.urgent]

theorem disregard_unbusied (p : Exchange → Bool) : disregard b p s = s := by
  unfold disregard
  cases hc : s.bus.current with
  | none => rfl
  | some c => exact if_neg (by simp [individual_false (h.current c hc)])

theorem dropProtective_unbusied : dropProtective b s = s := by
  rw [dropProtective, takeOut_unbusied h, leaveBaySet_unbusied h]

theorem withdrawHead_unbusied : withdrawHead b s = s := by
  unfold withdrawHead
  rw [headExchange_unbusied h]

theorem yieldQuery_unbusied : yieldQuery b s = s := by
  have kept : s.bus.normal.filter (fun x => !(x.individual b && (x.owner = .survey || x.owner = .insertion))) = s.bus.normal := by
    rw [List.filter_eq_self]
    intro x hx
    simp [individual_false (h.normal x hx)]
  have none : s.bus.normal.filter (fun x => x.individual b && (x.owner = .survey || x.owner = .insertion)) = [] := by
    rw [List.filter_eq_nil_iff]
    intro x hx
    simp [individual_false (h.normal x hx)]
  unfold yieldQuery updWaiting
  dsimp only
  rw [updBus_self (s := s), updBay_self (s := s)]
  · rw [none, List.nil_append]
  · rw [kept]

theorem currentProtective_unbusied : s.currentProtective b = none := by
  unfold State.currentProtective
  cases hc : s.bus.current with
  | none => rfl
  | some c => simp [Option.filter, individual_false (h.current c hc)]

theorem protectiveStanding_unbusied (k : ExKind) : s.protectiveStanding b k = false := by
  simp [State.protectiveStanding, standing_unbusied h, h.urgent]

theorem placeUrgent_unbusied (k : ExKind) : placeUrgent b k s = enqueue (s.exchangeFor b k .protective []) s := by
  unfold placeUrgent
  rw [yieldQuery_unbusied h]
  dsimp only
  rw [queuedFor_unbusied h, if_neg Bool.false_ne_true]
  cases hc : s.bus.current with
  | none => rfl
  | some c => exact if_pos (.inl (individual_false (h.current c hc)))

theorem headStarted_unbusied {r : Request} {more : List Request} (hq : (s.bay b).queue = r :: more) :
    s.headStarted b = decide (r.phase = .issued) := by
  simp [State.headStarted, State.head, hq, headExchange_unbusied h]

end Unbusied

/-! ### The head of a bay queue -/

theorem head_cons {s : State} {b : Bay} {r : Request} {more : List Request} (h : (s.bay b).queue = r :: more) : s.head b = some r := by
  rw [State.head, h]
  rfl

theorem checkHeads_empty {s : State} {b : Bay} (h : (s.bay b).queue = []) (n : Nat) : checkHeads n b s = s := by
  cases n with
  | zero => rfl
  | succ n => simp only [checkHeads, head_none h]

section Head

variable {s : State} {b : Bay} {r : Request} {more : List Request} (hq : (s.bay b).queue = r :: more)

include hq

theorem checkHeads_past (h : r.phase ≠ .checking ∨ (s.bay b).slot.isSome) (n : Nat) : checkHeads n b s = s := by
  cases n with
  | zero => rfl
  | succ n => simp only [checkHeads, head_cons hq, if_pos h]

/-- A head in Checking of a bay without a protective operation (R34). -/
theorem checkHeads_checking (hp : r.phase = .checking) (hs : (s.bay b).slot = none) (n : Nat) :
    checkHeads (n + 1) b s = match headCheck r.kind (s.bay b).state with
      | .hold => s
      | .permit k => permissionCheck b k s
      | .issue k => issueHead b k r.payload s
      | .complete c => checkHeads n b (popHead b c [] s) := by
  have past : ¬ (r.phase ≠ .checking ∨ (s.bay b).slot.isSome = true) := by simp [hp, hs]
  simp only [checkHeads, head_cons hq, if_neg past]
    <;> (cases headCheck r.kind (s.bay b).state <;> rfl)

theorem recheckHead_issued (hp : r.phase = .queued ∨ r.phase = .issued) : recheckHead b s = s := by
  unfold recheckHead
  rw [head_cons hq]
  rcases hp with hp | hp <;> simp only [hp]

theorem recheckHead_checking (hp : r.phase = .checking) : recheckHead b s = checkHead b s := by
  unfold recheckHead
  rw [head_cons hq]
  simp only [hp]

theorem forbidAdmitting_past (h : r.phase ≠ .admitting) : forbidAdmitting b s = s := by
  unfold forbidAdmitting
  rw [head_cons hq]
  exact if_neg fun k => h k.1

theorem recheckDeferred_past (h : r.phase ≠ .deferred) : recheckDeferred b s = s := by
  unfold recheckDeferred
  rw [head_cons hq]
  exact if_neg h

end Head

theorem recheckHead_none {s : State} {b : Bay} (h : (s.bay b).queue = []) : recheckHead b s = s := by
  unfold recheckHead
  rw [head_none h]

theorem restoreCheck_none {s : State} {b : Bay} (h : (s.bay b).restoreIntent = false) : restoreCheck b s = s :=
  if_neg (by simp [State.restoreDue, h])

/-! ### The choice of the controller (R128) -/

theorem choose_urgent {s : State} {x : Exchange} {rest : List Exchange} (h : s.bus.urgent = x :: rest) :
    s.choose = some (x, s.updBus fun u => { u with urgent := rest }) := by
  unfold State.choose
  rw [h]

theorem choose_normal {s : State} {x : Exchange} {rest : List Exchange} (hu : s.bus.urgent = []) (h : s.bus.normal = x :: rest)
    (open_ : s.blocked x = false) : s.choose = some (x, s.updBus fun u => { u with normal := rest }) := by
  unfold State.choose
  rw [hu, h, takeFirst, open_]
  rfl

/-- The choice takes one exchange whose start keeps the bus. -/
theorem busChoice_takes {s u v : State} {x : Exchange} (hw : ∀ b, (s.bay b).waiting = []) (may : s.mayTake = true)
    (choice : s.choose = some (x, u)) (start : startTaken x u = v) (busy : v.mayTake = false) : busChoice s = v := by
  unfold busChoice
  rw [foldl_releaseWaiting_none s hw]
  dsimp only
  rw [show 256 + s.bus.urgent.length + s.bus.normal.length = (255 + s.bus.urgent.length + s.bus.normal.length) + 1 by omega, takeLoop,
    if_pos may, choice]
  exact (congrArg _ start).trans (takeLoop_busy _ _ busy)

/-- Nothing stands in the queues or the waiting places: the choice is none. -/
theorem busChoice_empty {s : State} (hu : s.bus.urgent = []) (hn : s.bus.normal = []) (hw : ∀ b, (s.bay b).waiting = []) :
    busChoice s = s := by
  unfold busChoice
  rw [foldl_releaseWaiting_none s hw]
  exact takeLoop_empty _ _ hu hn

theorem evaluateBudget_mayTake (s : State) : (evaluateBudget s).mayTake = s.mayTake := by rw [evaluateBudget_eq]; rfl

theorem evaluateBudget_bay (s : State) (b : Bay) : (evaluateBudget s).bay b = s.bay b := by rw [evaluateBudget_eq]; rfl

/-- The end of an event whose choice leads to `v`, which has the bus taken and no admission waiting. -/
theorem conclude_chosen {s v : State} (s0 : State) (survey : s.survey.running = false) (choice : busChoice s = v) (busy : v.mayTake = false)
    (waiting : ∀ b, (v.bay b).waiting = []) (admission : v.adm.queue = []) : conclude s0 s = close (evaluateBudget v) := by
  unfold conclude
  rw [completeSurvey_off s survey, choice, settleBudget_of_empty s0 v admission,
    busChoice_busy _ ((evaluateBudget_mayTake v).trans busy) (fun b => by rw [evaluateBudget_bay]; exact waiting b),
    evaluateBudget_of_flag _ (evaluateBudget_flag v)]

/-- The end of an event in which an exchange starts and no admission waits. -/
theorem conclude_starts {s u v : State} {x : Exchange} (s0 : State) (survey : s.survey.running = false)
    (hw : ∀ b, (s.bay b).waiting = []) (may : s.mayTake = true) (choice : s.choose = some (x, u)) (start : startTaken x u = v)
    (busy : v.mayTake = false) (waiting : ∀ b, (v.bay b).waiting = []) (admission : v.adm.queue = []) :
    conclude s0 s = close (evaluateBudget v) :=
  conclude_chosen s0 survey (busChoice_takes hw may choice start busy) busy waiting admission

/-! ### One bay and what its work touches -/

/-- What work at one bay touches: its record, the Admission Unit, the bus, the First Fault Record, the group records; and what it gives:
the replies and the notices so far. -/
structure Scene where
  bay : BayRecord
  adm : Admission
  bus : BusController
  ffr : Option FirstFault
  groups : Vector (Option GroupRecord) 8
  replies : List Reply
  notices : List Notice

/-- The part with this scene at bay `b`. -/
def State.staged (s : State) (b : Bay) (w : Scene) : State :=
  { s with
    bays := s.bays.set b w.bay, adm := w.adm, bus := w.bus, ffr := w.ffr, groups := w.groups
    link := { s.link with replies := s.link.replies ++ w.replies }, notices := s.notices.handAll w.notices }

/-- The scene at bay `b` before any work. -/
def State.scene (s : State) (b : Bay) : Scene :=
  { bay := s.bay b, adm := s.adm, bus := s.bus, ffr := s.ffr, groups := s.groups, replies := [], notices := [] }

theorem staged_scene (s : State) (b : Bay) : s.staged b (s.scene b) = s := by
  unfold State.staged State.scene State.bay
  simp [NoticeQueue.handAll]

section Staged

variable {s : State} {b : Bay} {w : Scene}

@[simp] theorem staged_bay : (s.staged b w).bay b = w.bay := by simp [State.staged, State.bay]

theorem staged_other {c : Bay} (h : c ≠ b) : (s.staged b w).bay c = s.bay c := by
  have : b.val ≠ c.val := fun k => h (Fin.ext k.symm)
  simp [State.staged, State.bay, Vector.getElem_set_ne, this]

@[simp] theorem staged_updBay (f : BayRecord → BayRecord) : (s.staged b w).updBay b f = s.staged b { w with bay := f w.bay } := by
  unfold State.updBay
  rw [staged_bay]
  simp [State.staged]

theorem staged_updAdm (f : Admission → Admission) : (s.staged b w).updAdm f = s.staged b { w with adm := f w.adm } := rfl

theorem staged_updBus (f : BusController → BusController) : (s.staged b w).updBus f = s.staged b { w with bus := f w.bus } := rfl

theorem staged_placeReply (r : Reply) : placeReply r (s.staged b w) = s.staged b { w with replies := w.replies ++ [r] } := by
  rw [placeReply_eq]
  simp [State.staged]

theorem staged_postNotice (n : Notice) : postNotice n (s.staged b w) = s.staged b { w with notices := w.notices ++ [n] } := by
  rw [postNotice_eq]
  unfold State.staged
  rw [handAll_append]
  rfl

@[simp] theorem staged_level : (s.staged b w).level b = s.prot.levels.of w.bay.zone := by
  rw [State.level, staged_bay]
  rfl

@[simp] theorem staged_profileOf : (s.staged b w).profileOf b = w.adm.profiles[w.bay.cls] := by
  simp only [State.profileOf, staged_bay]
  rfl

theorem staged_exchangeFor (k : ExKind) (o : Owner) (p : List Byte) : (s.staged b w).exchangeFor b k o p =
    { kind := k, target := .bay b, owner := o, payload := p, rate := .hz100, bays := [], before := w.bay.state } := by
  unfold State.exchangeFor
  rw [staged_bay]

theorem staged_unbusied (hu : w.bus.urgent = []) (hn : w.bus.normal = []) (hc : w.bus.current = none) (hw : w.bay.waiting = []) :
    (s.staged b w).Unbusied b :=
  ⟨hu, fun x hx => absurd (hn ▸ hx : x ∈ []) List.not_mem_nil, fun c h => (Option.some_ne_none c (h.symm.trans hc)).elim,
    by rw [staged_bay]; exact hw⟩

theorem staged_waiting (hw : w.bay.waiting = []) (others : ∀ c, (s.bay c).waiting = []) (c : Bay) :
    ((s.staged b w).bay c).waiting = [] := by
  by_cases h : c = b
  · rw [h, staged_bay]
    exact hw
  · rw [staged_other h]
    exact others c

/-- The scene after the bay takes a state (R7, R8, R60). -/
def Scene.entering (w : Scene) (b : Bay) (st : BayState) (now : Count) : Scene :=
  { w with
    bay := { w.bay with state := st, reservation := (w.adm.profiles[w.bay.cls]).reservation st }
    adm := { w.adm with committed := w.adm.committed + (w.adm.profiles[w.bay.cls]).reservation st - w.bay.reservation }
    notices := w.notices ++ if w.bay.state = st then [] else [.bay b st ((w.adm.profiles[w.bay.cls]).reservation st) now] }

/-- Entering the state the bay is in changes nothing, where its reservation is that of the state. -/
theorem entering_same {st : BayState} (h : w.bay.state = st) (booked : w.bay.reservation = (w.adm.profiles[w.bay.cls]).reservation w.bay.state)
    (now : Count) : w.entering b st now = w := by
  subst h
  unfold Scene.entering
  rw [← booked]
  simp

theorem staged_changeState {st : BayState} (booked : w.bay.reservation = (w.adm.profiles[w.bay.cls]).reservation w.bay.state) :
    changeState b st (s.staged b w) = s.staged b (w.entering b st s.now) := by
  by_cases h : w.bay.state = st
  · rw [changeState_same (by rw [staged_bay]; exact h), entering_same h booked]
  · rw [changeState_eq (by rw [staged_bay]; exact h), staged_profileOf, staged_bay]
    unfold Scene.entering State.staged
    simp only [if_neg h, handAll_append]
    simp [NoticeQueue.handAll]

theorem staged_putState (st : BayState) : putState b st (s.staged b w) =
    s.staged b { w with
      bay := { w.bay with state := st, reservation := (w.adm.profiles[w.bay.cls]).reservation st }
      adm := { w.adm with committed := w.adm.committed + (w.adm.profiles[w.bay.cls]).reservation st - w.bay.reservation } } := by
  rw [putState_eq, staged_profileOf, staged_bay]
  simp [State.staged]

theorem staged_captureFault (x : Subject) (c : Cause) (n : Nat) (k : Work) : captureFault x c n k (s.staged b w) =
    s.staged b { w with ffr := ({ s with ffr := w.ffr } : State).faultTaken x c n k } := by
  rw [captureFault_eq]
  rfl

/-- The scene after a queue entry's completion is delivered (R31, R51, R52). -/
def Scene.delivered (w : Scene) (b : Bay) (r : Request) (c : Completion) (payload : List Byte) : Scene :=
  match r.origin with
  | .part => w
  | .upstream _ tag none => { w with replies := w.replies ++ [replyTo tag c payload] }
  | .upstream _ _ (some g) =>
    match w.groups[g] with
    | none => w
    | some rec =>
      let rec' : GroupRecord :=
        { rec with
          members := rec.members.map fun m => if m.bay = b then { m with result := some c } else m
          outstanding := rec.outstanding - 1 }
      if rec'.outstanding = 0 then { w with replies := w.replies ++ [groupReply rec'.tag rec'.results], groups := w.groups.set g none }
      else { w with groups := w.groups.set g (some rec') }

/-- A delivery leaves the bay, the Admission Unit, the bus, the First Fault Record and the notices. -/
theorem delivered_keeps (w : Scene) (b : Bay) (r : Request) (c : Completion) (p : List Byte) :
    w.delivered b r c p = { w with replies := (w.delivered b r c p).replies, groups := (w.delivered b r c p).groups } := by
  unfold Scene.delivered
  dsimp only
  repeat' split
  all_goals rfl

theorem delivered_upstream {r : Request} {src : Source} {tag : Byte} (h : r.origin = .upstream src tag none) (c : Completion) (p : List Byte) :
    w.delivered b r c p = { w with replies := w.replies ++ [{ tag := tag, completion := c, payload := p, echo := none }] } := by
  unfold Scene.delivered
  rw [h]
  rfl

theorem staged_deliver (r : Request) (c : Completion) (p : List Byte) :
    deliver b r c p (s.staged b w) = s.staged b (w.delivered b r c p) := by
  unfold deliver Scene.delivered
  rcases r.origin with ⟨src, tag, _ | g⟩ | _
  · exact staged_placeReply _
  · have groups : (s.staged b w).groups[g] = w.groups[g] := rfl
    simp only [recordMember, groups]
    cases w.groups[g] with
    | none => rfl
    | some rec =>
      dsimp only
      split
      · exact staged_placeReply (s := s) (b := b) (w := { w with groups := w.groups.set g none }) _
      · rfl
  · rfl

/-! ### The end of an event at one bay -/

/-- The scene after the budget is evaluated (R72). -/
def Scene.evaluated (w : Scene) (now : Count) : Scene :=
  { w with
    adm := w.adm.committing w.adm.committed
    notices := w.notices ++
      if decide (w.adm.effLimit < w.adm.committed) = w.adm.overBudget then []
      else [.budget (decide (w.adm.effLimit < w.adm.committed)) w.adm.committed w.adm.effLimit now] }

theorem staged_evaluateBudget : evaluateBudget (s.staged b w) = s.staged b (w.evaluated s.now) := by
  rw [evaluateBudget_eq]
  unfold Scene.evaluated State.staged
  rw [handAll_append]
  rfl

/-- What an event that ended in this scene, evaluated, leaves. -/
theorem staged_leaves {t : State} (ht : t = close (evaluateBudget (s.staged b w))) :
    t.bay b = w.bay ∧ t.adm = w.adm.committing w.adm.committed ∧ t.bus = w.bus ∧ t.ffr = w.ffr ∧ t.groups = w.groups
      ∧ ({ s with groups := t.groups } : State).KeepsBut t b := by
  subst ht
  have bay : (close (evaluateBudget (s.staged b w))).bay b = w.bay := by
    rw [close_bay, evaluateBudget_bay, staged_bay]
  have rest := close_touches (evaluateBudget (s.staged b w))
  rw [staged_evaluateBudget] at rest bay ⊢
  generalize close (s.staged b (w.evaluated s.now)) = t at rest bay ⊢
  refine ⟨bay, by rw [rest]; rfl, by rw [rest]; rfl, by rw [rest]; rfl, by rw [rest]; rfl, ?_⟩
  unfold State.KeepsBut
  rw [bay]
  rw [rest]
  rfl

/-- What an event that ended in this scene, evaluated, leaves and tells. -/
theorem staged_ends (limit : w.adm.effLimit = s.adm.effLimit) (flag : w.adm.overBudget = s.adm.overBudget) :
    ∀ t, t = close (evaluateBudget (s.staged b w)) →
      t.bay b = w.bay ∧ t.adm = w.adm.committing w.adm.committed ∧ t.bus = w.bus ∧ t.ffr = w.ffr ∧ t.groups = w.groups
        ∧ ({ s with groups := t.groups } : State).KeepsBut t b ∧ s.Tells t w.replies (w.notices ++ s.budgetNews w.adm.committed) := by
  intro t ht
  obtain ⟨bay, adm, bus, ffr, groups, keeps⟩ := staged_leaves ht
  refine ⟨bay, adm, bus, ffr, groups, keeps, _, ht, by rw [staged_evaluateBudget]; rfl, ?_⟩
  rw [staged_evaluateBudget]
  unfold Scene.evaluated
  rw [limit, flag]
  rfl

end Staged

end Sys2Proof.Machine
end

section
/-! PROOFS. The head of a bay as its scene shows it, the start of its exchange, and the requests whose arrival ends so. -/

namespace Sys2Proof.Machine

set_option Elab.async false

/-! ### A bay's scene on a part at rest -/

/-- The scene at a bay of a part at rest whose event has put these frames on the bay bus. -/
def State.atRest (s : State) (b : Bay) (sent : List BusFrame) : Scene := { s.scene b with bus := idleBus sent }

theorem heard_atRest {s : State} (h : s.Resting) (b : Bay) : s.heard = s.heard.staged b (s.atRest b []) := by
  unfold State.atRest
  rw [← Resting.bus h []]
  exact (staged_scene s.heard b).symm

theorem begin_atRest {s : State} (h : s.Resting) (b : Bay) : s.begin = s.begin.staged b (s.atRest b []) := by
  unfold State.atRest
  rw [← Resting.bus h []]
  exact (staged_scene s.begin b).symm

section Staged

variable {s : State} {b : Bay} {w : Scene}

/-! ### Its requests (R29 to R32) -/

theorem staged_updHead {r : Request} {more : List Request} (hq : w.bay.queue = r :: more) (f : Request → Request) :
    updHead b f (s.staged b w) = s.staged b { w with bay := { w.bay with queue := f r :: more } } := by
  unfold updHead
  rw [staged_updBay]
  simp only [hq]

theorem staged_setPhase {r : Request} {more : List Request} (hq : w.bay.queue = r :: more) (p : Phase) :
    setPhase b p (s.staged b w) = s.staged b { w with bay := { w.bay with queue := { r with phase := p } :: more } } :=
  staged_updHead hq _

theorem staged_becomeHead {r : Request} {more : List Request} (hq : w.bay.queue = r :: more) :
    becomeHead b (s.staged b w) =
      s.staged b { w with bay := { w.bay with queue := { r with phase := .checking, wait := s.waitDeadline } :: more } } :=
  staged_updHead hq _

/-- An accepted request alone in its queue is checked as head (R29, R32). -/
theorem staged_acceptRequest_first (hq : w.bay.queue = []) (r : Request) :
    acceptRequest b r (s.staged b w) = checkHead b (s.staged b { w with bay := { w.bay with
      restoreIntent := w.bay.restoreIntent && !r.kind.governed
      queue := [{ r with phase := .checking, wait := s.waitDeadline }] } }) := by
  have intent : (if r.kind.governed then (s.staged b w).updBay b fun e => { e with restoreIntent := false } else s.staged b w)
      = s.staged b { w with bay := { w.bay with restoreIntent := w.bay.restoreIntent && !r.kind.governed } } := by
    cases r.kind.governed
    · simp
    · simp
  unfold acceptRequest
  rw [intent]
  unfold appendRequest
  simp only [staged_bay, hq, List.isEmpty_nil, if_true, staged_updBay, List.nil_append]
  rw [staged_becomeHead (r := r) (more := []) rfl]

/-- An accepted request behind others waits in phase Queued (R29, R30). -/
theorem staged_acceptRequest_behind (hq : w.bay.queue ≠ []) (r : Request) :
    acceptRequest b r (s.staged b w) = s.staged b { w with bay := { w.bay with
      restoreIntent := w.bay.restoreIntent && !r.kind.governed, queue := w.bay.queue ++ [r] } } := by
  have intent : (if r.kind.governed then (s.staged b w).updBay b fun e => { e with restoreIntent := false } else s.staged b w)
      = s.staged b { w with bay := { w.bay with restoreIntent := w.bay.restoreIntent && !r.kind.governed } } := by
    cases r.kind.governed
    · simp
    · simp
  unfold acceptRequest
  rw [intent]
  unfold appendRequest
  simp [hq]

/-- The last request completes: the queue is empty and no restore is due (R31, R119). -/
theorem staged_popHead_last {r : Request} (hq : w.bay.queue = [r]) (intent : w.bay.restoreIntent = false) (c : Completion)
    (p : List Byte) :
    popHead b c p (s.staged b w) = s.staged b (({ w with bay := { w.bay with queue := [] } } : Scene).delivered b r c p) := by
  unfold popHead
  rw [staged_bay, hq]
  dsimp only
  rw [staged_updBay, staged_deliver]
  refine restoreCheck_none ?_
  rw [staged_bay, delivered_keeps]
  exact intent

/-- The head completes and the next entry becomes head (R31, R32). -/
theorem staged_popHead_next {r next : Request} {rest : List Request} (hq : w.bay.queue = r :: next :: rest) (c : Completion)
    (p : List Byte) :
    popHead b c p (s.staged b w) = s.staged b (({ w with bay := { w.bay with
      queue := { next with phase := .checking, wait := s.waitDeadline } :: rest } } : Scene).delivered b r c p) := by
  unfold popHead
  rw [staged_bay, hq]
  dsimp only
  rw [staged_updBay, staged_becomeHead (r := next) (more := rest) rfl, staged_deliver]

theorem staged_completeHead_last {r : Request} (hq : w.bay.queue = [r]) (intent : w.bay.restoreIntent = false) (c : Completion)
    (p : List Byte) :
    completeHead b c p (s.staged b w) = s.staged b (({ w with bay := { w.bay with queue := [] } } : Scene).delivered b r c p) := by
  rw [completeHead, staged_popHead_last hq intent]
  refine checkHeads_empty ?_ 6
  rw [staged_bay, delivered_keeps]

/-! ### The head checked (R34, R35, R37) -/

/-- A head in Checking of a bay without a protective operation (R34). -/
theorem staged_checkHeads {r : Request} {more : List Request} (hq : w.bay.queue = r :: more) (hp : r.phase = .checking)
    (hs : w.bay.slot = none) (n : Nat) :
    checkHeads (n + 1) b (s.staged b w) = match headCheck r.kind w.bay.state with
      | .hold => s.staged b w
      | .permit k => permissionCheck b k (s.staged b w)
      | .issue k => issueHead b k r.payload (s.staged b w)
      | .complete c => checkHeads n b (popHead b c [] (s.staged b w)) := by
  rw [checkHeads_checking (s := s.staged b w) (r := r) (more := more) (by rw [staged_bay]; exact hq) hp
    (by rw [staged_bay]; exact hs), staged_bay]
    <;> (cases headCheck r.kind w.bay.state <;> rfl)

/-- A head that passes the level's check waits for the budget (R35, R63). -/
theorem staged_permitted {r : Request} {more : List Request} {k : AdmKind} (hq : w.bay.queue = r :: more)
    (h : s.prot.permits (s.prot.levels.of w.bay.zone) k = true) :
    permissionCheck b k (s.staged b w) = s.staged b { w with
      bay := { w.bay with queue := { r with phase := .admitting } :: more }
      adm := { w.adm with queue := w.adm.queue ++ [{ bay := b, kind := k }] } } := by
  have permits : (s.staged b w).permits b k = true := by rw [State.permits, staged_level]; exact h
  unfold permissionCheck
  rw [if_pos permits]
  exact staged_setPhase (s := s) (b := b) (w := { w with adm := { w.adm with queue := w.adm.queue ++ [{ bay := b, kind := k }] } }) hq _

/-- A head that the level forbids is Deferred (R35). -/
theorem staged_forbidden {r : Request} {more : List Request} {k : AdmKind} (hq : w.bay.queue = r :: more)
    (h : s.prot.permits (s.prot.levels.of w.bay.zone) k = false) :
    permissionCheck b k (s.staged b w) = s.staged b { w with bay := { w.bay with queue := { r with phase := .deferred } :: more } } := by
  have permits : ¬ (s.staged b w).permits b k = true := by rw [State.permits, staged_level]; exact Bool.not_eq_true _ ▸ h
  unfold permissionCheck
  rw [if_neg permits, staged_setPhase (r := r) (more := more) hq]

/-- The exchange a scene's bay would place. -/
def Scene.exchange (w : Scene) (b : Bay) (k : ExKind) (o : Owner) (p : List Byte) : Exchange :=
  { kind := k, target := .bay b, owner := o, payload := p, rate := .hz100, bays := [], before := w.bay.state }

/-- A head issues its exchange to the Normal queue where nothing stands for the bay (R37). -/
theorem staged_issueHead {r : Request} {more : List Request} (hq : w.bay.queue = r :: more) (free : (s.staged b w).Unbusied b)
    (k : ExKind) (p : List Byte) :
    issueHead b k p (s.staged b w) = s.staged b { w with
      bay := { w.bay with queue := { r with phase := .issued } :: more }
      bus := { w.bus with normal := w.bus.normal ++ [w.exchange b k .head p] } } := by
  unfold issueHead
  rw [placeFor_unbusied free, staged_exchangeFor]
  exact staged_setPhase (s := s) (b := b) (w := { w with bus := { w.bus with normal := w.bus.normal ++ [w.exchange b k .head p] } }) hq _

section Check

variable {r : Request} {more : List Request} (hq : w.bay.queue = r :: more)

include hq

theorem staged_check_slot (hs : w.bay.slot.isSome = true) : checkHead b (s.staged b w) = s.staged b w :=
  checkHeads_past (r := r) (more := more) (by rw [staged_bay]; exact hq) (.inr (by rw [staged_bay]; exact hs)) 6

variable (hp : r.phase = .checking) (hs : w.bay.slot = none)

include hp hs

theorem staged_check_hold (h : headCheck r.kind w.bay.state = .hold) : checkHead b (s.staged b w) = s.staged b w := by
  rw [checkHead, staged_checkHeads hq hp hs, h]

theorem staged_check_permitted {k : AdmKind} (h : headCheck r.kind w.bay.state = .permit k)
    (level : s.prot.permits (s.prot.levels.of w.bay.zone) k = true) :
    checkHead b (s.staged b w) = s.staged b { w with
      bay := { w.bay with queue := { r with phase := .admitting } :: more }
      adm := { w.adm with queue := w.adm.queue ++ [{ bay := b, kind := k }] } } := by
  rw [checkHead, staged_checkHeads hq hp hs, h]
  exact staged_permitted hq level

theorem staged_check_forbidden {k : AdmKind} (h : headCheck r.kind w.bay.state = .permit k)
    (level : s.prot.permits (s.prot.levels.of w.bay.zone) k = false) :
    checkHead b (s.staged b w) = s.staged b { w with bay := { w.bay with queue := { r with phase := .deferred } :: more } } := by
  rw [checkHead, staged_checkHeads hq hp hs, h]
  exact staged_forbidden hq level

theorem staged_check_issues {k : ExKind} (h : headCheck r.kind w.bay.state = .issue k) (free : (s.staged b w).Unbusied b) :
    checkHead b (s.staged b w) = s.staged b { w with
      bay := { w.bay with queue := { r with phase := .issued } :: more }
      bus := { w.bus with normal := w.bus.normal ++ [w.exchange b k .head r.payload] } } := by
  rw [checkHead, staged_checkHeads hq hp hs, h]
  exact staged_issueHead hq free k r.payload

end Check

/-- A lone head whose check completes it (R31, R34). -/
theorem staged_check_completes {r : Request} {c : Completion} (hq : w.bay.queue = [r]) (hp : r.phase = .checking)
    (hs : w.bay.slot = none) (intent : w.bay.restoreIntent = false) (h : headCheck r.kind w.bay.state = .complete c) :
    checkHead b (s.staged b w) = s.staged b (({ w with bay := { w.bay with queue := [] } } : Scene).delivered b r c []) := by
  rw [checkHead, staged_checkHeads hq hp hs, h]
  dsimp only
  rw [staged_popHead_last hq intent]
  refine checkHeads_empty ?_ 5
  rw [staged_bay, delivered_keeps]

/-! ### The start of an exchange (R10, R128, R130) -/

/-- The bus on which the first attempt of an exchange has been sent. -/
def BusController.trying (u : BusController) (x : Exchange) (due : Count) : BusController :=
  { u with
    current := some { ex := x, resends := 0, answerBy := some due, resendAt := none, disregarded := false, cutShort := false
                      replaced := false }
    transaction := .attempt, sent := u.sent ++ [x.frame] }

theorem staged_sendAttempt (x : Exchange) :
    sendAttempt (makeCurrent x (s.staged b w)) = s.staged b { w with bus := w.bus.trying x (s.after 50) } := rfl

theorem trying_mayTake (x : Exchange) (due : Count) (u : BusController) :
    (s.staged b { w with bus := u.trying x due }).mayTake = false := rfl

/-- A head's exchange that changes no state starts (R32, R128). -/
theorem staged_startPlain_head {x : Exchange} {r : Request} {more : List Request} (hq : w.bay.queue = r :: more)
    (target : x.target = .bay b) (owner : x.owner = .head) (plain : x.kind.stateChanging = false) :
    startTaken x (s.staged b w) = s.staged b { w with
      bay := { w.bay with queue := { r with wait := none } :: more }, bus := w.bus.trying x (s.after 50) } := by
  unfold startTaken
  simp only [target, plain, Bool.false_eq_true, if_false]
  unfold startPlain
  simp only [target, owner]
  rw [staged_sendAttempt]
  exact staged_updHead (w := { w with bus := w.bus.trying x (s.after 50) }) hq _

/-- An exchange of no head that changes no state starts (R128). -/
theorem staged_startPlain {x : Exchange} (target : x.target = .bay b) (owner : x.owner ≠ .head) (plain : x.kind.stateChanging = false) :
    startTaken x (s.staged b w) = s.staged b { w with bus := w.bus.trying x (s.after 50) } := by
  unfold startTaken
  simp only [target, plain, Bool.false_eq_true, if_false]
  unfold startPlain
  simp only [target]
  rw [staged_sendAttempt]
  cases h : x.owner with
  | head => exact absurd h owner
  | _ => rfl

/-- The scene in which a state-changing exchange starts: its state before kept, the deadline gone, the state entered (R10). -/
def Scene.starting (w : Scene) (b : Bay) (x : Exchange) (st : BayState) (now due : Count) : Scene :=
  ({ w with
    bay := { w.bay with deadline := none }
    bus := w.bus.trying (if x.kind = ExKind.spin ∨ x.kind = ExKind.load then x else { x with before := w.bay.state }) due }).entering b st now

theorem startTaken_bay {x : Exchange} {st : BayState} {u : State} (target : x.target = .bay b) (changing : x.kind.stateChanging = true)
    (row : startState x.kind (u.bay b).state = some st) : startTaken x u = startBay b x st u := by
  unfold startTaken
  simp only [target, changing, if_true, row]

/-- What every start of a state-changing exchange does, whoever owns it (R10). -/
theorem staged_starting {x : Exchange} {st : BayState}
    (booked : w.bay.reservation = (w.adm.profiles[w.bay.cls]).reservation w.bay.state) :
    changeState b st (setDeadline b none (sendAttempt (makeCurrent
        (if x.kind = .spin ∨ x.kind = .load then x else { x with before := ((s.staged b w).bay b).state }) (s.staged b w))))
      = s.staged b (w.starting b x st s.now (s.after 50)) := by
  rw [staged_bay, staged_sendAttempt, setDeadline, staged_updBay, staged_changeState (by exact booked)]
  rfl

/-- A head's state-changing exchange starts (R10, R32). -/
theorem staged_start_head {x : Exchange} {st : BayState} {r : Request} {more : List Request} (hq : w.bay.queue = r :: more)
    (target : x.target = .bay b) (owner : x.owner = .head) (changing : x.kind.stateChanging = true)
    (row : startState x.kind w.bay.state = some st)
    (booked : w.bay.reservation = (w.adm.profiles[w.bay.cls]).reservation w.bay.state) :
    startTaken x (s.staged b w) = s.staged b ({ w with
      bay := { w.bay with queue := { r with wait := none } :: more } }.starting b x st s.now (s.after 50)) := by
  rw [startTaken_bay target changing (by rw [staged_bay]; exact row)]
  have started := staged_starting (s := s) (b := b) (w := w) (x := x) (st := st) booked
  unfold startBay
  dsimp only
  rw [started]
  rw [owner]
  exact staged_updHead (s := s) (b := b) (w := w.starting b x st s.now (s.after 50)) hq _

end Staged

end Sys2Proof.Machine
end

section
/-! PROOFS. Requests to one bay of a part at rest: completed, waiting, admitted, or started in the event of their arrival. -/

namespace Sys2Proof.Machine

set_option Elab.async false

/-! ### Acceptance (R29, R32) -/

/-- The bay that takes a request as its only one: head, in Checking. -/
def State.arrived (s : State) (b : Bay) (r : Request) : Scene :=
  { s.atRest b [] with bay := { s.bay b with
      restoreIntent := (s.bay b).restoreIntent && !r.kind.governed
      queue := [{ r with phase := .checking, wait := s.waitDeadline }] } }

section Accepted

variable {k : ReqKind} {h : Header} {p : List Byte} {s : State} {b : Bay} {src : Source} (rest : s.Resting) (hs : s.Hears h (.bay b) src)
  (hp : p = [] ∨ (k = .pass ∧ p.length ≤ 32)) (access : s.accessFailure k src b = none) (cache : k = .status → s.freshCache b = none)

include rest hs hp access cache

theorem exec_accepted (room : (s.bay b).queue.length < 4) :
    exec (k.command h p) s =
      .next (conclude s.heard (acceptRequest b (entryOf k src h.tag none p) (s.heard.staged b (s.atRest b [])))) := by
  have full : s.heard.queueFull b = false := by
    rw [← Bool.not_eq_true, queueFull_iff]
    exact Nat.not_le.mpr room
  rw [exec_queued hs rest.survey hp, requestOne_accepted (s := s.heard) access cache _ _ full, ← heard_atRest rest b]

theorem exec_first (empty : (s.bay b).queue = []) :
    exec (k.command h p) s =
      .next (conclude s.heard (checkHead b (s.heard.staged b (s.arrived b (entryOf k src h.tag none p))))) := by
  rw [exec_accepted rest hs hp access cache (by rw [empty]; decide), staged_acceptRequest_first (w := s.atRest b []) empty]
  rfl

end Accepted

/-! ### The end of an arrival -/

/-- A scene that leaves nothing for the bus or the Admission Unit to do ends in its evaluation. -/
theorem staged_concludes {s : State} {b : Bay} {w : Scene} (s0 : State) (survey : s.survey.running = false)
    (others : ∀ c, (s.bay c).waiting = []) (hu : w.bus.urgent = []) (hn : w.bus.normal = []) (hw : w.bay.waiting = [])
    (admission : w.adm.queue = [] ∨ ∃ e rest, w.adm.queue = e :: rest ∧ (s.staged b w).admits e = false) :
    conclude s0 (s.staged b w) = close (evaluateBudget (s.staged b w)) := by
  have waiting := staged_waiting (s := s) (b := b) hw others
  have choice (v : State) (bus : v.bus = w.bus) (bays : v.bays = (s.staged b w).bays) : busChoice v = v :=
    busChoice_empty (by rw [bus]; exact hu) (by rw [bus]; exact hn) fun c => by
      rw [State.bay, bays]
      exact waiting c
  have examined : examine (evaluateBudget (s.staged b w)) = evaluateBudget (s.staged b w) := by
    rcases admission with h | ⟨e, rest, h, no⟩
    · exact examine_nil _ (by rw [evaluateBudget_adm]; exact h)
    · rw [examine_cons (e := e) (rest := rest) (by rw [evaluateBudget_adm]; exact h), if_neg]
      rw [show (evaluateBudget (s.staged b w)).admits e = (s.staged b w).admits e by rw [evaluateBudget_eq]; rfl, no]
      decide
  unfold conclude
  rw [completeSurvey_off (s.staged b w) survey, choice _ rfl rfl]
  have settled : settleBudget s0 (s.staged b w) = evaluateBudget (s.staged b w) := by
    unfold settleBudget
    dsimp only
    rw [examined, ite_self]
  rw [settled, choice _ (by rw [evaluateBudget_eq]; rfl) (by rw [evaluateBudget_eq]), evaluateBudget_of_flag _ (evaluateBudget_flag _)]

/-- A scene whose Normal queue holds one exchange, which the free bus starts, ends where the start leads. -/
theorem staged_starts {s : State} {b : Bay} {w v : Scene} {x : Exchange} (s0 : State) (survey : s.survey.running = false)
    (others : ∀ c, (s.bay c).waiting = []) (hw : w.bay.waiting = []) (hu : w.bus.urgent = []) (hn : w.bus.normal = [x])
    (hc : w.bus.current = none) (free : w.bus.transaction = .free) (unblocked : (s.staged b w).blocked x = false)
    (start : startTaken x (s.staged b { w with bus := { w.bus with normal := [] } }) = s.staged b v)
    (busy : v.bus.transaction = .attempt) (hv : v.bay.waiting = []) (admission : v.adm.queue = []) :
    conclude s0 (s.staged b w) = close (evaluateBudget (s.staged b v)) := by
  have may : (s.staged b w).mayTake = true := by
    show (decide (w.bus.transaction = .free) && w.bus.current.isNone) = true
    rw [free, hc]
    rfl
  have taken : (s.staged b v).mayTake = false := by
    show (decide (v.bus.transaction = .free) && v.bus.current.isNone) = false
    rw [busy]
    rfl
  exact conclude_starts s0 (show (s.staged b w).survey.running = false from survey) (staged_waiting hw others) may
    (choose_normal (s := s.staged b w) hu hn unblocked) start taken (staged_waiting hv others) admission

/-- The same for the Urgent queue. -/
theorem staged_starts_urgent {s : State} {b : Bay} {w v : Scene} {x : Exchange} (s0 : State) (survey : s.survey.running = false)
    (others : ∀ c, (s.bay c).waiting = []) (hw : w.bay.waiting = []) (hu : w.bus.urgent = [x])
    (hc : w.bus.current = none) (free : w.bus.transaction = .free)
    (start : startTaken x (s.staged b { w with bus := { w.bus with urgent := [] } }) = s.staged b v)
    (busy : v.bus.transaction = .attempt) (hv : v.bay.waiting = []) (admission : v.adm.queue = []) :
    conclude s0 (s.staged b w) = close (evaluateBudget (s.staged b v)) := by
  have may : (s.staged b w).mayTake = true := by
    show (decide (w.bus.transaction = .free) && w.bus.current.isNone) = true
    rw [free, hc]
    rfl
  have taken : (s.staged b v).mayTake = false := by
    show (decide (v.bus.transaction = .free) && v.bus.current.isNone) = false
    rw [busy]
    rfl
  exact conclude_starts s0 (show (s.staged b w).survey.running = false from survey) (staged_waiting hw others) may
    (choose_urgent (s := s.staged b w) hu) start taken (staged_waiting hv others) admission

/-- The required increase, the limit and the stagger decide an entry alike wherever they stand alike (R65, R67). -/
theorem staged_admits {s : State} {b : Bay} {w : Scene} {k : AdmKind} :
    (s.staged b w).admits { bay := b, kind := k } =
      (decide (w.adm.committed + ((w.adm.profiles[w.bay.cls]).reservation k.state - w.bay.reservation) ≤ w.adm.effLimit)
        && (k = .load || w.adm.staggerDue.isNone)) := by
  unfold State.admits State.fits State.required State.targetReservation State.staggerOpen
  simp only [staged_profileOf, staged_bay]
  rfl

theorem admits_scene (s : State) (b : Bay) (k : AdmKind) : s.admits { bay := b, kind := k } =
    (decide (s.adm.committed + ((s.profileOf b).reservation k.state - (s.bay b).reservation) ≤ s.adm.effLimit)
      && (k = .load || s.adm.staggerDue.isNone)) := by
  conv_lhs => rw [← staged_scene s b]
  exact staged_admits

theorem committing_self {s : State} (flag : s.FlagFollows) : s.adm.committing s.adm.committed = s.adm := by
  unfold Admission.committing
  rw [← show s.adm.overBudget = decide (s.adm.effLimit < s.adm.committed) from flag]

theorem budgetNews_self {s : State} (flag : s.FlagFollows) : s.budgetNews s.adm.committed = [] :=
  if_pos (show s.adm.overBudget = decide (s.adm.effLimit < s.adm.committed) from flag).symm

/-- An arrival that changes one Bay Record and is answered. -/
theorem staged_answers {s : State} {b : Bay} {w : Scene} {e : BayRecord} {r : Reply} (rest : s.Resting) (waiting : e.waiting = [])
    (h : w = { s.atRest b [] with bay := e, replies := [r] }) :
    conclude s.heard (s.heard.staged b w) = (s.updBay b fun _ => e).answered r := by
  have update : (s.updBay b fun _ => e).heard = s.heard.staged b { s.atRest b [] with bay := e } := by
    exact (congrArg (State.updBay · b fun _ => e) (heard_atRest rest b)).trans (staged_updBay _)
  have placed : s.heard.staged b w = placeReply r (s.updBay b fun _ => e).heard := by
    rw [update, staged_placeReply]
    exact congrArg (s.heard.staged b) h
  rw [placed]
  refine conclude_answers s.heard (u := s.updBay b fun _ => e) ⟨rest.urgent, rest.normal, fun c => ?_, rest.admission, rest.flag⟩ rest.survey r
  rw [updBay_bay]
  split
  · exact waiting
  · exact rest.waiting c

/-- What an arrival that moves no current leaves and tells. -/
theorem unmoved_ends {s t : State} {b : Bay} {w : Scene} (ht : close (evaluateBudget (s.staged b w)) = t) (flag : s.FlagFollows) {q : List AdmEntry} (adm : w.adm = { s.adm with queue := q })
    (groups : w.groups = s.groups) :
      t.bay b = w.bay ∧ t.adm = w.adm ∧ t.bus = w.bus ∧ t.ffr = w.ffr ∧ s.KeepsBut t b ∧ s.Tells t w.replies w.notices := by
  obtain ⟨bay, hadm, bus, ffr, hgroups, keeps, tells⟩ := staged_ends (by rw [adm]) (by rw [adm]) t ht.symm
  have committed : w.adm.committed = s.adm.committed := by rw [adm]
  rw [committed, budgetNews_self flag, List.append_nil] at tells
  refine ⟨bay, ?_, bus, ffr, ?_, tells⟩
  · rw [hadm, adm]
    exact congrArg (fun a : Admission => { a with queue := q }) (committing_self flag)
  · rw [hgroups, groups] at keeps
    exact keeps

/-- What an event that moves the bay's current leaves and tells. -/
theorem moved_ends {s t : State} {b : Bay} {w : Scene} {c : Nat} (ht : close (evaluateBudget (s.staged b w)) = t)
    (adm : w.adm = { s.adm with committed := c }) (groups : w.groups = s.groups) :
      t.bay b = w.bay ∧ t.adm = s.adm.committing c ∧ t.bus = w.bus ∧ t.ffr = w.ffr ∧ s.KeepsBut t b
        ∧ s.Tells t w.replies (w.notices ++ s.budgetNews t.adm.committed) := by
  obtain ⟨bay, hadm, bus, ffr, hgroups, keeps, tells⟩ := staged_ends (by rw [adm]) (by rw [adm]) t ht.symm
  have e : t.adm = s.adm.committing c := by rw [hadm, adm]; rfl
  have committed : w.adm.committed = t.adm.committed := by rw [e, adm]; rfl
  rw [committed] at tells
  refine ⟨bay, e, bus, ffr, ?_, tells⟩
  rw [hgroups, groups] at keeps
  exact keeps

end Sys2Proof.Machine

namespace Sys2Proof.Proofs

open Sys2Proof.Machine

/-- Settles O26: the check of the head completes it, and the reply is the event's only trace. -/
theorem requestsThatCompleteAtOnce : Obligations.RequestsThatCompleteAtOnce := by
  intro s k c h b src rest empty slot hs governed access completes
  have notStatus : k = .status → s.freshCache b = none := by rintro rfl; cases governed
  have intent : ((s.bay b).restoreIntent && !k.governed) = false := by rw [governed]; simp
  rw [exec_first rest hs (.inl rfl) access notStatus empty,
    staged_check_completes (w := s.arrived b (entryOf k src h.tag none [])) (c := c) rfl rfl slot intent completes,
    delivered_upstream rfl]
  refine congrArg Host.Outcome.next ((staged_answers (e := { s.bay b with restoreIntent := false }) rest (rest.waiting b) ?_).trans rfl)
  have record : { (s.arrived b (entryOf k src h.tag none [])).bay with queue := [] } = { s.bay b with restoreIntent := false } := by
    unfold State.arrived
    rw [← empty]
    exact congrArg (fun i => { s.bay b with restoreIntent := i }) intent
  rw [record]
  rfl

/-- Settles O27: a head that its check issues starts in the event, or the cache answers. -/
theorem statusAndPassAreServed : Obligations.StatusAndPassAreServed := by
  refine ⟨fun s k x h p b src free hs access form => ?_, fun s h b src c rest hs access cached fresh age empty slot => ?_⟩
  · have rest := free.toResting
    have cache : k = .status → s.freshCache b = none := by
      rcases form with ⟨_, _, _, none⟩ | ⟨rfl, _, _⟩
      · exact fun _ => none
      · exact fun e => by cases e
    have fits : p = [] ∨ (k = .pass ∧ p.length ≤ 32) := form.imp (fun f => f.2.2.1) fun f => ⟨f.1, f.2.2⟩
    have issues : headCheck k (s.bay b).state = .issue x := by rcases form with ⟨rfl, rfl, _⟩ | ⟨rfl, rfl, _⟩ <;> rfl
    have plain : x.stateChanging = false := by rcases form with ⟨_, rfl, _⟩ | ⟨_, rfl, _⟩ <;> rfl
    have governed : k.governed = false := by rcases form with ⟨rfl, _⟩ | ⟨rfl, _⟩ <;> rfl
    have blocks (u : State) (y : Exchange) (hy : y.kind = x) : u.blocked y = false := by
      rcases form with ⟨_, rfl, _⟩ | ⟨_, rfl, _⟩ <;> simp [State.blocked, hy]
    rw [exec_first rest hs fits access cache free.queue,
      staged_check_issues (w := s.arrived b (entryOf k src h.tag none p)) rfl rfl free.slot issues
        (staged_unbusied rfl rfl rfl (rest.waiting b))]
    refine ⟨_, congrArg Host.Outcome.next (staged_starts (s := s.heard) (b := b)
      (x := (s.arrived b (entryOf k src h.tag none p)).exchange b x .head p) s.heard rest.survey rest.waiting (rest.waiting b) rfl rfl rfl
      rfl (blocks _ _ rfl) (staged_startPlain_head rfl rfl rfl plain) rfl (rest.waiting b) rest.admission), ?_⟩
    generalize ht : close _ = t
    obtain ⟨bay, adm, bus, ffr, keeps, tells⟩ := unmoved_ends (q := s.adm.queue) ht rest.flag rfl rfl
    refine ⟨bay.trans ?_, adm, bus, ffr, keeps, tells⟩
    simp [State.arrived, entryOf, governed]
  · have cache' : s.heard.freshCache b = some (c.report, s.age c.time) := by
      unfold State.freshCache
      simp only [show s.heard.bay b = s.bay b from rfl, cached]
      exact if_pos ⟨fresh, age, by rw [empty]; rfl, by rw [slot]; rfl⟩
    rw [show exec (.status h []) s = exec (ReqKind.status.command h []) s from rfl, exec_queued hs rest.survey (.inl rfl),
      requestOne_cached (s := s.heard) access cache']
    exact congrArg Host.Outcome.next (conclude_placeReply_heard rest _)

/-- Settles O23: the head's exchange starts in the event, and the bay enters its row's state. -/
theorem unloadAndSpinDownStart : Obligations.UnloadAndSpinDownStart := by
  intro s k x st h b src free hs kinds access issues row
  have rest := free.toResting
  have cache : k = .status → s.freshCache b = none := by rcases kinds with rfl | rfl <;> exact fun e => by cases e
  have governed : k.governed = true := by rcases kinds with rfl | rfl <;> rfl
  have exchange : x = .unload ∨ x = .stop := by
    rcases kinds with rfl | rfl <;> cases hst : (s.bay b).state <;> rw [hst] at issues <;> cases issues
    all_goals simp
  have changing : x.stateChanging = true := by rcases exchange with rfl | rfl <;> rfl
  have blocks (u : State) (y : Exchange) (hy : y.kind = x) : u.blocked y = false := by
    rcases exchange with rfl | rfl <;> simp [State.blocked, hy]
  rw [exec_first rest hs (.inl rfl) access cache free.queue,
    staged_check_issues (w := s.arrived b (entryOf k src h.tag none [])) rfl rfl free.slot issues
      (staged_unbusied rfl rfl rfl (rest.waiting b))]
  refine ⟨_, congrArg Host.Outcome.next (staged_starts (s := s.heard) (b := b)
    (x := (s.arrived b (entryOf k src h.tag none [])).exchange b x .head []) s.heard rest.survey rest.waiting (rest.waiting b) rfl rfl rfl
    rfl (blocks _ _ rfl) (staged_start_head rfl rfl rfl changing row (free.balanced.1 b)) rfl (rest.waiting b) rest.admission), ?_⟩
  generalize ht : close _ = t
  obtain ⟨bay, adm, bus, ffr, keeps, tells⟩ := moved_ends ht rfl rfl
  refine ⟨bay.trans ?_, adm, bus.trans ?_, ffr, keeps, tells⟩
  · simp [Scene.starting, Scene.entering, State.arrived, entryOf, governed]
    rfl
  · rcases exchange with rfl | rfl <;> rfl

/-- Settles O25: each way to wait leaves nothing for the examination or the bus. -/
theorem spinUpAndLoadWait : Obligations.SpinUpAndLoadWait := by
  refine ⟨fun s a h b src free hs access p q cases => ?_, fun s k h p b src rest hs access behind room form => ?_⟩
  · have rest := free.toResting
    have cache : a.request = .status → s.freshCache b = none := by cases a <;> exact fun e => by cases e
    have governed : a.request.governed = true := by cases a <;> rfl
    have waits : checkHead b (s.heard.staged b (s.arrived b (entryOf a.request src h.tag none [])))
        = s.heard.staged b { s.arrived b (entryOf a.request src h.tag none []) with
            bay := { s.bay b with
              restoreIntent := (s.bay b).restoreIntent && !a.request.governed
              queue := [{ entryOf a.request src h.tag none [] with phase := p, wait := s.waitDeadline }] }
            adm := { s.adm with queue := s.adm.queue ++ q } } := by
      rcases cases with ⟨permit, level, rfl, rfl⟩ | ⟨permit, level, _, rfl, rfl⟩ | ⟨hold, rfl, rfl⟩
      · rw [staged_check_forbidden (s := s.heard) (w := s.arrived b (entryOf a.request src h.tag none [])) rfl rfl free.slot permit level,
          List.append_nil]
        rfl
      · rw [staged_check_permitted (s := s.heard) (w := s.arrived b (entryOf a.request src h.tag none [])) rfl rfl free.slot permit level]
        rfl
      · rw [staged_check_hold (s := s.heard) (w := s.arrived b (entryOf a.request src h.tag none [])) rfl rfl free.slot hold, List.append_nil]
        rfl
    have admission : q = [] ∨ q = [{ bay := b, kind := a }] ∧ s.admits { bay := b, kind := a } = false := by
      rcases cases with ⟨_, _, _, rfl⟩ | ⟨_, _, no, _, rfl⟩ | ⟨_, _, rfl⟩
      · exact .inl rfl
      · exact .inr ⟨rfl, no⟩
      · exact .inl rfl
    rw [exec_first rest hs (.inl rfl) access cache free.queue, waits, rest.admission, List.nil_append]
    refine ⟨_, congrArg Host.Outcome.next (staged_concludes (s := s.heard) (b := b) s.heard rest.survey rest.waiting rfl rfl
      (rest.waiting b) ?_), ?_⟩
    · refine admission.imp id fun ⟨hq, no⟩ => ⟨_, _, hq, ?_⟩
      rw [staged_admits, ← no, admits_scene]
      rfl
    · generalize ht : close _ = t
      obtain ⟨bay, adm, bus, ffr, keeps, tells⟩ := unmoved_ends (q := q) ht rest.flag rfl rfl
      refine ⟨bay.trans ?_, adm, bus, ffr, keeps, tells⟩
      simp [entryOf, governed]
  · have cache : k = .status → s.freshCache b = none := by
      intro _
      unfold State.freshCache
      dsimp only
      split
      · exact if_neg (by simp [behind])
      · rfl
    rw [exec_accepted rest hs form access cache room, staged_acceptRequest_behind (w := s.atRest b []) behind]
    refine ⟨_, congrArg Host.Outcome.next (staged_concludes (s := s.heard) (b := b) s.heard rest.survey rest.waiting rfl rfl
      (rest.waiting b) (.inl rest.admission)), ?_⟩
    generalize ht : close _ = t
    obtain ⟨bay, adm, bus, ffr, keeps, tells⟩ := unmoved_ends (q := s.adm.queue) ht rest.flag rfl rfl
    exact ⟨bay, adm, bus, ffr, keeps, tells⟩

end Sys2Proof.Proofs
end

section
/-! PROOFS. The admission of a bay's head, with the start that follows it in the event. -/

namespace Sys2Proof.Machine

set_option Elab.async false

section Staged

variable {s : State} {b : Bay} {w : Scene}

/-- The Admission Unit's stagger after an admission (R66). -/
def Admission.staggered (a : Admission) (k : AdmKind) (s : State) : Admission :=
  if k = .spinUp then
    { a with lastSpin := some s.now, staggerDue := if s.timing.stagger = 0 then none else some (s.after s.timing.stagger) }
  else a

/-- The scene after the admission of its bay's head (R9, R66, R68). -/
def Scene.granted (w : Scene) (b : Bay) (k : AdmKind) (q : List Request) (s : State) : Scene :=
  { w.entering b k.state s.now with
    bay := { (w.entering b k.state s.now).bay with queue := q }
    adm := { (w.entering b k.state s.now).adm with queue := [] }.staggered k s
    bus := { w.bus with normal := w.bus.normal ++ [w.exchange b k.exchange .head []] } }

theorem staged_grant {k : AdmKind} {r : Request} {more : List Request} (hq : w.bay.queue = r :: more)
    (free : (s.staged b w).Unbusied b) (booked : w.bay.reservation = (w.adm.profiles[w.bay.cls]).reservation w.bay.state)
    (queue : w.adm.queue = [{ bay := b, kind := k }]) :
    grant { bay := b, kind := k } (s.staged b w) = s.staged b (w.granted b k ({ r with phase := .issued } :: more) s) := by
  have entered : changeState b k.state ((s.staged b w).updAdm fun a => { a with queue := a.queue.tail })
      = s.staged b (({ w with adm := { w.adm with queue := [] } } : Scene).entering b k.state s.now) := by
    rw [staged_updAdm, queue]
    exact staged_changeState booked
  have free' : (s.staged b (({ w with adm := { w.adm with queue := [] } } : Scene).entering b k.state s.now)).Unbusied b :=
    ⟨free.urgent, free.normal, free.current, by rw [staged_bay]; exact (staged_bay (s := s) (b := b) (w := w)) ▸ free.waiting⟩
  have issued : admitted { bay := b, kind := k } (s.staged b w) = s.staged b { w.entering b k.state s.now with
      bay := { (w.entering b k.state s.now).bay with queue := { r with phase := .issued } :: more }
      adm := { (w.entering b k.state s.now).adm with queue := [] }
      bus := { w.bus with normal := w.bus.normal ++ [w.exchange b k.exchange .head []] } } := by
    unfold admitted
    dsimp only
    rw [entered, placeFor_unbusied free', staged_exchangeFor]
    exact staged_setPhase (s := s) (b := b) (w := { w.entering b k.state s.now with
      adm := { (w.entering b k.state s.now).adm with queue := [] }
      bus := { w.bus with normal := w.bus.normal ++ [w.exchange b k.exchange .head []] } }) hq _
  rw [grant_eq, issued]
  cases k <;> rfl

/-- An admitted head's exchange starts in the state its admission gave (R9, R10). -/
theorem staged_start_admitted {x : Exchange} {k : AdmKind} {r : Request} {more : List Request} (hq : w.bay.queue = r :: more)
    (target : x.target = .bay b) (owner : x.owner = .head) (kind : x.kind = k.exchange) (state : w.bay.state = k.state)
    (booked : w.bay.reservation = (w.adm.profiles[w.bay.cls]).reservation w.bay.state) :
    startTaken x (s.staged b w) = s.staged b { w with
      bay := { w.bay with deadline := none, queue := { r with wait := none } :: more }, bus := w.bus.trying x (s.after 50) } := by
  have own : x.kind = .spin ∨ x.kind = .load := by rw [kind]; cases k <;> simp [AdmKind.exchange]
  have row : startState x.kind w.bay.state = some k.state := by rw [kind, state]; cases k <;> rfl
  rw [staged_start_head hq target owner (by rw [kind]; cases k <;> rfl) row booked]
  unfold Scene.starting
  rw [if_pos own]
  exact congrArg (s.staged b) (entering_same (w := { w with
    bay := { w.bay with deadline := none, queue := { r with wait := none } :: more }, bus := w.bus.trying x (s.after 50) })
    state booked s.now)

/-- An event whose scene waits for the budget alone ends with the admission and the start. -/
theorem staged_concludes_admitted {k : AdmKind} {r : Request} {more : List Request} (s0 : State) (survey : s.survey.running = false)
    (others : ∀ c, (s.bay c).waiting = []) (hu : w.bus.urgent = []) (hn : w.bus.normal = []) (hc : w.bus.current = none)
    (free : w.bus.transaction = .free) (hw : w.bay.waiting = []) (hq : w.bay.queue = r :: more)
    (booked : w.bay.reservation = (w.adm.profiles[w.bay.cls]).reservation w.bay.state) (fresh : s0.adm.queue = [])
    (queue : w.adm.queue = [{ bay := b, kind := k }]) (level : s.prot.permits (s.prot.levels.of w.bay.zone) k = true)
    (fits : w.adm.committed + ((w.adm.profiles[w.bay.cls]).reservation k.state - w.bay.reservation) ≤ w.adm.effLimit)
    (opened : k = .load ∨ w.adm.staggerDue = none) :
    conclude s0 (s.staged b w) = close (evaluateBudget (s.staged b
      { (w.evaluated s.now).granted b k [] s with
        bay := { ((w.evaluated s.now).granted b k [] s).bay with
          deadline := none, queue := { r with phase := .issued, wait := none } :: more }
        bus := ({ w.bus with normal := [] }).trying (w.exchange b k.exchange .head []) (s.after 50) })) := by
  have waiting := staged_waiting (s := s) (b := b) hw others
  have none : busChoice (s.staged b w) = s.staged b w := busChoice_empty (s := s.staged b w) hu hn waiting
  have admits : (s.staged b (w.evaluated s.now)).admits { bay := b, kind := k } = true := by
    rw [staged_admits, Bool.and_eq_true, Bool.or_eq_true, decide_eq_true_iff, decide_eq_true_iff, Option.isNone_iff_eq_none]
    exact ⟨fits, opened⟩
  have granted := staged_grant (s := s) (b := b) (w := w.evaluated s.now) (k := k) hq (staged_unbusied hu hn hc hw) booked queue
  have settled : settleBudget s0 (s.staged b w) = s.staged b ((w.evaluated s.now).granted b k ({ r with phase := .issued } :: more) s) := by
    unfold settleBudget
    dsimp only
    rw [staged_evaluateBudget]
    have moved : (s.staged b (w.evaluated s.now)).adm.queue ≠ s0.adm.queue := by
      rw [fresh]
      exact fun e => by cases queue.symm.trans e
    rw [if_pos (.inr (.inl moved)), examine_cons (e := { bay := b, kind := k }) (rest := []) queue, if_pos admits, granted]
    refine examine_nil _ ?_
    cases k <;> rfl
  have unblocked : (s.staged b ((w.evaluated s.now).granted b k ({ r with phase := .issued } :: more) s)).blocked
      (w.exchange b k.exchange .head []) = false := by
    have zone : (s.staged b ((w.evaluated s.now).granted b k ({ r with phase := .issued } :: more) s)).permits b k = true := by
      rw [State.permits, staged_level]
      exact level
    cases k
    · exact congrArg (!·) zone
    · exact congrArg (!·) zone
  have taken := busChoice_takes (s := s.staged b ((w.evaluated s.now).granted b k ({ r with phase := .issued } :: more) s))
    (staged_waiting hw others)
    (by
      show (decide (w.bus.transaction = .free) && w.bus.current.isNone) = true
      rw [free, hc]
      rfl)
    (choose_normal (x := w.exchange b k.exchange .head []) (rest := []) hu (by
      show w.bus.normal ++ _ = _
      rw [hn]
      rfl) unblocked)
    (staged_start_admitted (s := s) (b := b) (w := { (w.evaluated s.now).granted b k ({ r with phase := .issued } :: more) s with
      bus := { w.bus with normal := [] } }) (k := k) rfl rfl rfl rfl rfl (by cases k <;> rfl)) rfl
  unfold conclude
  rw [completeSurvey_off (s.staged b w) survey, none, settled, taken]
  rfl

end Staged

end Sys2Proof.Machine

namespace Sys2Proof.Proofs

open Sys2Proof.Machine

/-- Settles O24: the arrival's check queues the head, the event's examination admits it, and the bus starts it. -/
theorem spinUpAndLoadAreAdmitted : Obligations.SpinUpAndLoadAreAdmitted := by
  intro s a h b src free hs access permit level admits
  have rest := free.toResting
  have cache : a.request = .status → s.freshCache b = none := by cases a <;> exact fun e => by cases e
  have governed : a.request.governed = true := by cases a <;> rfl
  obtain ⟨fits, opened⟩ := (admits_iff s _).mp admits
  have booked := free.balanced.1 b
  rw [exec_first rest hs (.inl rfl) access cache free.queue,
    staged_check_permitted (s := s.heard) (w := s.arrived b (entryOf a.request src h.tag none [])) rfl rfl free.slot permit level]
  refine ⟨_, congrArg Host.Outcome.next (staged_concludes_admitted (s := s.heard) (b := b) s.heard rest.survey rest.waiting rfl rfl rfl
    rfl (rest.waiting b) rfl booked rest.admission (congrArg (· ++ [_]) rest.admission) level fits opened), ?_⟩
  generalize ht : close _ = t
  have flag : s.adm.overBudget = decide (s.adm.effLimit < s.adm.committed) := rest.flag
  obtain ⟨bay, adm, bus, ffr, groups, keeps, tells⟩ := staged_ends (by cases a <;> rfl) (by cases a <;> exact flag.symm) t ht.symm
  have moved : t.adm = { s.adm.moved (s.bay b).reservation ((s.profileOf b).reservation a.state) with
      lastSpin := if a = .spinUp then some s.now else s.adm.lastSpin
      staggerDue := if a = .spinUp then (if s.timing.stagger = 0 then none else some (s.after s.timing.stagger)) else s.adm.staggerDue
      queue := [] } := by
    rw [adm]
    cases a <;> rfl
  have committed : t.adm.committed = s.adm.committed + (s.profileOf b).reservation a.state - (s.bay b).reservation := by rw [moved]; rfl
  have limit : t.adm.effLimit = s.adm.effLimit := by rw [moved]; rfl
  have within : t.adm.committed ≤ t.adm.effLimit := by
    dsimp only at fits
    omega
  refine ⟨bay.trans ?_, moved.trans ?_, within, bus, ffr, ?_, ?_⟩
  · have intent : ((s.bay b).restoreIntent && !a.request.governed) = false := by simp [governed]
    refine Eq.trans ?_ (congrArg (fun i => { s.bay b with
      state := a.state, reservation := (s.profileOf b).reservation a.state, restoreIntent := i, deadline := none
      queue := [{ kind := a.request, origin := .upstream src h.tag none, payload := [], phase := .issued, wait := none }] }) intent)
    cases a <;> rfl
  · rw [← rest.admission]
    rfl
  · rw [groups] at keeps
    exact keeps
  · have before : decide (s.adm.effLimit < s.adm.committed) = s.adm.overBudget := flag.symm
    have within' : decide (s.adm.effLimit < s.adm.committed) = false := by
      dsimp only at fits
      rw [decide_eq_false_iff_not]
      omega
    have news : s.budgetNews (s.adm.committed + (s.profileOf b).reservation a.state - (s.bay b).reservation) = [] := by
      refine if_pos ?_
      rw [flag, within', decide_eq_false_iff_not, ← committed, ← limit]
      exact Nat.not_lt.mpr within
    have told : s.heard.Tells t [] (([] ++ (if decide (s.adm.effLimit < s.adm.committed) = s.adm.overBudget then []
        else [.budget (decide (s.adm.effLimit < s.adm.committed)) s.adm.committed s.adm.effLimit s.now]) ++ s.bayNews b a.state)
        ++ s.budgetNews (s.adm.committed + (s.profileOf b).reservation a.state - (s.bay b).reservation)) := by
      cases a <;> exact tells
    rw [if_pos before, news, List.append_nil, List.append_nil, List.nil_append] at told
    exact told

end Sys2Proof.Proofs
end

section
/-! PROOFS. Faults of a bay on a part at rest, answers to an attempt that stands alone, and expiries that place a QUERY. -/

namespace Sys2Proof.Machine

set_option Elab.async false

section Staged

variable {s : State} {b : Bay} {w : Scene}

/-! ### A fault of a bay (R14 to R17, R171) -/

/-- The scene after a fault that ends the bay's work (R14 to R17, R171). -/
def Scene.faulted (w : Scene) (s : State) (b : Bay) (st : BayState) (cause : Cause) (secondary : Nat) (rs : List Reply) (k : Work) :
    Scene :=
  { w with
    bay := { w.bay with
      state := st, reservation := (w.adm.profiles[w.bay.cls]).reservation st, deadline := none, slot := none, queue := []
      lastFault := some { cause := cause, secondary := secondary, time := s.now } }
    adm := { w.adm with committed := w.adm.committed + (w.adm.profiles[w.bay.cls]).reservation st - w.bay.reservation }
    ffr := ({ s with ffr := w.ffr } : State).faultTaken (.bay b) cause secondary k
    replies := w.replies ++ rs
    notices := w.notices ++ (if w.bay.state = st then [] else [.bay b st ((w.adm.profiles[w.bay.cls]).reservation st) s.now])
      ++ [.fault (.bay b) cause secondary k w.ffr.isNone s.now] }

/-- What a fault interrupts at a scene's bay: nothing, or one Issued request that stands alone (R17, R40, R171). -/
def Scene.Interrupts (w : Scene) (cause : Cause) (rs : List Reply) (k : Work) : Prop :=
  (w.bay.queue = [] ∧ rs = [] ∧ k = if w.bay.slot.isSome then .protective else .none)
    ∨ ∃ r src tag, w.bay.queue = [r] ∧ r.phase = .issued ∧ r.origin = .upstream src tag none ∧ w.bay.restoreIntent = false
        ∧ rs = [{ tag := tag, completion := { code := .bayFault, secondary := cause.code }, payload := [], echo := none }]
        ∧ k = if w.bay.slot.isSome then .protective else .request r.kind

/-- What R17 ends whatever becomes of the head. -/
theorem staged_endStanding (free : (s.staged b w).Unbusied b) :
    endStanding b (s.staged b w) = s.staged b { w with bay := { w.bay with deadline := none, slot := none } } := by
  have free' : (s.staged b { w with bay := { w.bay with deadline := none, slot := none } }).Unbusied b :=
    ⟨free.urgent, free.normal, free.current, by rw [staged_bay]; exact (staged_bay (s := s) (b := b) (w := w)) ▸ free.waiting⟩
  unfold endStanding
  dsimp only
  rw [setDeadline, staged_updBay, setSlot, staged_updBay, takeOut_unbusied free', leaveBaySet_unbusied free', disregard_unbusied free']

theorem staged_workOf {rs : List Reply} {cause : Cause} {k : Work} (h : w.Interrupts cause rs k) : (s.staged b w).workOf b = k := by
  unfold State.workOf
  rw [staged_bay]
  rcases h with ⟨hq, _, hk⟩ | ⟨r, _, _, hq, issued, _, _, _, hk⟩
  · rw [head_none (by rw [staged_bay]; exact hq), hk]
  · rw [head_cons (r := r) (more := []) (by rw [staged_bay]; exact hq), hk]
    simp only [issued, if_true]

/-- The end of the bay's work (R17, R40). -/
theorem staged_endWork {rs : List Reply} {cause : Cause} {k : Work} (h : w.Interrupts cause rs k) (free : (s.staged b w).Unbusied b) :
    endWork b cause none (s.staged b w) = s.staged b { w with
      bay := { w.bay with deadline := none, slot := none, queue := [] }, replies := w.replies ++ rs } := by
  unfold endWork State.headEnded
  dsimp only
  rw [headExchange_unbusied free, staged_endStanding free]
  rcases h with ⟨hq, hrs, _⟩ | ⟨r, src, tag, hq, issued, origin, intent, hrs, _⟩
  · rw [head_none (by rw [staged_bay]; exact hq)]
    simp only [Bool.false_eq_true, if_false]
    rw [recheckHead_none (by rw [staged_bay]; exact hq), hrs, List.append_nil, ← hq]
  · rw [head_cons (r := r) (more := []) (by rw [staged_bay]; exact hq)]
    simp only [issued, decide_true, Bool.and_self, if_true]
    rw [staged_completeHead_last (r := r) (by exact hq) (by exact intent), delivered_upstream origin, hrs]

/-- A fault of a bay for which nothing else stands. -/
theorem staged_faultBay {st : BayState} {cause : Cause} {secondary : Nat} {rs : List Reply} {k : Work} (h : w.Interrupts cause rs k)
    (free : (s.staged b w).Unbusied b) :
    faultBay b st cause secondary none (s.staged b w) = s.staged b (w.faulted s b st cause secondary rs k) := by
  have free' (v : Scene) (bus : v.bus = w.bus) (waiting : v.bay.waiting = w.bay.waiting) : (s.staged b v).Unbusied b := by
    refine ⟨?_, ?_, ?_, ?_⟩
    · show v.bus.urgent = []
      rw [bus]
      exact free.urgent
    · show ∀ x ∈ v.bus.normal, _
      rw [bus]
      exact free.normal
    · show ∀ c, v.bus.current = _ → _
      rw [bus]
      exact free.current
    · rw [staged_bay, waiting, ← (staged_bay (s := s) (b := b) (w := w))]
      exact free.waiting
  unfold faultBay
  dsimp only
  rw [staged_workOf h, staged_updBay, staged_putState, staged_endWork (rs := rs) (k := k) (by exact h) (by exact free' _ rfl rfl)]
  rw [staged_captureFault]
  by_cases same : w.bay.state = st
  · rw [if_neg (by rw [staged_bay]; simpa using same), staged_postNotice]
    unfold Scene.faulted
    simp [same]
    rfl
  · rw [if_pos (by rw [staged_bay]; exact same), postBay, staged_bay, staged_postNotice, staged_postNotice]
    unfold Scene.faulted
    simp [same]
    rfl

end Staged

/-! ### An attempt that awaits its answer (R130) -/

/-- An attempt of the current exchange `c`, addressed to `station`, awaits its answer. -/
structure State.Awaits (s : State) (c : Current) (station : Byte) : Prop where
  current : s.bus.current = some c
  window : c.answerBy.isSome = true
  target : c.ex.target.address = station

section Awaits

variable {s : State} {c : Current} {station : Byte} (awaits : s.Awaits c station)

include awaits

theorem awaiting_current : s.awaiting station = some c := by
  have h : c.answerBy.isSome && c.ex.target.address = station := by simp [awaits.window, awaits.target]
  unfold State.awaiting
  rw [awaits.current]
  simp [Option.filter, h]

/-- An answer of the station with a good check is taken (R130). -/
theorem awaits_answer {kind : Byte} {p : List Byte} (take : Current → State → State) :
    answerFrame station kind p (stationCheck station kind p) take s = conclude s.begin (take c s.begin) := by
  unfold answerFrame
  rw [awaiting_current awaits]
  dsimp only
  rw [if_pos rfl]

theorem awaits_ack (p : List Byte) (form : ackWellFormed c.ex.kind p = true) :
    exec (.ack { initiator := station, payload := p, check := stationCheck station 0x40 p }) s
      = .next (conclude s.begin (succeed c p s.begin)) := by
  have taken := awaits_answer awaits (kind := Config.kindAck) (p := p) (fun c s => if ackWellFormed c.ex.kind p then succeed c p s else failAttempt c .replyCheckBad s)
  rw [if_pos form] at taken
  exact congrArg Host.Outcome.next taken

theorem awaits_refusal (reason : Byte) : exec (nakRefusal station reason) s = .next (conclude s.begin (refuse c reason.toNat s.begin)) :=
  congrArg Host.Outcome.next (awaits_answer awaits (kind := Config.kindNak) (p := [3, reason]) (takeNak [3, reason]))

/-- Whatever makes the attempt fail, its Failure is taken (R130). -/
theorem awaits_fails {f : FailClass} {i : Instr} (h : s.FailsBy c station f i) :
    exec i s = .next (conclude s.begin (failAttempt c f s.begin)) := by
  have bad {kind : Byte} {p : List Byte} {k : Half} (take : Current → State → State) (hk : k ≠ stationCheck station kind p) :
      answerFrame station kind p k take s = conclude s.begin (failAttempt c .replyCheckBad s.begin) := by
    unfold answerFrame
    rw [awaiting_current awaits]
    dsimp only
    rw [if_neg hk]
  rcases h with ⟨rfl, rfl, due⟩ | ⟨rfl, r, rfl⟩ | ⟨rfl, r, rfl⟩ | ⟨rfl, p, k, rfl, hk⟩ | ⟨rfl, r, k, rfl, hk⟩ | ⟨rfl, code, r, k, rfl, hk⟩
  · have window : s.windowDue = some c := by
      unfold State.windowDue
      rw [awaits.current]
      simp [Option.filter, due]
    show Host.Outcome.next (match s.windowDue with | some c => _ | none => s) = _
    rw [window]
    rfl
  · exact congrArg Host.Outcome.next (awaits_answer awaits (kind := Config.kindNak) (p := [1, r]) (takeNak [1, r]))
  · exact congrArg Host.Outcome.next (awaits_answer awaits (kind := Config.kindNak) (p := [2, r]) (takeNak [2, r]))
  · by_cases good : k = stationCheck station 0x40 p
    · have form := hk.resolve_left (not_not_intro good)
      subst good
      have taken := awaits_answer awaits (kind := Config.kindAck) (p := p)
        (fun c s => if ackWellFormed c.ex.kind p then succeed c p s else failAttempt c .replyCheckBad s)
      rw [if_neg (by rw [form]; decide)] at taken
      exact congrArg Host.Outcome.next taken
    · exact congrArg Host.Outcome.next (bad _ good)
  · exact congrArg Host.Outcome.next (bad _ hk)
  · exact congrArg Host.Outcome.next (bad _ hk)

end Awaits

/-! ### An attempt that stands alone (R130) -/

section Alone

variable {s : State} {c : Current} {station : Byte} (alone : s.Alone c station)

include alone

/-- The end of the attempt leaves the bus at rest. -/
theorem alone_endCurrent (b : Bay) : endCurrent s.begin = s.begin.staged b (s.atRest b []) := by
  have bus : ({ s.begin.bus with current := none, transaction := if s.bus.transaction = .attempt then .free else s.bus.transaction }
      : BusController) = idleBus [] := by
    rw [if_pos alone.transaction]
    show ({ urgent := s.bus.urgent, normal := s.bus.normal, current := none, transaction := .free, sent := [] } : BusController) = _
    rw [alone.urgent, alone.normal]
    rfl
  have freed : s.begin.updBus (fun u => { u with current := none, transaction := if u.transaction = .attempt then .free else u.transaction })
      = s.begin.staged b (s.atRest b []) := by
    have staged : { s.begin with bus := idleBus [] } = s.begin.staged b (s.atRest b []) :=
      (congrArg (fun t : State => { t with bus := idleBus [] }) (staged_scene s.begin b)).symm
    rw [← staged, ← bus]
    rfl
  unfold endCurrent
  rw [show s.begin.bus.current = some c from alone.current]
  dsimp only
  rw [freed]
  cases c.ex.target with
  | bay d =>
    refine releaseWaiting_none d _ ?_
    exact staged_waiting (w := s.atRest b []) (alone.waiting b) alone.waiting d
  | allBays => rfl
  | node i => rfl

theorem Alone.awaits : s.Awaits c station := ⟨alone.current, alone.window, alone.target⟩

theorem exec_ack_well (p : List Byte) (form : ackWellFormed c.ex.kind p = true) :
    exec (.ack { initiator := station, payload := p, check := stationCheck station 0x40 p }) s
      = .next (conclude s.begin (succeed c p s.begin)) := awaits_ack (Alone.awaits alone) p form

theorem exec_refusal (reason : Byte) : exec (nakRefusal station reason) s = .next (conclude s.begin (refuse c reason.toNat s.begin)) :=
  awaits_refusal (Alone.awaits alone) reason

theorem exec_fails {f : FailClass} {i : Instr} (h : s.FailsBy c station f i) :
    exec i s = .next (conclude s.begin (failAttempt c f s.begin)) := awaits_fails (Alone.awaits alone) h

end Alone

/-! ### Station frames on a part at rest (R141) -/

theorem acked_atRest {s : State} (h : s.Resting) (b : Bay) (station : Byte) :
    s.acked station = s.begin.staged b (s.atRest b [{ destination := station, kind := 0x40, payload := [] }]) := by
  have begun : s.acked station = answerStation station 0x40 [] (s.begin.staged b (s.atRest b [])) :=
    congrArg (answerStation station 0x40 []) (begin_atRest h b)
  rw [begun]
  rfl

theorem takenBy_fault {f : StationFrame} {b : Bay} {code : Byte} (hk : f.kind = 0x31) (hb : bayAt f.initiator = some b)
    (hp : f.payload = [code]) (hc : code ≠ 0) : takenBy (.fault f) = some (faultFrame b code) := by
  have taken : Machine.faultTaken f = some (faultFrame b code) := by
    unfold Machine.faultTaken
    rw [hb, hp]
    exact if_neg hc
  show ofKind Config.kindFault f (Machine.faultTaken f) = _
  rw [taken]
  exact if_pos hk

/-- A bay's cache after a FAULT frame (log 34). -/
def BayRecord.faultCached (r : BayRecord) (code : Byte) (now : Count) : BayRecord :=
  { r with cache := r.cache.map fun c => { report := { c.report with code := code }, time := now } }

theorem staged_faultFrame {s : State} {b : Bay} {w : Scene} (code : Byte) (present : w.bay.state ≠ .empty) :
    faultFrame b code (s.staged b w) = driveFault b code none (s.staged b { w with bay := w.bay.faultCached code s.now }) := by
  unfold faultFrame
  rw [if_neg (by rw [staged_bay]; exact present), staged_updBay]
  rfl

theorem driveRepeat_iff (s : State) (b : Bay) (code : Byte) : s.driveRepeat b code = true ↔
    (s.bay b).state = .faulted ∧ ∃ l, (s.bay b).lastFault = some l ∧ l.cause = .drive ∧ l.secondary = code.toNat := by
  unfold State.driveRepeat
  cases (s.bay b).lastFault <;> simp

/-- An event of a part at rest that changes one Bay Record and puts frames on the bay bus. -/
theorem staged_sends {s : State} {b : Bay} {w : Scene} {e : BayRecord} {sent : List BusFrame} (rest : s.Resting) (waiting : e.waiting = [])
    (h : w = { s.atRest b sent with bay := e }) : conclude s.begin (s.begin.staged b w) = (s.updBay b fun _ => e).sends sent := by
  subst h
  rw [staged_concludes (s := s.begin) s.begin rest.survey rest.waiting rfl rfl waiting (.inl rest.admission),
    evaluateBudget_of_flag (s.begin.staged b { s.atRest b sent with bay := e }) rest.flag]
  have update : s.begin.staged b { s.atRest b sent with bay := e }
      = { s.updBay b fun _ => e with bus := { s.bus with sent := sent } } := by
    rw [Resting.bus rest sent]
    unfold State.staged State.atRest State.scene
    dsimp only
    rw [List.append_nil]
    rfl
  rw [update]
  rfl

/-- An event whose work ends in a fault of a bay for which nothing else stands. -/
theorem staged_fault_concludes {s : State} {b : Bay} {w : Scene} {st : BayState} {cause : Cause} {secondary : Nat} {rs : List Reply}
    {k : Work} (rest : s.Unengaged) (survey : s.survey.running = false) (hbus : ∃ sent, w.bus = idleBus sent) (hw : w.bay.waiting = [])
    (hq : w.adm.queue = []) (h : w.Interrupts cause rs k) :
    conclude s.begin (faultBay b st cause secondary none (s.begin.staged b w))
      = close (evaluateBudget (s.begin.staged b (w.faulted s.begin b st cause secondary rs k))) := by
  obtain ⟨sent, bus⟩ := hbus
  have urgent : w.bus.urgent = [] := by rw [bus]; rfl
  have normal : w.bus.normal = [] := by rw [bus]; rfl
  have current : w.bus.current = none := by rw [bus]; rfl
  rw [staged_faultBay h (staged_unbusied urgent normal current hw)]
  exact staged_concludes s.begin survey rest.waiting urgent normal hw (.inl hq)

end Sys2Proof.Machine

namespace Sys2Proof.Proofs

open Sys2Proof.Machine

/-- Settles O44: both faults by the one work of a fault, and the repeat. -/
theorem timeoutsAndDriveFaultsFaultTheBay : Obligations.TimeoutsAndDriveFaultsFaultTheBay := by
  refine ⟨fun s b d rs w rest balanced interrupts present individual due => ?_,
    fun s b f code rs w rest balanced interrupts hf hb hp hc present new => ?_, fun s b f code l rest hf hb hp hc faulted last cause same => ?_⟩
  · have run : exec (.operationDeadlineExpiry b) s
        = .next (conclude s.begin (faultBay b .faulted .timeout d.kind.code none (s.begin.staged b (s.atRest b [])))) := by
      have operation : s.operationDue b false = some d.kind := by
        unfold State.operationDue
        rw [present]
        exact if_pos ⟨individual, due⟩
      rw [← begin_atRest rest b]
      show Host.Outcome.next (match s.operationDue b false with | some k => _ | none => s) = _
      rw [operation]
      rfl
    rw [run]
    refine ⟨_, congrArg Host.Outcome.next (staged_fault_concludes rest.toUnengaged rest.survey ⟨[], rfl⟩ (rest.waiting b) rest.admission
      interrupts), ?_⟩
    generalize ht : close _ = t
    obtain ⟨bay, adm, bus, ffr, keeps, tells⟩ := moved_ends ht rfl rfl
    exact ⟨bay, adm, bus, ffr, keeps, tells⟩
  · have fresh : ¬ (s.begin.staged b { s.atRest b [{ destination := f.initiator, kind := 0x40, payload := [] }] with
        bay := (s.bay b).faultCached code s.now }).driveRepeat b code = true := by
      rw [driveRepeat_iff, staged_bay]
      rintro ⟨faulted, l, hl, hc, hs⟩
      exact new faulted l hl ⟨hc, hs⟩
    rw [exec_taken (c := .fault f) rfl hf (takenBy_fault hf.ofKind hb hp hc), acked_atRest rest b, staged_faultFrame code (by exact present),
      driveFault, if_neg (by exact fresh)]
    refine ⟨_, congrArg Host.Outcome.next (staged_fault_concludes rest.toUnengaged rest.survey ⟨_, rfl⟩ (rest.waiting b) rest.admission
      interrupts), ?_⟩
    generalize ht : close _ = t
    obtain ⟨bay, adm, bus, ffr, keeps, tells⟩ := moved_ends ht rfl rfl
    exact ⟨bay, adm, bus, ffr, keeps, tells⟩
  · have again : (s.begin.staged b { s.atRest b [{ destination := f.initiator, kind := 0x40, payload := [] }] with
        bay := (s.bay b).faultCached code s.now }).driveRepeat b code = true := by
      rw [driveRepeat_iff, staged_bay]
      exact ⟨faulted, l, last, cause, same⟩
    rw [exec_taken (c := .fault f) rfl hf (takenBy_fault hf.ofKind hb hp hc), acked_atRest rest b,
      staged_faultFrame code (by show (s.bay b).state ≠ _; rw [faulted]; decide), driveFault, if_pos (by exact again)]
    exact congrArg Host.Outcome.next
      ((staged_sends (e := (s.bay b).faultCached code s.now) rest (rest.waiting b) rfl).trans rfl)

end Sys2Proof.Proofs
end

section
/-! PROOFS. Failures, acknowledgements and refusals of an attempt that stands alone (R131 to R134). -/

namespace Sys2Proof.Machine

set_option Elab.async false

/-! ### Events that end where nothing stands -/

theorem tells_close {s u : State} {ns : List Notice} (link : u.link = s.link) (notices : u.notices = s.notices.handAll ns) :
    s.Tells (close u) [] ns :=
  ⟨u, rfl, by rw [List.append_nil]; exact link, notices⟩

/-- The end of an event changes the port, the notices and the alert line. -/
theorem closed_touches {u t : State} (ht : close u = t) :
    t = { u with link := t.link, notices := t.notices, alertLine := t.alertLine } := by
  subst ht
  have rest := close_touches u
  generalize close u = t at rest ⊢
  rw [rest]

/-- A bay whose exchange is resent once more (R131, R176). -/
def BayRecord.retried (r : BayRecord) : BayRecord := { r with retry := if r.retry < 255 then r.retry + 1 else r.retry }

/-- A counted resend written out (R131, R176, R177). -/
theorem countRetry_eq (b : Bay) (s : State) : countRetry b s =
    { s.updBay b BayRecord.retried with
      notices := s.notices.handAll
        (if (s.bay b).retry < s.timing.retryThreshold
            ∧ s.timing.retryThreshold ≤ (if (s.bay b).retry < 255 then (s.bay b).retry + 1 else (s.bay b).retry) then
          [.retry b (if (s.bay b).retry < 255 then (s.bay b).retry + 1 else (s.bay b).retry) s.timing.retryThreshold s.now] else []) } := by
  unfold countRetry satSucc
  dsimp only
  by_cases crossed : (s.bay b).retry < s.timing.retryThreshold
      ∧ s.timing.retryThreshold ≤ (if (s.bay b).retry < 255 then (s.bay b).retry + 1 else (s.bay b).retry)
  · exact (if_pos crossed).trans ((postNotice_eq _ _).trans (by rw [if_pos crossed]; rfl))
  · exact (if_neg crossed).trans (by rw [if_neg crossed]; rfl)

/-- The outcome of a RATE exchange where no further rate is owed (R99). -/
theorem rateOutcome_eq {n : SensorId} {s : State} (h : s.sensors[n].furtherRate = false) (taken : Option Rate) :
    rateOutcome n taken s = { s with
      sensors := s.sensors.set n { s.sensors[n] with rate := taken.getD s.sensors[n].rate, requested := none, expected := none } } := by
  unfold rateOutcome
  dsimp only
  rw [h]
  simp [State.updSensor, ← h]

section Alone

variable {s : State} {c : Current} {station : Byte} (alone : s.Alone c station)

/-- The part whose current exchange will be resent (R131). -/
def State.resending (s : State) (c : Current) : State :=
  { s with bus := { idleBus [] with
      current := some { c with resends := c.resends + 1, answerBy := none, resendAt := some (s.after 2) } } }

/-- The part after the attempt has ended: its bus is at rest. -/
def State.rested (s : State) : State := { s with bus := idleBus [] }

theorem ends_atRest (s : State) (b : Bay) : s.begin.staged b (s.atRest b []) = s.rested :=
  congrArg (fun t : State => { t with bus := idleBus [] }) (staged_scene s.begin b)

include alone

theorem alone_rested : s.rested.Unengaged := ⟨rfl, rfl, alone.waiting, alone.admission, alone.flag⟩

theorem alone_endCurrent_rested : endCurrent s.begin = s.rested := (alone_endCurrent alone 0).trans (ends_atRest s 0)

theorem alone_resending : s.begin.updBus (fun u => { u with
    transaction := .free
    current := some { c with resends := c.resends + 1, answerBy := none, resendAt := some (s.begin.after Config.resendMs) } })
      = s.resending c := by
  have bus : ({ s.begin.bus with
      transaction := .free
      current := some { c with resends := c.resends + 1, answerBy := none, resendAt := some (s.begin.after Config.resendMs) } }
      : BusController) = (s.resending c).bus := by
    show ({ urgent := s.bus.urgent, normal := s.bus.normal, current := _, transaction := _, sent := _ } : BusController) = _
    rw [alone.urgent, alone.normal]
    rfl
  exact congrArg (fun u => { s with bus := u }) bus

theorem alone_resends_bay {b : Bay} (target : c.ex.target = .bay b) :
    scheduleResend c s.begin = countRetry b (s.resending c) := by
  unfold scheduleResend
  dsimp only
  rw [alone_resending alone, target]

theorem alone_resends_other (target : ∀ b, c.ex.target ≠ .bay b) : scheduleResend c s.begin = s.resending c := by
  unfold scheduleResend
  dsimp only
  rw [alone_resending alone]
  cases h : c.ex.target with
  | bay b => exact absurd h (target b)
  | allBays => rfl
  | node n => rfl

theorem alone_resending_unengaged : (s.resending c).Unengaged := ⟨rfl, rfl, alone.waiting, alone.admission, alone.flag⟩

/-- A RATE exchange's outcome ends the event (R99). -/
theorem alone_rate_ends {n : SensorId} (further : s.sensors[n].furtherRate = false) (taken : Option Rate) {i : Instr}
    (run : exec i s = .next (conclude s.begin (rateOutcome n taken s.rested))) :
    Answers (exec i s) fun t =>
      t.sensors = s.sensors.set n { s.sensors[n] with rate := taken.getD s.sensors[n].rate, requested := none, expected := none }
        ∧ t.bus = idleBus [] ∧ t.ffr = s.ffr
        ∧ t = { s with sensors := t.sensors, bus := t.bus, link := t.link, notices := t.notices, alertLine := t.alertLine } := by
  rw [run, rateOutcome_eq (s := s.rested) further, conclude_unengaged _ _
    (by exact ⟨rfl, rfl, alone.waiting, alone.admission, alone.flag⟩) (by exact alone.survey)]
  refine ⟨_, rfl, ?_⟩
  generalize ht : close _ = t
  have rest := closed_touches ht
  exact ⟨by rw [rest]; rfl, by rw [rest]; rfl, by rw [rest]; rfl, by rw [rest]; rfl⟩

/-- What an event that schedules a resend leaves and tells. -/
theorem alone_resends {u : State} {ns : List Notice}
    (h : u = { s.resending c with bays := u.bays, notices := s.notices.handAll ns }) (waiting : ∀ b, (u.bay b).waiting = []) :
    Answers (.next (conclude s.begin u)) fun t =>
      t.bus = (s.resending c).bus ∧ t.bays = u.bays ∧ s.Tells t [] ns
        ∧ t = { s with bays := t.bays, bus := t.bus, link := t.link, notices := t.notices, alertLine := t.alertLine } := by
  have still : u.Unengaged := by
    refine ⟨?_, ?_, waiting, ?_, ?_⟩
    · rw [h]; rfl
    · rw [h]; rfl
    · rw [h]; exact alone.admission
    · rw [h]; exact alone.flag
  refine ⟨_, congrArg Host.Outcome.next (conclude_unengaged s.begin u still (by rw [h]; exact alone.survey)), ?_, ?_, ?_, ?_⟩
  · rw [closed_touches (u := u) rfl, h]
  · rw [closed_touches (u := u) rfl]
  · exact tells_close (by rw [h]; rfl) (by rw [h])
  · generalize ht : close u = t
    have rest := closed_touches ht
    rw [h] at rest
    rw [rest]
    rfl

end Alone

end Sys2Proof.Machine

namespace Sys2Proof.Proofs

open Sys2Proof.Machine

/-- Settles O53: below the limit the resend is scheduled, at it the fault's work is done or the node keeps its rate. -/
theorem failuresAreResentOrExhausted : Obligations.FailuresAreResentOrExhausted := by
  refine ⟨rfl, fun s c station f i alone fails => ?_⟩
  obtain ⟨heeded, whole, kept⟩ := alone.plain
  have run := exec_fails alone fails
  refine ⟨fun below => ?_, fun b rs w limit target owner balanced interrupts => ?_, fun n limit target further => ?_⟩
  · have resent : failAttempt c f s.begin = scheduleResend c s.begin := by
      unfold failAttempt
      rw [heeded, whole, kept]
      exact if_pos below
    rw [run, resent]
    by_cases toBay : ∃ b, c.ex.target = .bay b
    · obtain ⟨b, target⟩ := toBay
      rw [alone_resends_bay alone target, countRetry_eq]
      obtain ⟨t, next, bus, bays, tells, rest⟩ := alone_resends alone (c := c)
        (u := { (s.resending c).updBay b BayRecord.retried with notices := s.notices.handAll _ }) rfl fun d => by
          show (((s.resending c).updBay b BayRecord.retried).bay d).waiting = []
          rw [updBay_bay]
          split
          · exact alone.waiting b
          · exact alone.waiting d
      have record (d : Bay) : t.bay d = ((s.resending c).updBay b BayRecord.retried).bay d := by
        rw [State.bay, bays]
        rfl
      refine ⟨t, next, bus, fun d => ?_, ?_, rest⟩
      · rw [record, updBay_bay, target]
        by_cases same : d = b
        · subst same
          rw [if_pos rfl, if_pos rfl]
          rfl
        · rw [if_neg same, if_neg fun k => same (Target.bay.inj k).symm]
          rfl
      · rw [target]
        dsimp only
        rw [record, updBay_bay, if_pos rfl]
        exact tells
    · have other : ∀ b, c.ex.target ≠ .bay b := fun b h => toBay ⟨b, h⟩
      rw [alone_resends_other alone other]
      obtain ⟨t, next, bus, bays, tells, rest⟩ := alone_resends alone (c := c) (u := s.resending c) (ns := []) rfl alone.waiting
      refine ⟨t, next, bus, fun d => ?_, ?_, rest⟩
      · rw [if_neg (other d), State.bay, bays]
        rfl
      · cases h : c.ex.target with
        | bay b => exact absurd h (other b)
        | allBays => exact tells
        | node n => exact tells
  · have exhausted : failAttempt c f s.begin = faultBay b f.state .bus f.secondary none (s.begin.staged b (s.atRest b [])) := by
      unfold failAttempt
      rw [heeded, whole, kept, alone_endCurrent alone b, target]
      dsimp only
      unfold exhaustBay
      dsimp only
      rw [if_neg owner]
      exact if_neg (Nat.not_lt.mpr limit)
    rw [run, exhausted]
    refine ⟨_, congrArg Host.Outcome.next (staged_fault_concludes alone.toUnengaged alone.survey ⟨[], rfl⟩ (alone.waiting b) alone.admission
      interrupts), ?_⟩
    generalize ht : close _ = t
    obtain ⟨bay, adm, bus, ffr, keeps, tells⟩ := moved_ends ht rfl rfl
    have peak : (s.profileOf b).reservation f.state = (s.profileOf b).peak := by cases f <;> rfl
    refine ⟨?_, ?_, bus, ffr, keeps, ?_⟩
    · rw [State.faultedBay, ← peak]
      exact bay
    · rw [← peak]
      exact adm
    · rw [State.faultNews, State.bayNews]
      exact tells
  · have exhausted : failAttempt c f s.begin = rateOutcome n none s.rested := by
      unfold failAttempt
      rw [heeded, whole, kept, alone_endCurrent_rested alone, target]
      exact if_neg (Nat.not_lt.mpr limit)
    rw [exhausted] at run
    obtain ⟨t, next, sensors, bus, ffr, rest⟩ := alone_rate_ends alone further none run
    exact ⟨t, next, sensors, bus, ffr, rest⟩

end Sys2Proof.Proofs
end

section
/-! PROOFS. Acknowledgements and refusals of an attempt that stands alone (R132, R133). -/

namespace Sys2Proof.Machine

set_option Elab.async false

/-- Nothing is on the bus or waits for it in a scene. -/
def Scene.Idle (w : Scene) : Prop := (∃ sent, w.bus = idleBus sent) ∧ w.bay.waiting = []

section Staged

variable {s : State} {b : Bay} {w : Scene}

theorem Scene.Idle.unbusied (h : w.Idle) : (s.staged b w).Unbusied b := by
  obtain ⟨⟨sent, bus⟩, waiting⟩ := h
  exact staged_unbusied (by rw [bus]; rfl) (by rw [bus]; exact rfl) (by rw [bus]; rfl) waiting

/-- Nothing stands for the scene's bay, whatever stands for others. -/
structure Scene.Free (w : Scene) (b : Bay) : Prop where
  urgent : w.bus.urgent = []
  normal : ∀ x ∈ w.bus.normal, x.serves b = false
  current : ∀ c, w.bus.current = some c → c.ex.serves b = false
  waiting : w.bay.waiting = []

theorem Scene.Free.unbusied (h : w.Free b) : (s.staged b w).Unbusied b :=
  ⟨h.urgent, h.normal, h.current, by rw [staged_bay]; exact h.waiting⟩

theorem Scene.Idle.free (h : w.Idle) : w.Free b := by
  obtain ⟨⟨sent, bus⟩, waiting⟩ := h
  exact ⟨by rw [bus]; rfl, by rw [bus]; exact fun x hx => absurd hx List.not_mem_nil, by rw [bus]; exact fun c hc => (Option.some_ne_none c hc.symm).elim, waiting⟩

/-- An event that ends in a scene with nothing for the bus or the Admission Unit to do. -/
theorem Scene.Idle.concludes (h : w.Idle) (rest : s.Unengaged) (survey : s.survey.running = false) (admission : w.adm.queue = []) :
    conclude s.begin (s.begin.staged b w) = close (evaluateBudget (s.begin.staged b w)) := by
  obtain ⟨⟨sent, bus⟩, waiting⟩ := h
  exact staged_concludes (s := s.begin) s.begin survey rest.waiting (by rw [bus]; rfl) (by rw [bus]; rfl) waiting (.inl admission)

/-- A head whose exchange is not queued: it has started where the head is Issued (R37). -/
theorem staged_headStarted {r : Request} {more : List Request} (h : w.Idle) (hq : w.bay.queue = r :: more) :
    (s.staged b w).headStarted b = decide (r.phase = .issued) :=
  headStarted_unbusied h.unbusied (by rw [staged_bay]; exact hq)

/-- A head that its phase keeps from a check, or none (R33). -/
def BayRecord.Unchecked (e : BayRecord) : Prop := e.queue = [] ∨ ∃ r more, e.queue = r :: more ∧ r.phase = .issued

theorem Unchecked.checkHead (h : w.bay.Unchecked) : checkHead b (s.staged b w) = s.staged b w := by
  obtain empty | ⟨r, more, hq, issued⟩ := h
  · exact checkHeads_empty (by rw [staged_bay]; exact empty) 6
  · exact checkHeads_past (r := r) (more := more) (by rw [staged_bay]; exact hq) (.inl (by rw [issued]; decide)) 6

theorem Unchecked.recheckHead (h : w.bay.Unchecked) : recheckHead b (s.staged b w) = s.staged b w := by
  obtain empty | ⟨r, more, hq, issued⟩ := h
  · exact recheckHead_none (by rw [staged_bay]; exact empty)
  · exact recheckHead_issued (r := r) (more := more) (by rw [staged_bay]; exact hq) (.inr issued)

/-- A protective operation ends without its goal (R116). -/
theorem staged_endProtective (h : w.Idle) (head : w.bay.Unchecked) :
    endProtective b false (s.staged b w) = s.staged b { w with bay := { w.bay with slot := none } } := by
  have idle : ({ w with bay := { w.bay with slot := none } } : Scene).Idle := h
  unfold endProtective
  rw [staged_bay]
  cases slot : w.bay.slot with
  | none =>
    dsimp only
    rw [← slot]
  | some op =>
    dsimp only
    rw [setSlot, staged_updBay, dropProtective_unbusied idle.unbusied, disregard_unbusied idle.unbusied]
    exact Unchecked.checkHead (w := { w with bay := { w.bay with slot := none } }) head

/-- The record of a bay returned to its state before a refused exchange (R16, R116; logs 40, 47). -/
def BayRecord.returned (e : BayRecord) (p : Profile) (before : BayState) (due : OpKind → Count) : BayRecord :=
  { e with
    state := before, reservation := p.reservation before
    slot := if before = .unreachable then none else e.slot
    deadline := before.opKind.map fun k => { due := due k, kind := k, group := false } }

theorem staged_refusedReturn {before : BayState} (h : w.Idle) (other : before ≠ w.bay.state)
    (booked : w.bay.reservation = (w.adm.profiles[w.bay.cls]).reservation w.bay.state) :
    refusedReturn b before (s.staged b w) = s.staged b { w.entering b before s.now with
      bay := w.bay.returned w.adm.profiles[w.bay.cls] before fun k => s.after ((w.adm.profiles[w.bay.cls]).time k) } := by
  have idle : (w.entering b before s.now).Idle := h
  unfold refusedReturn
  rw [if_neg (by rw [staged_bay]; exact other.symm), staged_changeState booked]
  dsimp only
  by_cases gone : before = .unreachable
  · rw [if_pos gone, staged_endStanding idle.unbusied]
    subst gone
    rfl
  · rw [if_neg gone, freshDeadline, setDeadline, staged_updBay]
    unfold BayRecord.returned
    rw [if_neg gone, staged_bay]
    simp only [State.opDeadline, staged_profileOf]
    rfl

/-- A protective operation that has adopted a refused exchange ends (R112, R116). -/
theorem staged_endAdopted {x : Exchange} (h : w.Idle) (head : w.bay.Unchecked)
    (adopted : w.bay.slot = none ∨ ∃ op, w.bay.slot = some op ∧ op.started = true ∧ (x.kind = .unload ∨ x.kind = .stop)) :
    endAdopted b x (s.staged b w) = s.staged b { w with bay := { w.bay with slot := none } } := by
  unfold endAdopted
  rw [staged_bay]
  obtain slot | ⟨op, slot, started, kind⟩ := adopted
  · rw [slot]
    dsimp only
    rw [← slot]
  · rw [slot]
    dsimp only
    rw [if_pos (by simp [started, kind]), staged_endProtective h head]

/-- A condition that agrees with a bay at rest changes nothing (R18). -/
theorem staged_conditionAgrees {k : Condition} (agrees : k.state = w.bay.state) (stays : w.bay.state.transitional = false) (h : w.Idle) :
    takeCondition b k (s.staged b w) = s.staged b w := by
  have still : ¬ (s.staged b w).inFlight b = true := by
    rw [inFlight_unbusied h.unbusied, staged_bay, stays]
    decide
  rw [takeCondition, if_neg still, reconcile, if_pos (by rw [staged_bay]; exact agrees.symm)]

/-- A report that agrees with a bay at rest only refreshes its cache (R18, R19). -/
theorem staged_reportAgrees {cond : Byte} {k : Condition} {own : OwnAnswer} (known : conditionOf cond = some k)
    (agrees : k.state = w.bay.state) (stays : w.bay.state.transitional = false) (h : w.Idle) :
    takeReport b { present := true, condition := cond, code := 0 } own (s.staged b w) =
      finishOwn b own (s.staged b { w with bay := { w.bay with
        cache := some { report := { present := true, condition := cond, code := 0 }, time := s.now } } }) := by
  unfold takeReport
  dsimp only
  rw [storeReport, staged_updBay, if_neg (by decide), if_neg (by decide), known]
  dsimp only
  rw [staged_conditionAgrees (by exact agrees) (by exact stays) (by exact h)]
  rfl

/-- A STATUS head takes its own answer (R46). -/
theorem staged_finishOwn {r : Request} {more : List Request} {payload : List Byte} (h : w.Idle) (hq : w.bay.queue = r :: more)
    (status : r.kind = .status) (issued : r.phase = .issued) :
    finishOwn b (some payload) (s.staged b w) = completeHead b (.plain .done) payload (s.staged b w) := by
  unfold finishOwn
  rw [head_cons (r := r) (more := more) (by rw [staged_bay]; exact hq)]
  exact if_pos ⟨status, by rw [staged_headStarted h hq, issued]; rfl⟩

/-- A STATUS or PASS head, or any started one, completes as the last of its queue. -/
theorem staged_completesLast {r : Request} {src : Source} {tag : Byte} (hq : w.bay.queue = [r]) (origin : r.origin = .upstream src tag none)
    (intent : w.bay.restoreIntent = false) (c : Completion) (p : List Byte) :
    completeHead b c p (s.staged b w) = s.staged b { w with
      bay := { w.bay with queue := [] }, replies := w.replies ++ [{ tag := tag, completion := c, payload := p, echo := none }] } := by
  rw [staged_completeHead_last hq intent, delivered_upstream origin]

end Staged

/-- An event that ends on a part whose bus rests by changing one Bay Record and giving a reply. -/
theorem rested_gives (s0 : State) {s : State} {b : Bay} {e : BayRecord} {r : Reply} {w : Scene} (rest : s.rested.Unengaged)
    (survey : s.survey.running = false) (waiting : e.waiting = []) (h : w = { s.atRest b [] with bay := e, replies := [r] }) :
    conclude s0 (s.begin.staged b w) = (({ s with bus := idleBus [] } : State).updBay b fun _ => e).gave r := by
  have update : s.rested.updBay b (fun _ => e) = s.begin.staged b { s.atRest b [] with bay := e } := by
    rw [← ends_atRest s b, staged_updBay]
  have placed : s.begin.staged b w = placeReply r (s.rested.updBay b fun _ => e) := by
    rw [update, staged_placeReply, h]
    rfl
  rw [placed]
  refine (conclude_placeReply s0 (s := s.rested.updBay b fun _ => e) ⟨rfl, rfl, fun d => ?_, rest.admission, rest.flag⟩ survey r).trans rfl
  rw [updBay_bay]
  split
  · exact waiting
  · exact rest.waiting d

section Alone

variable {s : State} {c : Current} {station : Byte} (alone : s.Alone c station)

include alone

theorem alone_gives {b : Bay} {e : BayRecord} {r : Reply} {w : Scene} (waiting : e.waiting = [])
    (h : w = { s.atRest b [] with bay := e, replies := [r] }) :
    conclude s.begin (s.begin.staged b w) = (({ s with bus := idleBus [] } : State).updBay b fun _ => e).gave r :=
  rested_gives s.begin (alone_rested alone) alone.survey waiting h

section Refused

variable {b : Bay} (target : c.ex.target = .bay b) (n : Nat)

include target

theorem alone_refuse_head (owner : c.ex.owner = .head) :
    refuse c n s.begin = refuseHead b c.ex n (s.begin.staged b (s.atRest b [])) := by
  obtain ⟨heeded, whole, kept⟩ := alone.plain
  unfold refuse
  rw [heeded, kept, target, owner, alone_endCurrent alone b]
  rfl

theorem alone_refuse_protective (owner : c.ex.owner = .protective) : refuse c n s.begin =
    recheckHead b (endProtective b false (refusedReturn b c.ex.before (s.begin.staged b (s.atRest b [])))) := by
  obtain ⟨heeded, whole, kept⟩ := alone.plain
  unfold refuse
  rw [heeded, kept, target, owner, alone_endCurrent alone b]
  rfl

theorem alone_refuse_insertion (owner : c.ex.owner = .insertion) : refuse c n s.begin = s.begin.staged b (s.atRest b []) := by
  obtain ⟨heeded, whole, kept⟩ := alone.plain
  unfold refuse
  rw [heeded, kept, target, owner, alone_endCurrent alone b]
  rfl

end Refused

theorem alone_refuse_node {n : SensorId} (target : c.ex.target = .node n) (reason : Nat) :
    refuse c reason s.begin = rateOutcome n none s.rested := by
  obtain ⟨heeded, whole, kept⟩ := alone.plain
  unfold refuse
  rw [heeded, kept, target, alone_endCurrent_rested alone]
  rfl

section Acked

variable {b : Bay} (target : c.ex.target = .bay b) (p : List Byte)

include target

theorem alone_succeed_changing {k : OpKind} (kind : c.ex.kind.opKind = some k) : succeed c p s.begin =
    setDeadline b (some ((s.begin.staged b (s.atRest b [])).opDeadline b k false)) (s.begin.staged b (s.atRest b [])) := by
  obtain ⟨heeded, whole, kept⟩ := alone.plain
  unfold succeed
  rw [heeded, target, alone_endCurrent alone b]
  generalize c.ex.kind = x at kind ⊢
  obtain rfl | rfl | rfl | rfl | rfl : x = .spin ∨ x = .stop ∨ x = .load ∨ x = .unload ∨ x = .quickPark := by
    cases x <;> simp [ExKind.opKind] at kind ⊢
  all_goals
    obtain rfl := Option.some.inj kind
    rfl

theorem alone_succeed_pass (kind : c.ex.kind = .pass) (started : (s.begin.staged b (s.atRest b [])).headStarted b = true) :
    succeed c p s.begin = completeHead b (.plain .done) p (s.begin.staged b (s.atRest b [])) := by
  obtain ⟨heeded, whole, kept⟩ := alone.plain
  unfold succeed
  rw [heeded, target, kind, alone_endCurrent alone b]
  exact if_pos started

theorem alone_succeed_query {rep : Report} (kind : c.ex.kind = .query) (report : reportOf p = some rep) :
    succeed c p s.begin = queryReport b c.ex rep (s.begin.staged b (s.atRest b [])) := by
  obtain ⟨heeded, whole, kept⟩ := alone.plain
  unfold succeed
  rw [heeded, target, kind, report, alone_endCurrent alone b]
  rfl

end Acked

theorem alone_succeed_node {n : SensorId} (target : c.ex.target = .node n) (p : List Byte) :
    succeed c p s.begin = rateOutcome n (some c.ex.rate) s.rested := by
  obtain ⟨heeded, whole, kept⟩ := alone.plain
  unfold succeed
  rw [heeded, target, alone_endCurrent_rested alone]
  rfl

end Alone

end Sys2Proof.Machine

namespace Sys2Proof.Proofs

open Sys2Proof.Machine

/-- Settles O55: each acknowledged exchange by its kind. -/
theorem acknowledgementsEndTheExchange : Obligations.AcknowledgementsEndTheExchange := by
  refine ⟨fun s c b k station alone target kind => ?_, fun s c b r src tag station p alone target kind short hq issued origin intent => ?_,
    fun s c n station alone target kind further => ?_,
    fun s c b r src tag station cond k alone target kind owner known agrees stays hq status issued origin intent => ?_⟩
  · have form : ackWellFormed c.ex.kind [] = true := by
      generalize c.ex.kind = x at kind ⊢
      cases x <;> simp [ExKind.opKind] at kind <;> rfl
    rw [exec_ack_well alone [] form, alone_succeed_changing alone target [] kind, setDeadline, staged_updBay]
    refine ⟨_, congrArg Host.Outcome.next (Scene.Idle.concludes ⟨⟨[], rfl⟩, alone.waiting b⟩ alone.toUnengaged alone.survey alone.admission), ?_⟩
    generalize ht : close _ = t
    obtain ⟨bay, adm, bus, ffr, keeps, _⟩ := unmoved_ends ht alone.flag (q := s.adm.queue) rfl rfl
    refine ⟨?_, adm, bus, ffr, keeps⟩
    rw [bay, State.opDeadline, staged_profileOf]
    rfl
  · have idle : (s.atRest b []).Idle := ⟨⟨[], rfl⟩, alone.waiting b⟩
    have started : (s.begin.staged b (s.atRest b [])).headStarted b = true := by
      rw [staged_headStarted idle hq, issued]
      rfl
    rw [exec_ack_well alone p (by rw [kind]; exact decide_eq_true short), alone_succeed_pass alone target p kind started,
      staged_completesLast (w := s.atRest b []) hq origin intent]
    exact congrArg Host.Outcome.next ((alone_gives alone (e := { s.bay b with queue := [] }) (alone.waiting b) rfl).trans rfl)
  · have run := exec_ack_well alone [] (by rw [kind]; rfl)
    rw [alone_succeed_node alone target []] at run
    obtain ⟨t, next, sensors, bus, ffr, rest⟩ := alone_rate_ends alone further (some c.ex.rate) run
    exact ⟨t, next, sensors, bus, rest⟩
  · have report : reportOf [1, cond, 0] = some { present := true, condition := cond, code := 0 } := by
      simp [reportOf, known]
    rw [exec_ack_well alone _ (by rw [kind]; exact congrArg Option.isSome report),
      alone_succeed_query alone target _ kind report, queryReport, owner]
    dsimp only
    rw [staged_reportAgrees (by exact known) (by exact agrees) (by exact stays) ⟨⟨[], rfl⟩, alone.waiting b⟩,
      staged_finishOwn (r := r) ⟨⟨[], rfl⟩, alone.waiting b⟩ hq status issued,
      staged_completesLast (by exact hq) origin (by exact intent)]
    exact congrArg Host.Outcome.next ((alone_gives alone (b := b) (e := { s.bay b with
      queue := [], cache := some { report := { present := true, condition := cond, code := 0 }, time := s.now } }) (alone.waiting b) rfl).trans rfl)

/-- Settles O54: each refused exchange by its owner. -/
theorem refusalsReturnTheBay : Obligations.RefusalsReturnTheBay := by
  intro s c station reason alone balanced
  have booked (b : Bay) : (s.bay b).reservation = (s.adm.profiles[(s.bay b).cls]).reservation (s.bay b).state := balanced.1 b
  have idle (b : Bay) : (s.atRest b []).Idle := ⟨⟨[], rfl⟩, alone.waiting b⟩
  refine ⟨fun b r src tag target owner changing other hq issued origin intent adopted => ?_,
    fun b op target owner other empty slot => ?_,
    fun b r src tag target owner kind hq issued origin intent => ?_, fun n target further => ?_, fun b target owner => ?_⟩
  · have head : (s.bay b).Unchecked := .inr ⟨r, [], hq, issued⟩
    have slot : (if c.ex.before = .unreachable then none else (s.bay b).slot) = none
        ∨ ∃ op, (if c.ex.before = .unreachable then none else (s.bay b).slot) = some op ∧ op.started = true
          ∧ (c.ex.kind = .unload ∨ c.ex.kind = .stop) := by
      by_cases gone : c.ex.before = .unreachable
      · exact .inl (if_pos gone)
      · rw [if_neg gone]
        exact adopted
    rw [exec_refusal alone, alone_refuse_head alone target _ owner, refuseHead]
    dsimp only
    rw [if_pos changing, staged_refusedReturn (idle b) other (booked b),
      staged_endAdopted (by exact idle b) (by exact head) (by exact slot)]
    have started (v : Scene) (hv : v.Idle) (queue : v.bay.queue = [r]) : (s.begin.staged b v).headStarted b = true := by
      rw [staged_headStarted hv queue, issued]
      rfl
    rw [if_pos (started _ (by exact idle b) (by exact hq)), staged_completesLast (by exact hq) origin (by exact intent)]
    refine ⟨_, congrArg Host.Outcome.next (Scene.Idle.concludes (idle b) alone.toUnengaged alone.survey alone.admission), ?_⟩
    generalize ht : close _ = t
    obtain ⟨bay, adm, bus, ffr, keeps, tells⟩ := moved_ends ht rfl rfl
    exact ⟨bay, adm, bus, ffr, keeps, tells⟩
  · rw [exec_refusal alone, alone_refuse_protective alone target _ owner, staged_refusedReturn (idle b) other (booked b),
      staged_endProtective (by exact idle b) (by exact .inl empty), Unchecked.recheckHead (by exact .inl empty)]
    refine ⟨_, congrArg Host.Outcome.next (Scene.Idle.concludes (idle b) alone.toUnengaged alone.survey alone.admission), ?_⟩
    generalize ht : close _ = t
    obtain ⟨bay, adm, bus, ffr, keeps, tells⟩ := moved_ends ht rfl rfl
    refine ⟨?_, adm, bus, ffr, keeps, ?_⟩
    · exact bay
    · exact tells
  · have started : (s.begin.staged b (s.atRest b [])).headStarted b = true := by
      rw [staged_headStarted (idle b) hq, issued]
      rfl
    have plain : ¬ c.ex.kind.stateChanging = true := by rcases kind with k | k <;> rw [k] <;> decide
    rw [exec_refusal alone, alone_refuse_head alone target _ owner, refuseHead]
    rw [if_neg plain, if_pos started, staged_completesLast (w := s.atRest b []) hq origin intent]
    exact congrArg Host.Outcome.next ((alone_gives alone (e := { s.bay b with queue := [] }) (alone.waiting b) rfl).trans rfl)
  · have run := exec_refusal alone reason
    rw [alone_refuse_node alone target] at run
    obtain ⟨t, next, sensors, bus, ffr, rest⟩ := alone_rate_ends alone further none run
    exact ⟨t, next, sensors, bus, rest⟩
  · rw [exec_refusal alone, alone_refuse_insertion alone target _ owner, ends_atRest,
      conclude_unengaged _ _ (alone_rested alone) alone.survey]
    rfl

end Sys2Proof.Proofs
end

section
/-! PROOFS. A wait deadline expires, and the next entry becomes head (R31, R32, R38). -/

namespace Sys2Proof.Machine

set_option Elab.async false

/-- The exchange that a head check issues (R34, R46, R47). -/
theorem headCheck_issue {k : ReqKind} {st : BayState} {x : ExKind} (h : headCheck k st = .issue x) :
    x = .query ∨ x = .pass ∨ x = .unload ∨ x = .stop := by
  cases k <;> cases st <;> cases h <;> simp

theorem issued_unblocked {k : ReqKind} {st : BayState} {x : ExKind} (h : headCheck k st = .issue x) (u : State) (y : Exchange)
    (hy : y.kind = x) : u.blocked y = false := by
  rcases headCheck_issue h with rfl | rfl | rfl | rfl <;> simp [State.blocked, hy]

/-- The phase of a head that waits leaves its bay's exchanges alone. -/
theorem waitedFor_phase {s : State} {b : Bay} {r : Request} {n : Nat} (h : s.WaitedFor b r n) :
    s.expiredSecondary b r.phase = n ∧ (r.phase = .admitting ∨ r.phase = .deferred ∨ r.phase = .checking)
      ∧ (r.phase ≠ .admitting → s.adm.queue = []) ∧ ∀ e ∈ s.adm.queue, e.bay = b := by
  rcases h with ⟨p, rfl, q⟩ | ⟨p, rfl, k, q⟩ | ⟨p, slot, rfl, q⟩ | ⟨p, slot, rfl, q⟩
  · exact ⟨by rw [p]; rfl, by simp [p], fun _ => q, by simp [q]⟩
  · exact ⟨by rw [p]; rfl, by simp [p], fun no => absurd p no, by simp [q]⟩
  · exact ⟨by rw [p]; exact if_pos slot, by simp [p], fun _ => q, by simp [q]⟩
  · exact ⟨by rw [p]; exact if_neg (by simp [slot]), by simp [p], fun _ => q, by simp [q]⟩

/-- A scene at a bay of a part whose bus rests, its Admission Queue left. -/
def State.expiring (s : State) (b : Bay) : Scene := { s.atRest b [] with adm := { s.adm with queue := [] } }

theorem exec_expires {s : State} {b : Bay} {r : Request} {n : Nat} {more : List Request} (rests : s.BusRests)
    (hq : (s.bay b).queue = r :: more) (due : s.expires r.wait = true) (waited : s.WaitedFor b r n) :
    exec (.waitDeadlineExpiry b) s =
      .next (conclude s.begin (completeHead b { code := .expired, secondary := n } [] (s.begin.staged b (s.expiring b)))) := by
  obtain ⟨secondary, phase, empty, own⟩ := waitedFor_phase waited
  have bus : s.begin = s.begin.staged b (s.atRest b []) := by
    have idle : s.begin.bus = idleBus [] := by
      show ({ urgent := s.bus.urgent, normal := s.bus.normal, current := s.bus.current, transaction := s.bus.transaction, sent := [] }
        : BusController) = _
      rw [rests.urgent, rests.normal, rests.current, rests.free]
      rfl
    unfold State.atRest
    rw [← idle]
    exact (staged_scene s.begin b).symm
  have left : expireHead b r.phase s.begin
      = completeHead b { code := .expired, secondary := n } [] (s.begin.staged b (s.expiring b)) := by
    have gone : leaveAdmission b s.begin = s.begin.staged b (s.expiring b) := by
      have none : s.adm.queue.filter (fun e => decide (e.bay ≠ b)) = [] := List.filter_eq_nil_iff.mpr fun e he => by simp [own e he]
      conv_lhs => rw [bus]
      show s.begin.staged b { s.atRest b [] with adm := { s.adm with queue := s.adm.queue.filter fun e => e.bay ≠ b } } = _
      rw [none]
      rfl
    have still (h : r.phase ≠ .admitting) : s.begin = s.begin.staged b (s.expiring b) := by
      have same : s.expiring b = s.atRest b [] := by
        unfold State.expiring
        rw [← empty h]
        rfl
      rw [same]
      exact bus
    unfold expireHead
    dsimp only
    rw [show s.begin.expiredSecondary b r.phase = n from secondary]
    rcases phase with p | p | p <;> rw [p]
    · exact congrArg _ gone
    · exact congrArg _ (still (by rw [p]; decide))
    · exact congrArg _ (still (by rw [p]; decide))
  have head : s.waitDue b = some r := by
    unfold State.waitDue
    rw [head_cons hq]
    simp [Option.filter, due]
  show Host.Outcome.next (match s.waitDue b with | some r => _ | none => s) = _
  rw [head]
  exact congrArg (fun u => Host.Outcome.next (conclude s.begin u)) left

section Staged

variable {s : State} {b : Bay} {w : Scene}

/-- The head completes and the next entry is checked as head (R31, R32). -/
theorem staged_completeHead_next {r next : Request} {rest : List Request} {src : Source} {tag : Byte} (hq : w.bay.queue = r :: next :: rest)
    (origin : r.origin = .upstream src tag none) (c : Completion) (p : List Byte) :
    completeHead b c p (s.staged b w) = checkHead b (s.staged b { w with
      bay := { w.bay with queue := { next with phase := .checking, wait := s.waitDeadline } :: rest }
      replies := w.replies ++ [{ tag := tag, completion := c, payload := p, echo := none }] }) := by
  rw [completeHead, staged_popHead_next hq, delivered_upstream origin]

/-- A head whose check leaves it waiting (R32, R33, R35). -/
theorem staged_check_waits {r : Request} {more : List Request} {p : Phase} {q : List AdmEntry} (hq : w.bay.queue = r :: more)
    (hp : r.phase = .checking) (waits : (s.staged b w).HeadWaits b r.kind p q) :
    checkHead b (s.staged b w) = s.staged b { w with
      bay := { w.bay with queue := { r with phase := p } :: more }, adm := { w.adm with queue := w.adm.queue ++ q } } := by
  unfold State.HeadWaits at waits
  simp only [staged_bay, State.permits, staged_level] at waits
  have same : w = { w with bay := { w.bay with queue := { r with phase := .checking } :: more }, adm := { w.adm with queue := w.adm.queue ++ [] } } := by
    rw [List.append_nil, ← hp]
    show w = { w with bay := { w.bay with queue := r :: more } }
    rw [← hq]
  rcases waits with ⟨slot | hold, rfl, rfl⟩ | ⟨slot, a, permit, ⟨level, rfl, rfl⟩ | ⟨level, _, rfl, rfl⟩⟩
  · rw [staged_check_slot hq slot, ← same]
  · by_cases slot : w.bay.slot = none
    · rw [staged_check_hold hq hp slot hold, ← same]
    · rw [staged_check_slot hq (Option.isSome_iff_ne_none.mpr slot), ← same]
  · rw [staged_check_forbidden (s := s) hq hp slot permit level, List.append_nil]
  · rw [staged_check_permitted (s := s) hq hp slot permit level]

/-- What a waiting head has put in the Admission Queue is not admissible (R67). -/
theorem headWaits_admission {u : State} {k : ReqKind} {p : Phase} {q : List AdmEntry} (waits : u.HeadWaits b k p q) :
    q = [] ∨ ∃ a, q = [{ bay := b, kind := a }] ∧ u.admits { bay := b, kind := a } = false := by
  rcases waits with ⟨_, _, rfl⟩ | ⟨_, a, _, ⟨_, _, rfl⟩ | ⟨_, no, _, rfl⟩⟩
  · exact .inl rfl
  · exact .inl rfl
  · exact .inr ⟨a, rfl, no⟩

/-- What an event that moves the bay's current and the Admission Queue leaves and tells. -/
theorem moved_ends_queue {t : State} {n : Nat} {q : List AdmEntry} (ht : close (evaluateBudget (s.staged b w)) = t)
    (adm : w.adm = { s.adm with committed := n, queue := q }) (groups : w.groups = s.groups) :
      t.bay b = w.bay ∧ t.adm = { s.adm.committing n with queue := q } ∧ t.bus = w.bus ∧ t.ffr = w.ffr ∧ s.KeepsBut t b
        ∧ s.Tells t w.replies (w.notices ++ s.budgetNews t.adm.committed) := by
  obtain ⟨bay, hadm, bus, ffr, hgroups, keeps, tells⟩ := staged_ends (by rw [adm]) (by rw [adm]) t ht.symm
  have e : t.adm = { s.adm.committing n with queue := q } := by rw [hadm, adm]; rfl
  have committed : w.adm.committed = t.adm.committed := by rw [e, adm]; rfl
  rw [committed] at tells
  refine ⟨bay, e, bus, ffr, ?_, tells⟩
  rw [hgroups, groups] at keeps
  exact keeps

/-- A head's queued exchange is found and taken out of the Normal queue (R38, R127). -/
theorem staged_headExchange {x : Exchange} (hu : w.bus.urgent = []) (hn : w.bus.normal = [x]) (hw : w.bay.waiting = [])
    (target : x.target = .bay b) (owner : x.owner = .head) :
    (s.staged b w).headExchange b = some x
      ∧ takeOut b (·.owner = .head) (s.staged b w) = s.staged b { w with bus := { w.bus with normal := [] } } := by
  have own : (x.individual b && decide (x.owner = .head)) = true := by simp [Exchange.individual, target, owner]
  constructor
  · have urgent : (s.staged b w).bus.urgent = [] := hu
    have normal : (s.staged b w).bus.normal = [x] := hn
    unfold State.headExchange State.standing
    simp only [staged_bay, hw, urgent, normal, List.find?, own]
  · have gone : (s.staged b w).updBus (fun u => { u with
        urgent := u.urgent.filter fun x => !(x.individual b && decide (x.owner = .head))
        normal := u.normal.filter fun x => !(x.individual b && decide (x.owner = .head)) })
        = s.staged b { w with bus := { w.bus with normal := [] } } := by
      rw [staged_updBus, hu, hn]
      simp only [List.filter, own, Bool.not_true]
      rw [← hu]
    unfold takeOut
    dsimp only
    rw [gone, staged_updBay, hw]
    refine (releaseWaiting_none b _ (by rw [staged_bay]; rfl)).trans ?_
    rw [List.filter_nil, ← hw]

/-- An admission whose exchange is withdrawn is undone (R9, R38). -/
theorem staged_withdrawHead {x : Exchange} (hu : w.bus.urgent = []) (hn : w.bus.normal = [x]) (hw : w.bay.waiting = [])
    (target : x.target = .bay b) (owner : x.owner = .head) (kind : x.kind = .spin ∨ x.kind = .load) (reachable : x.before ≠ .unreachable)
    (booked : w.bay.reservation = (w.adm.profiles[w.bay.cls]).reservation w.bay.state) :
    withdrawHead b (s.staged b w) = s.staged b ({ w with bus := { w.bus with normal := [] } }.entering b x.before s.now) := by
  obtain ⟨found, taken⟩ := staged_headExchange (s := s) hu hn hw target owner
  unfold withdrawHead
  rw [found]
  dsimp only
  rw [taken, undoAdmission, if_pos kind, staged_changeState (by exact booked)]
  exact if_neg reachable

/-- Whether a head would wait depends on the bay's state, slot, class, zone and reservation, the levels and the budget. -/
theorem headWaits_congr {u v : State} {k : ReqKind} {p : Phase} {q : List AdmEntry} (state : (v.bay b).state = (u.bay b).state)
    (slot : (v.bay b).slot = (u.bay b).slot) (permits : ∀ a, v.permits b a = u.permits b a)
    (admits : ∀ a, v.admits { bay := b, kind := a } = u.admits { bay := b, kind := a }) (h : u.HeadWaits b k p q) : v.HeadWaits b k p q := by
  unfold State.HeadWaits
  simp only [state, slot, permits, admits]
  exact h

end Staged

end Sys2Proof.Machine

namespace Sys2Proof.Proofs

open Sys2Proof.Machine

/-- Settles O45: the head's end, and the check of what follows it. -/
theorem waitDeadlinesExpireTheHead : Obligations.WaitDeadlinesExpireTheHead := by
  refine ⟨fun s b r src tag secondary expired rests origin due waited reply => ?_,
    fun s b r src tag x c balanced flag survey admission urgent normal current apart waiting target owner kind reachable other hq issued
      origin due intent => ?_⟩
  · subst reply
    have others : ∀ d, (s.bay d).waiting = [] := rests.waiting
    refine ⟨fun hq intent => ?_, fun next rest hq => ?_⟩
    · rw [exec_expires rests hq due waited, staged_completesLast (w := s.expiring b) hq origin intent]
      have gives := rested_gives s.begin (s := { s with adm := { s.adm with queue := [] } }) (b := b)
        (e := { s.bay b with queue := [] })
        (r := { tag := tag, completion := { code := .expired, secondary := secondary }, payload := [], echo := none })
        ⟨rfl, rfl, others, rfl, rests.flag⟩ rests.survey (others b) rfl
      have idle : ({ s.bus with sent := [] } : BusController) = idleBus [] := by
        simp only [idleBus, rests.urgent, rests.normal, rests.current, rests.free]
      refine congrArg Host.Outcome.next (gives.trans ?_)
      unfold State.gave
      rw [show ({ (({ s with adm := { s.adm with queue := [] } } : State).updBay b fun e => { e with queue := [] }).bus with sent := [] }
        : BusController) = idleBus [] from idle]
      rfl
    · rw [exec_expires rests hq due waited, staged_completeHead_next (w := s.expiring b) hq origin]
      refine ⟨fun p q waits => ?_, fun c from_ tag' completes last origin' intent => ?_, fun x st balanced slot issues changing row => ?_,
        fun x slot issues plain => ?_⟩
      · have admits (v : Scene) (a : AdmKind) (hb : ∃ queue, v.bay = { s.bay b with queue := queue })
            (ha : ∃ q, v.adm = { s.adm with queue := q }) :
            (s.begin.staged b v).admits { bay := b, kind := a } = s.admits { bay := b, kind := a } := by
          obtain ⟨⟨queue, hb⟩, q, ha⟩ := hb, ha
          rw [staged_admits, admits_scene]
          simp only [hb, ha]
          rfl
        have checked := staged_check_waits (s := s.begin) (b := b) (p := p) (q := q) (more := rest)
          (r := { next with phase := .checking, wait := s.waitDeadline }) (w := { s.expiring b with
            bay := { s.bay b with queue := { next with phase := .checking, wait := s.waitDeadline } :: rest }
            replies := [{ tag := tag, completion := { code := .expired, secondary := secondary }, payload := [], echo := none }] }) rfl rfl (by
          refine headWaits_congr (by rw [staged_bay]) (by rw [staged_bay]) (fun a => ?_) (fun a => admits _ a ⟨_, rfl⟩ ⟨[], rfl⟩) waits
          rw [State.permits, staged_level]
          rfl)
        refine ⟨_, (congrArg (fun u => Host.Outcome.next (conclude s.begin u)) checked).trans (congrArg Host.Outcome.next
          (staged_concludes (s := s.begin) (b := b) s.begin rests.survey others rfl rfl (others b)
            ((headWaits_admission waits).imp id fun ⟨a, hq, no⟩ => ⟨_, _, hq, (admits _ a ⟨_, rfl⟩ ⟨_, rfl⟩).trans no⟩))), ?_⟩
        generalize ht : close _ = t
        obtain ⟨bay, adm, bus, ffr, keeps, tells⟩ := unmoved_ends (q := q) ht rests.flag rfl rfl
        exact ⟨bay, adm, bus, ffr, keeps, tells⟩
      · obtain ⟨slot, completes⟩ := completes
        subst last
        rw [staged_check_completes (c := c) rfl rfl slot intent completes, delivered_upstream (by exact origin')]
        refine ⟨_, congrArg Host.Outcome.next (staged_concludes (s := s.begin) (b := b) s.begin rests.survey others rfl rfl (others b)
          (.inl rfl)), ?_⟩
        generalize ht : close _ = t
        obtain ⟨bay, adm, bus, ffr, keeps, tells⟩ := unmoved_ends (q := []) ht rests.flag rfl rfl
        exact ⟨bay, adm, bus, ffr, keeps, tells⟩
      · rw [staged_check_issues rfl rfl slot issues (staged_unbusied rfl rfl rfl (others b))]
        refine ⟨_, congrArg Host.Outcome.next (staged_starts (s := s.begin) (b := b)
          (x := (s.expiring b).exchange b x .head next.payload) s.begin rests.survey others (others b) rfl rfl rfl
          rfl (issued_unblocked issues _ _ rfl) (staged_start_head rfl rfl rfl changing row (balanced.1 b)) rfl (others b) rfl), ?_⟩
        generalize ht : close _ = t
        obtain ⟨bay, adm, bus, ffr, keeps, tells⟩ := moved_ends_queue ht rfl rfl
        refine ⟨bay, adm, bus.trans ?_, ffr, keeps, tells⟩
        rcases headCheck_issue issues with rfl | rfl | rfl | rfl <;> rfl
      · rw [staged_check_issues rfl rfl slot issues (staged_unbusied rfl rfl rfl (others b))]
        refine ⟨_, congrArg Host.Outcome.next (staged_starts (s := s.begin) (b := b)
          (x := (s.expiring b).exchange b x .head next.payload) s.begin rests.survey others (others b) rfl rfl rfl
          rfl (issued_unblocked issues _ _ rfl) (staged_startPlain_head rfl rfl rfl plain) rfl (others b) rfl), ?_⟩
        generalize ht : close _ = t
        obtain ⟨bay, adm, bus, ffr, keeps, tells⟩ := unmoved_ends (q := []) ht rests.flag rfl rfl
        exact ⟨bay, adm, bus, ffr, keeps, tells⟩
  · have head : s.waitDue b = some r := by
      unfold State.waitDue
      rw [head_cons hq]
      simp [Option.filter, due]
    have run : exec (.waitDeadlineExpiry b) s
        = .next (conclude s.begin (expireHead b .issued (s.begin.staged b (s.begin.scene b)))) := by
      rw [staged_scene, ← issued]
      show Host.Outcome.next (match s.waitDue b with | some r => _ | none => s) = _
      rw [head]
      rfl
    have expire : expireHead b .issued (s.begin.staged b (s.begin.scene b))
        = completeHead b { code := .expired, secondary := 4 } [] (withdrawHead b (s.begin.staged b (s.begin.scene b))) := rfl
    rw [run, expire, staged_withdrawHead urgent normal (waiting b) target owner kind reachable (balanced.1 b),
      staged_completesLast (by exact hq) origin (by exact intent)]
    refine ⟨_, congrArg Host.Outcome.next (staged_concludes (s := s.begin) (b := b) s.begin survey waiting urgent rfl (waiting b)
      (.inl admission)), ?_⟩
    generalize ht : close _ = t
    obtain ⟨bay, adm, bus, ffr, keeps, tells⟩ := moved_ends ht rfl rfl
    refine ⟨bay, ?_, bus, ffr, keeps, tells⟩
    rw [bay]
    exact adm

end Sys2Proof.Proofs
end

section
/-! PROOFS. Expiries that place QUERYs (R23, R139), and presence notices (R21, R22). -/

namespace Sys2Proof.Machine

set_option Elab.async false

/-! ### The end of an event while the survey may run -/

theorem completeSurvey_unfinished {s : State}
    (h : s.survey.running = false ∨ s.survey.settle.isSome = true ∨ ∃ d, (s.bay d).surveyed = false) : completeSurvey s = s := by
  refine if_neg fun ⟨running, settled, all⟩ => ?_
  rcases h with off | waits | ⟨d, not⟩
  · rw [off] at running
    cases running
  · rw [settled] at waits
    cases waits
  · rw [List.all_eq_true] at all
    have counted := all d (mem_allBays d)
    rw [not] at counted
    cases counted

theorem busChoice_still {s : State} (waiting : ∀ b, (s.bay b).waiting = [])
    (h : s.bus.current.isSome = true ∨ (s.bus.urgent = [] ∧ s.bus.normal = [])) : busChoice s = s := by
  rcases h with busy | ⟨urgent, normal⟩
  · refine busChoice_busy s ?_ waiting
    obtain ⟨c, current⟩ := Option.isSome_iff_exists.mp busy
    unfold State.mayTake
    rw [current]
    exact Bool.and_false _
  · exact busChoice_empty urgent normal waiting

/-- The end of an event whose choice leads to `v`, which leaves nothing to choose and no admission waiting. -/
theorem conclude_choosing {s v : State} (s0 : State) (complete : completeSurvey s = s) (choice : busChoice s = v)
    (waiting : ∀ b, (v.bay b).waiting = []) (still : v.bus.current.isSome = true ∨ (v.bus.urgent = [] ∧ v.bus.normal = []))
    (admission : v.adm.queue = []) : conclude s0 s = close (evaluateBudget v) := by
  have rest : busChoice (evaluateBudget v) = evaluateBudget v :=
    busChoice_still (fun b => by rw [evaluateBudget_bay]; exact waiting b) (by rw [evaluateBudget_eq]; exact still)
  unfold conclude
  rw [complete, choice, settleBudget_of_empty s0 v admission, rest, evaluateBudget_of_flag _ (evaluateBudget_flag v)]

/-! ### The survey's QUERYs (R23) -/

/-- QUERYs for bays for which nothing stands join the Normal queue one after the other. -/
theorem foldl_placeSurveyQuery (l : List Bay) {u : State} (nodup : l.Nodup) (hu : u.bus.urgent = []) (hc : u.bus.current = none)
    (apart : ∀ x ∈ u.bus.normal, ∀ b ∈ l, x.serves b = false) :
    l.foldl (fun s b => placeSurveyQuery b s) u
      = u.updBus fun v => { v with normal := v.normal ++ l.map fun b => u.exchangeFor b .query .survey [] } := by
  induction l generalizing u with
  | nil =>
    simp only [List.map_nil, List.append_nil]
    rfl
  | cons b l ih =>
    have placed : placeSurveyQuery b u
        = u.updBus fun v => { v with normal := v.normal ++ [u.exchangeFor b .query .survey []] } := by
      have free : (u.queuedFor b || u.currentFor b) = false := by
        simp only [State.queuedFor, State.currentFor, hu, hc, List.any_nil, Bool.false_or, Bool.or_false]
        rw [List.any_eq_false]
        intro x hx
        rw [apart x hx b List.mem_cons_self]
        decide
      unfold placeSurveyQuery placeFor
      rw [free]
      rfl
    obtain ⟨fresh, nodup⟩ := List.nodup_cons.mp nodup
    rw [List.foldl_cons, placed]
    refine (ih (u := u.updBus fun v => { v with normal := v.normal ++ [u.exchangeFor b .query .survey []] }) nodup hu hc
      fun x hx d hd => ?_).trans ?_
    · rcases List.mem_append.mp hx with hx | hx
      · exact apart x hx d (List.mem_cons_of_mem b hd)
      · rw [List.mem_singleton.mp hx]
        exact decide_eq_false fun same => fresh (same ▸ hd)
    · simp only [State.updBus, List.append_assoc, List.map_cons, List.singleton_append]
      rfl

/-- The survey once its QUERYs are placed and the bus rests (R23). -/
def State.surveyed (s : State) (queries : List Exchange) : State :=
  { s with survey := { running := true, settle := none }, bus := { idleBus [] with normal := queries } }

theorem placeSurvey_eq {s : State} {d : Count} (idle : s.Unengaged) (current : s.bus.current = none) (free : s.bus.transaction = .free)
    (survey : s.survey = { running := true, settle := some d }) :
    placeSurvey s.begin = s.surveyed (allBays.map fun b => s.exchangeFor b .query .survey []) := by
  have begun : ({ s.begin with survey := { s.begin.survey with settle := none } } : State) = s.surveyed [] := by
    have bus : s.begin.bus = idleBus [] := by
      show ({ urgent := s.bus.urgent, normal := s.bus.normal, current := s.bus.current, transaction := s.bus.transaction, sent := [] }
        : BusController) = _
      rw [idle.urgent, idle.normal, current, free]
      rfl
    show ({ s with survey := { s.survey with settle := none }, bus := s.begin.bus } : State) = _
    rw [survey, bus]
    rfl
  unfold placeSurvey
  rw [begun, foldl_placeSurveyQuery allBays (by decide) rfl rfl (by simp [State.surveyed, idleBus])]
  rfl

/-! ### Presence notices (R21, R22) -/

theorem address_of_bayAt {a : Byte} {b : Bay} (h : bayAt a = some b) : (Target.bay b).address = a := by
  unfold bayAt at h
  split at h
  · rename_i range
    cases h
    apply BitVec.eq_of_toNat_eq
    simp only [Target.address, BitVec.toNat_ofNat]
    omega
  · cases h

theorem presence_frame {f : StationFrame} (h : f.kind = 0x32) : presenceFrame f.initiator f.payload f.check = f := by
  rw [presenceFrame, show Config.kindPresence = f.kind from h.symm]

theorem exec_inserted {s : State} {f : StationFrame} {b : Bay} (hf : s.Receives 0x32 f) (hb : bayAt f.initiator = some b)
    (hp : f.payload = [1]) : exec (.presenceInserted f.initiator f.payload f.check) s
      = .next (conclude s.begin (presenceInserted b (s.acked f.initiator))) := by
  have taken : presenceTaken f = some (presenceInserted b) := by
    unfold presenceTaken
    rw [hb, hp]
    rfl
  exact exec_taken (c := .presenceInserted f.initiator f.payload f.check) (congrArg some (presence_frame hf.ofKind)) hf
    ((congrArg presenceTaken (presence_frame hf.ofKind)).trans taken)

theorem exec_removed {s : State} {f : StationFrame} {b : Bay} (hf : s.Receives 0x32 f) (hb : bayAt f.initiator = some b)
    (hp : f.payload = [2]) : exec (.presenceRemoved f.initiator f.payload f.check) s
      = .next (conclude s.begin (presenceRemoved b (s.acked f.initiator))) := by
  have taken : presenceTaken f = some (presenceRemoved b) := by
    unfold presenceTaken
    rw [hb, hp]
    rfl
  exact exec_taken (c := .presenceRemoved f.initiator f.payload f.check) (congrArg some (presence_frame hf.ofKind)) hf
    ((congrArg presenceTaken (presence_frame hf.ofKind)).trans taken)

theorem presenceInserted_full {s : State} {b : Bay} (full : (s.bay b).state ≠ .empty) (known : (s.bay b).state ≠ .unknown) :
    presenceInserted b s = s := by
  unfold presenceInserted
  split
  · exact absurd ‹_› full
  · exact absurd ‹_› known
  · rfl

theorem presenceInserted_empty {s : State} {b : Bay} (h : (s.bay b).state = .empty) :
    presenceInserted b s = placeInsertionQuery b (changeState b .off s) := by
  unfold presenceInserted
  rw [h]

theorem presenceInserted_unknown {s : State} {b : Bay} (h : (s.bay b).state = .unknown) :
    presenceInserted b s = changeState b .off s := by
  unfold presenceInserted
  rw [h]

theorem acked_scene (s : State) (b : Bay) (station : Byte) : s.acked station = s.begin.staged b { s.scene b with
    bus := { s.bus with sent := [{ destination := station, kind := 0x40, payload := [] }] } } := by
  have begun : s.acked station = answerStation station 0x40 [] (s.begin.staged b (s.begin.scene b)) :=
    congrArg (answerStation station 0x40 []) (staged_scene s.begin b).symm
  rw [begun]
  rfl

section Removed

variable {s : State} {b : Bay} {tag : Request → Byte}

/-- The replies to requests that complete BayEmpty (R22). -/
def emptiedReplies (tag : Request → Byte) (l : List Request) : List Reply :=
  l.map fun r => { tag := tag r, completion := { code := .bayEmpty, secondary := 0 }, payload := [], echo := none }

theorem staged_deliverEmptied (l : List Request) (origin : ∀ r ∈ l, ∃ src, r.origin = .upstream src (tag r) none) (w : Scene) :
    l.foldl (fun s r => deliver b r (.plain .bayEmpty) [] s) (s.staged b w)
      = s.staged b { w with replies := w.replies ++ emptiedReplies tag l } := by
  induction l generalizing w with
  | nil => simp [emptiedReplies]
  | cons r l ih =>
    obtain ⟨src, from_⟩ := origin r List.mem_cons_self
    rw [List.foldl_cons, staged_deliver, delivered_upstream from_, ih fun r hr => origin r (List.mem_cons_of_mem _ hr)]
    simp [emptiedReplies, Completion.plain]

theorem staged_completeRemoved {w : Scene} (origin : ∀ r ∈ w.bay.queue, ∃ src, r.origin = .upstream src (tag r) none) :
    completeRemoved b none (s.staged b w) = s.staged b { w with replies := w.replies ++ emptiedReplies tag w.bay.queue } := by
  rw [← staged_deliverEmptied w.bay.queue origin]
  unfold completeRemoved
  rw [staged_bay]
  cases w.bay.queue <;> rfl

/-- What the removal of a drive does before the bay is entered as Empty (R22, R24). -/
theorem staged_removes {w : Scene} (free : w.Free b) (admission : w.adm.queue = [])
    (origin : ∀ r ∈ w.bay.queue, ∃ src, r.origin = .upstream src (tag r) none) :
    removeDrive b none (s.staged b w) = changeState b .empty (surveyKnown b (s.staged b { w with
      bay := w.bay.removed, replies := w.replies ++ emptiedReplies tag w.bay.queue })) := by
  have free : (s.staged b { w with bay := w.bay.removed, replies := w.replies ++ emptiedReplies tag w.bay.queue }).Unbusied b :=
    Scene.Free.unbusied (w := { w with bay := w.bay.removed, replies := w.replies ++ emptiedReplies tag w.bay.queue })
      ⟨free.urgent, free.normal, free.current, free.waiting⟩
  have left : leaveAdmission b (s.staged b { w with bay := w.bay.removed, replies := w.replies ++ emptiedReplies tag w.bay.queue })
      = s.staged b { w with bay := w.bay.removed, replies := w.replies ++ emptiedReplies tag w.bay.queue } := by
    unfold leaveAdmission
    rw [staged_updAdm, admission, List.filter_nil, ← admission]
  unfold removeDrive
  dsimp only
  rw [staged_completeRemoved origin, staged_updBay, left, takeOut_unbusied free, leaveBaySet_unbusied free, disregard_unbusied free]

/-- A drive removed while no survey runs (R22). -/
theorem staged_removeDrive {w : Scene} (idle : w.Idle) (survey : s.survey.running = false) (admission : w.adm.queue = [])
    (booked : w.bay.reservation = (w.adm.profiles[w.bay.cls]).reservation w.bay.state)
    (origin : ∀ r ∈ w.bay.queue, ∃ src, r.origin = .upstream src (tag r) none) :
    removeDrive b none (s.staged b w) = s.staged b ({ w with
      bay := w.bay.removed, replies := w.replies ++ emptiedReplies tag w.bay.queue }.entering b .empty s.now) := by
  rw [staged_removes (Scene.Idle.free idle) admission origin, surveyKnown,
    if_neg (fun h => by rw [show s.survey.running = true from h.1] at survey; cases survey), staged_changeState (by exact booked)]

end Removed

end Sys2Proof.Machine

namespace Sys2Proof.Proofs

open Sys2Proof.Machine

/-- Settles O42: the QUERYs are placed, and the bus takes the first. -/
theorem settleAndGroupDeadlinesSendQueries : Obligations.SettleAndGroupDeadlinesSendQueries := by
  refine ⟨fun s d idle current free survey due counting => ?_, fun s b d rest present group due => ?_⟩
  · have run : exec .settleExpiry s = .next (conclude s.begin (placeSurvey s.begin)) := by
      show Host.Outcome.next (if s.expires s.survey.settle = true then partEvent placeSurvey s else s) = _
      rw [survey, if_pos due]
      rfl
    have ends := conclude_choosing (v := { s.surveyed [] with bus := { s.firstAttempt (s.exchangeFor 0 .query .survey []) with
        normal := allBays.tail.map fun b => s.exchangeFor b .query .survey [] } }) s.begin
      (s := s.surveyed (allBays.map fun b => s.exchangeFor b .query .survey [])) (completeSurvey_unfinished (.inr (.inr counting)))
      (busChoice_takes idle.waiting rfl (choose_normal rfl rfl rfl) rfl rfl) idle.waiting (.inl rfl) idle.admission
    rw [run, placeSurvey_eq idle current free survey]
    refine ⟨_, congrArg Host.Outcome.next (ends.trans (congrArg close (evaluateBudget_of_flag _ idle.flag))), ?_⟩
    have tells := tells_close (s := s) (ns := []) (u := { s.surveyed [] with bus := { s.firstAttempt (s.exchangeFor 0 .query .survey []) with
        normal := allBays.tail.map fun b => s.exchangeFor b .query .survey [] } }) rfl rfl
    generalize ht : close _ = t at tells
    have rest := closed_touches ht
    exact ⟨by rw [rest]; rfl, by rw [rest], tells, by rw [rest]; rfl⟩
  · have operation : s.operationDue b true = some d.kind := by
      unfold State.operationDue
      rw [present]
      exact if_pos ⟨group, due⟩
    have run : exec (.groupDeadlineExpiry b) s
        = .next (conclude s.begin (placeFollowUp b (setDeadline b none (s.begin.staged b (s.atRest b []))))) := by
      rw [← begin_atRest rest b]
      show Host.Outcome.next (match s.operationDue b true with | some k => _ | none => s) = _
      rw [operation]
      rfl
    have placed : placeFollowUp b (setDeadline b none (s.begin.staged b (s.atRest b []))) = s.begin.staged b { s.atRest b [] with
        bay := { s.bay b with deadline := none }, bus := { idleBus [] with urgent := [s.exchangeFor b .query .followUp []] } } := by
      rw [setDeadline, staged_updBay, placeFollowUp, placeFor_unbusied (by exact staged_unbusied rfl rfl rfl (rest.waiting b)),
        staged_exchangeFor]
      rfl
    rw [run, placed]
    refine ⟨_, congrArg Host.Outcome.next (staged_starts_urgent (s := s.begin) (b := b) (x := s.exchangeFor b .query .followUp [])
      s.begin rest.survey rest.waiting (rest.waiting b) rfl rfl rfl (staged_startPlain rfl (by exact fun h => by cases h) rfl) rfl
      (rest.waiting b) rest.admission), ?_⟩
    generalize ht : close _ = t
    obtain ⟨bay, adm, bus, ffr, keeps, tells⟩ := unmoved_ends (q := s.adm.queue) ht rest.flag rfl rfl
    exact ⟨bay, bus, adm, ffr, keeps, tells⟩

/-- Settles O57: insertion by the bay's state, and removal with its whole queue. -/
theorem presenceNotices : Obligations.PresenceNotices := by
  refine ⟨fun s b f hf hb hp => ⟨fun rest full known => ?_, fun rest balanced empty => ?_,
    fun running open_ balanced flag admission waiting still unknown => ?_⟩, fun s b f rest balanced hf hb hp present tag origin => ?_⟩
  · rw [exec_inserted hf hb hp, acked_atRest rest b, presenceInserted_full (by rw [staged_bay]; exact full) (by rw [staged_bay]; exact known)]
    exact congrArg Host.Outcome.next ((staged_sends (e := s.bay b) rest (rest.waiting b) rfl).trans
      (congrArg (State.sends · _) (updBay_self (s := s) (b := b) (f := fun _ => s.bay b) rfl)))
  · have nothing : (s.bay b).reservation = 0 := by
      rw [balanced.1 b, empty]
      rfl
    have inserted : presenceInserted b (s.acked f.initiator) = s.begin.staged b { s.atRest b [] with
        bay := { s.bay b with state := .off, reservation := 0 }
        bus := { idleBus [{ destination := f.initiator, kind := 0x40, payload := [] }] with
          normal := [{ s.exchangeFor b .query .insertion [] with before := .off }] }
        notices := s.bayNews b .off } := by
      rw [acked_atRest rest b, presenceInserted_empty (by rw [staged_bay]; exact empty), staged_changeState (by exact balanced.1 b),
        placeInsertionQuery, placeFor_unbusied (by exact staged_unbusied rfl rfl rfl (rest.waiting b)), staged_exchangeFor]
      have same : (s.adm.committed + 0 - (s.bay b).reservation) = s.adm.committed := by rw [nothing]; rfl
      refine Eq.trans (b := s.begin.staged b { s.atRest b [] with
        bay := { s.bay b with state := .off, reservation := 0 }
        adm := { s.adm with committed := s.adm.committed + 0 - (s.bay b).reservation }
        bus := { idleBus [{ destination := f.initiator, kind := 0x40, payload := [] }] with
          normal := [{ s.exchangeFor b .query .insertion [] with before := .off }] }
        notices := s.bayNews b .off }) rfl ?_
      rw [same]
      rfl
    rw [exec_inserted hf hb hp, inserted]
    refine ⟨_, congrArg Host.Outcome.next (staged_starts (s := s.begin) (b := b)
      (x := { s.exchangeFor b .query .insertion [] with before := .off })
      s.begin rest.survey rest.waiting (rest.waiting b) rfl rfl rfl rfl rfl (staged_startPlain rfl (by exact fun h => by cases h) rfl) rfl
      (rest.waiting b) rest.admission), ?_⟩
    generalize ht : close _ = t
    obtain ⟨bay, adm, bus, ffr, keeps, tells⟩ := unmoved_ends (q := s.adm.queue) ht rest.flag rfl rfl
    refine ⟨bay, adm, bus.trans ?_, ffr, keeps, tells⟩
    rw [← address_of_bayAt hb]
    rfl
  · have entered : presenceInserted b (s.acked f.initiator) = s.begin.staged b ({ s.scene b with
        bus := { s.bus with sent := [{ destination := f.initiator, kind := 0x40, payload := [] }] } }.entering b .off s.now) := by
      rw [acked_scene s b, presenceInserted_unknown (by rw [staged_bay]; exact unknown), staged_changeState (by exact balanced.1 b)]
      rfl
    have counting : s.begin.survey.settle.isSome = true ∨ ∃ d, ((s.begin.staged b ({ s.scene b with
        bus := { s.bus with sent := [{ destination := f.initiator, kind := 0x40, payload := [] }] } }.entering b .off s.now)).bay d).surveyed
          = false := by
      refine open_.imp id fun ⟨d, not⟩ => ⟨d, ?_⟩
      by_cases same : d = b
      · subst same
        rw [staged_bay]
        exact not
      · rw [staged_other same]
        exact not
    rw [exec_inserted hf hb hp, entered]
    refine ⟨_, congrArg Host.Outcome.next (conclude_choosing s.begin (completeSurvey_unfinished (.inr counting))
      (busChoice_still (staged_waiting (waiting b) waiting) still) (staged_waiting (waiting b) waiting) still admission), ?_⟩
    generalize ht : close _ = t
    obtain ⟨bay, adm, bus, ffr, keeps, tells⟩ := moved_ends ht rfl rfl
    exact ⟨bay, adm, bus, ffr, keeps, tells⟩
  · have idle : ({ s.atRest b [] with bus := idleBus [{ destination := f.initiator, kind := 0x40, payload := [] }] } : Scene).Idle :=
      ⟨⟨_, rfl⟩, rest.waiting b⟩
    have run : presenceRemoved b (s.acked f.initiator) = s.begin.staged b ({ s.atRest b [] with
        bay := (s.bay b).removed, bus := idleBus [{ destination := f.initiator, kind := 0x40, payload := [] }]
        replies := emptiedReplies tag (s.bay b).queue }.entering b .empty s.now) := by
      rw [acked_atRest rest b, presenceRemoved, if_neg (by rw [staged_bay]; exact present)]
      exact (staged_removeDrive (tag := tag) idle rest.survey rest.admission (balanced.1 b) origin).trans rfl
    rw [exec_removed hf hb hp, run]
    refine ⟨_, congrArg Host.Outcome.next (Scene.Idle.concludes ⟨⟨_, rfl⟩, rest.waiting b⟩ rest.toUnengaged rest.survey rest.admission), ?_⟩
    generalize ht : close _ = t
    obtain ⟨bay, adm, bus, ffr, keeps, tells⟩ := moved_ends ht rfl rfl
    exact ⟨bay, adm, bus, ffr, keeps, tells⟩

end Sys2Proof.Proofs
end

section
/-! PROOFS. DONE frames: completions, and reconciliations on a calm part with the rise that follows (R12, R18, R120). -/

namespace Sys2Proof.Machine

set_option Elab.async false

/-! ### A DONE frame taken -/

theorem takenBy_done {f : StationFrame} {b : Bay} {rep : Report} (hk : f.kind = 0x30) (hb : bayAt f.initiator = some b)
    (hp : reportOf f.payload = some rep) : takenBy (.done f) = some (takeReport b rep none) := by
  have taken : doneTaken f = some (takeReport b rep none) := by
    unfold doneTaken
    rw [hb, hp]
  show ofKind Config.kindDone f (doneTaken f) = _
  rw [taken]
  exact if_pos hk

theorem reportOf_present {cond code : Byte} {k : Condition} (h : conditionOf cond = some k) :
    reportOf [1, cond, code] = some { present := true, condition := cond, code := code } := by
  simp [reportOf, h]

theorem transitional_of_completionState {st u : BayState} {k : Condition} (h : completionState st k = some u) : st.transitional = true := by
  unfold completionState at h
  split at h <;> [rfl; rfl; rfl; rfl; rfl; cases h]

section Staged

variable {s : State} {b : Bay} {w : Scene}

theorem finishOwn_none (s : State) (b : Bay) : finishOwn b none s = s := rfl

/-- A report with present yes and fault code 0 is stored and its condition taken (R12, R13, R18, R19). -/
theorem staged_takeReport {cond : Byte} {k : Condition} (known : conditionOf cond = some k) :
    takeReport b { present := true, condition := cond, code := 0 } none (s.staged b w)
      = takeCondition b k (s.staged b { w with bay := { w.bay with
          cache := some { report := { present := true, condition := cond, code := 0 }, time := s.now } } }) := by
  unfold takeReport
  dsimp only
  rw [storeReport, staged_updBay, if_neg (by decide), if_neg (by decide), known]
  rfl

/-- The head that a completion serves ends Done, where nothing stands for the bay (R39). -/
def Scene.Serves (w : Scene) (rs : List Reply) : Prop :=
  (w.bay.queue = [] ∧ rs = [])
    ∨ ∃ r src tag, w.bay.queue = [r] ∧ r.phase = .issued ∧ r.kind.goalOf w.bay.state = true ∧ r.origin = .upstream src tag none
        ∧ rs = [{ tag := tag, completion := { code := .done, secondary := 0 }, payload := [], echo := none }]

/-- An operation in flight completes for a bay with no protective operation (R12, R39). -/
theorem staged_completeOperation {st : BayState} {rs : List Reply} (idle : w.Idle) (slot : w.bay.slot = none)
    (intent : w.bay.restoreIntent = false) (booked : w.bay.reservation = (w.adm.profiles[w.bay.cls]).reservation w.bay.state)
    (serves : w.Serves rs) :
    completeOperation b st (s.staged b w) = s.staged b { w.entering b st s.now with
      bay := { w.bay with state := st, reservation := (w.adm.profiles[w.bay.cls]).reservation st, deadline := none, queue := [] }
      replies := w.replies ++ rs } := by
  have entered : changeState b st (setDeadline b none (s.staged b w))
      = s.staged b ({ w with bay := { w.bay with deadline := none } }.entering b st s.now) := by
    rw [setDeadline, staged_updBay, staged_changeState (by exact booked)]
  have free : (s.staged b ({ w with bay := { w.bay with deadline := none } }.entering b st s.now)).Unbusied b :=
    Scene.Idle.unbusied (w := { w with bay := { w.bay with deadline := none } }.entering b st s.now) idle
  have served : completeServedHead b w.bay.state (s.staged b ({ w with bay := { w.bay with deadline := none } }.entering b st s.now))
      = s.staged b { w.entering b st s.now with
          bay := { w.bay with state := st, reservation := (w.adm.profiles[w.bay.cls]).reservation st, deadline := none, queue := [] }
          replies := w.replies ++ rs } := by
    unfold completeServedHead
    rcases serves with ⟨empty, rfl⟩ | ⟨r, src, tag, hq, issued, goal, origin, rfl⟩
    · rw [head_none (by rw [staged_bay]; exact empty), List.append_nil, ← empty]
      rfl
    · rw [head_cons (r := r) (more := []) (by rw [staged_bay]; exact hq)]
      dsimp only
      rw [if_pos ⟨issued, goal⟩, takeOut_unbusied free, staged_completesLast (by exact hq) origin (by exact intent)]
      rfl
  have noSlot (v : Scene) (h : v.bay.slot = none) : completeServedOperation b w.bay.state (s.staged b v) = s.staged b v := by
    unfold completeServedOperation
    rw [staged_bay, h]
  unfold completeOperation
  dsimp only
  rw [entered, staged_bay, takeOut_unbusied free, disregard_unbusied free, served, noSlot _ (by exact slot)]
  exact recheckHead_none (by rw [staged_bay])

/-! ### A rise that finds nothing to sweep (R110, R120) -/

/-- The sweep level a visit leaves (R106, R110). -/
def State.sweptLevel (s : State) (old z o : Level) : Level :=
  if o.val < z.val ∧ s.prot.action z ≠ .none ∧ (minLevel old z).val < z.val then z else minLevel old z

/-- A rise that sweeps the bay applies the action at the new level (R106, R110). -/
theorem staged_visitSweep_rises {o z : Level} (level : s.prot.levels.of w.bay.zone = z) (rises : o.val < z.val)
    (action : s.prot.action z ≠ .none) (below : (minLevel w.bay.sweepLevel z).val < z.val) :
    visitSweep true b o (s.staged b w) = forbidAdmitting b (applyAction b (s.prot.action z) z
      (s.staged b { w with bay := { w.bay with sweepLevel := z } })) := by
  subst level
  unfold visitSweep
  dsimp only
  rw [staged_level, staged_updBay, if_pos rises, if_pos (by rw [staged_bay]; exact ⟨rfl, rises, action, below⟩), staged_updBay]
  rfl

/-- Any other change of level lowers the sweep level (R110). -/
theorem staged_visitSweep_stays {o z : Level} (level : s.prot.levels.of w.bay.zone = z)
    (h : ¬ (o.val < z.val ∧ s.prot.action z ≠ .none ∧ (minLevel w.bay.sweepLevel z).val < z.val)) :
    visitSweep true b o (s.staged b w) =
      if o.val < z.val then forbidAdmitting b (s.staged b { w with bay := { w.bay with sweepLevel := minLevel w.bay.sweepLevel z } })
      else s.staged b { w with bay := { w.bay with sweepLevel := minLevel w.bay.sweepLevel z } } := by
  subst level
  unfold visitSweep
  dsimp only
  have same : ¬ (true = true ∧ o.val < (s.prot.levels.of w.bay.zone).val
      ∧ (s.staged b w).prot.action (s.prot.levels.of w.bay.zone) ≠ .none
      ∧ ((s.staged b { w with bay := { w.bay with sweepLevel := minLevel w.bay.sweepLevel (s.prot.levels.of w.bay.zone) } }).bay b
        ).sweepLevel.val < (s.prot.levels.of w.bay.zone).val) := by
    rw [staged_bay]
    exact fun k => h k.2
  rw [staged_level, staged_updBay]
  by_cases up : o.val < (s.prot.levels.of w.bay.zone).val
  · rw [if_pos up, if_neg (by exact same), if_pos up]
  · rw [if_neg up, if_neg (by exact same), if_neg up]

/-- A visit that names no operation moves the sweep level alone. -/
theorem staged_visitSweep {o : Level} (empty : w.bay.queue = []) (unnamed : ∀ k, protEntry k w.bay.state = .none) :
    visitSweep true b o (s.staged b w) = s.staged b { w with bay := { w.bay with
      sweepLevel := s.sweptLevel w.bay.sweepLevel (s.prot.levels.of w.bay.zone) o } } := by
  have noHead (v : Scene) (h : v.bay.queue = []) : (s.staged b v).head b = none := head_none (by rw [staged_bay]; exact h)
  unfold State.sweptLevel
  by_cases rise : o.val < (s.prot.levels.of w.bay.zone).val ∧ s.prot.action (s.prot.levels.of w.bay.zone) ≠ .none
      ∧ (minLevel w.bay.sweepLevel (s.prot.levels.of w.bay.zone)).val < (s.prot.levels.of w.bay.zone).val
  · rw [staged_visitSweep_rises rfl rise.1 rise.2.1 rise.2.2, applyAction_unnamed _ _ (by rw [staged_bay]; exact unnamed),
      forbidAdmitting_none (noHead _ (by exact empty)), if_pos rise]
  · rw [staged_visitSweep_stays rfl rise, forbidAdmitting_none (noHead _ (by exact empty)), ite_self, if_neg rise]

/-- The passes of R106 for one bay, where no bay's operation calls for a QUICKPARK and no admission waits. -/
theorem carryOut_one {u v : State} {o : Level} (visited : visitSweep true b o u = v) (slots : ∀ c, v.callsForPark c = false)
    (admission : v.adm.queue = []) : carryOut true [(b, o)] u = visitRecheck b v := by
  have parks : placeParks v = v := if_neg (by simp [slots])
  unfold carryOut
  simp only [List.foldl_cons, List.foldl_nil]
  rw [visited, parks, examine_nil v admission]

theorem callsForPark_none {u : State} {c : Bay} (h : (u.bay c).slot = none) : u.callsForPark c = false := by
  simp [State.callsForPark, State.parkUnstarted, h]

/-- The rise of one bay at rest from level 0 (R120). -/
theorem staged_riseFromZero (calm : ∀ c, c ≠ b → (s.bay c).slot = none) (empty : w.bay.queue = []) (slot : w.bay.slot = none)
    (intent : w.bay.restoreIntent = false) (admission : w.adm.queue = []) (present : w.bay.state ≠ .empty)
    (unnamed : s.prot.levels.of w.bay.zone = 0 ∨ ∀ k, protEntry k w.bay.state = .none) :
    riseFromZero [b] (s.staged b w) = s.staged b { w with bay := { w.bay with
      sweepLevel := s.sweptLevel w.bay.sweepLevel (s.prot.levels.of w.bay.zone) 0 } } := by
  have one : riseFromZero [b] (s.staged b w) = carryOut true [(b, 0)] (s.staged b w) := by
    unfold riseFromZero
    rw [List.filter_cons_of_pos (by rw [staged_bay]; simpa using present)]
    rfl
  have visited : visitSweep true b 0 (s.staged b w) = s.staged b { w with bay := { w.bay with
      sweepLevel := s.sweptLevel w.bay.sweepLevel (s.prot.levels.of w.bay.zone) 0 } } := by
    rcases unnamed with level | unnamed
    · have still : ¬ ((0 : Level).val < (0 : Level).val ∧ s.prot.action 0 ≠ .none ∧ (minLevel w.bay.sweepLevel 0).val < (0 : Level).val) :=
        fun h => Nat.lt_irrefl _ h.1
      rw [staged_visitSweep_stays level still, if_neg (Nat.lt_irrefl _), level, State.sweptLevel, if_neg still]
    · exact staged_visitSweep empty unnamed
  rw [one, carryOut_one visited (fun c => callsForPark_none ?_) (by exact admission), visitRecheck,
    recheckDeferred_none (head_none (by rw [staged_bay]; exact empty)), restoreNow_none (by rw [staged_bay]; exact intent)]
  by_cases h : c = b
  · rw [h, staged_bay]
    exact slot
  · rw [staged_other h]
    exact calm c h

/-- What follows a reconciliation of a bay at rest (R18, R120). -/
theorem staged_afterReconciliation (survey : s.survey.running = false) (calm : ∀ c, c ≠ b → (s.bay c).slot = none)
    (empty : w.bay.queue = []) (slot : w.bay.slot = none) (intent : w.bay.restoreIntent = false) (admission : w.adm.queue = [])
    (present : w.bay.state ≠ .empty) (unnamed : s.prot.levels.of w.bay.zone = 0 ∨ ∀ k, protEntry k w.bay.state = .none) :
    afterReconciliation b (s.staged b w) = s.staged b { w with bay := { w.bay with
      sweepLevel := if s.prot.action (s.prot.levels.of w.bay.zone) = .none then 0 else s.prot.levels.of w.bay.zone } } := by
  have level : s.sweptLevel 0 (s.prot.levels.of w.bay.zone) 0
      = if s.prot.action (s.prot.levels.of w.bay.zone) = .none then 0 else s.prot.levels.of w.bay.zone := by
    generalize s.prot.levels.of w.bay.zone = z
    have low : minLevel 0 z = 0 := if_neg (Nat.not_lt_zero _)
    unfold State.sweptLevel
    rw [low]
    by_cases none : s.prot.action z = .none
    · rw [if_neg (fun h => h.2.1 none), if_pos none]
    · rw [if_neg none]
      by_cases up : (0 : Level).val < z.val
      · exact if_pos ⟨up, none, up⟩
      · rw [if_neg (fun h => up h.1)]
        exact Fin.ext (Nat.eq_zero_of_not_pos up).symm
  unfold afterReconciliation
  dsimp only
  rw [staged_updBay, if_neg (fun h => by rw [show s.survey.running = true from h] at survey; cases survey),
    staged_riseFromZero calm (by exact empty) (by exact slot) (by exact intent) (by exact admission) (by exact present) (by exact unnamed),
    ← level]

/-- A condition that does not agree with a bay at rest reconciles it (R18). -/
theorem staged_reconcile {k : Condition} (free : w.Free b) (booked : w.bay.reservation = (w.adm.profiles[w.bay.cls]).reservation w.bay.state)
    (other : k.state ≠ w.bay.state) (stays : w.bay.state.transitional = false) (empty : w.bay.queue = []) :
    takeCondition b k (s.staged b w) = afterReconciliation b (s.staged b { w.entering b k.state s.now with
      bay := { w.bay with
        state := k.state, reservation := (w.adm.profiles[w.bay.cls]).reservation k.state
        deadline := k.state.opKind.map fun o => { due := s.after ((w.adm.profiles[w.bay.cls]).time o), kind := o, group := false } } }) := by
  have still : ¬ (s.staged b w).inFlight b = true := by
    rw [inFlight_unbusied free.unbusied, staged_bay, stays]
    decide
  have entered : freshDeadline b (changeState b k.state (s.staged b w)) = s.staged b { w.entering b k.state s.now with
      bay := { w.bay with
        state := k.state, reservation := (w.adm.profiles[w.bay.cls]).reservation k.state
        deadline := k.state.opKind.map fun o => { due := s.after ((w.adm.profiles[w.bay.cls]).time o), kind := o, group := false } } } := by
    rw [staged_changeState booked, freshDeadline, setDeadline, staged_updBay, staged_bay]
    simp only [State.opDeadline, staged_profileOf]
    rfl
  rw [takeCondition, if_neg still, reconcile, if_neg (by rw [staged_bay]; exact other.symm)]
  dsimp only
  rw [entered, disregard_unbusied (Scene.Free.unbusied (by exact ⟨free.urgent, free.normal, free.current, free.waiting⟩)), reconcileHead, head_none (by rw [staged_bay]; exact empty)]

/-- The condition that an operation in flight awaits completes it (R12). -/
theorem staged_conditionCompletes {k : Condition} {st : BayState} (idle : w.Idle) (completes : completionState w.bay.state k = some st) :
    takeCondition b k (s.staged b w) = completeOperation b st (s.staged b w) := by
  have flying : (s.staged b w).inFlight b = true := by
    rw [inFlight_unbusied idle.unbusied, staged_bay]
    exact transitional_of_completionState completes
  rw [takeCondition, if_pos flying, staged_bay, completes]

/-- A report that shows a drive fault of a bay at rest faults it, with what follows a reconciliation (R15, R18). -/
theorem staged_takeDriveCode {cond code : Byte} (idle : w.Idle) (fault : code ≠ 0) (stays : w.bay.state.transitional = false)
    (sound : w.bay.state ≠ .faulted) :
    takeReport b { present := true, condition := cond, code := code } none (s.staged b w)
      = afterReconciliation b (faultBay b .faulted .drive code.toNat none (s.staged b { w with bay := { w.bay with
          cache := some { report := { present := true, condition := cond, code := code }, time := s.now } } })) := by
  have still : ((s.staged b { w with bay := { w.bay with
        cache := some { report := { present := true, condition := cond, code := code }, time := s.now } } }).inFlight b
      || decide (((s.staged b { w with bay := { w.bay with
        cache := some { report := { present := true, condition := cond, code := code }, time := s.now } } }).bay b).state = .faulted)) = false := by
    rw [inFlight_unbusied (Scene.Idle.unbusied (by exact idle)), staged_bay, stays, Bool.false_or]
    exact decide_eq_false sound
  have new : ¬ (s.staged b { w with bay := { w.bay with
      cache := some { report := { present := true, condition := cond, code := code }, time := s.now } } }).driveRepeat b code = true := by
    rw [driveRepeat_iff, staged_bay]
    exact fun h => sound h.1
  unfold takeReport
  dsimp only
  rw [storeReport, staged_updBay, if_neg (by decide), if_pos fault, takeDriveCode, if_neg (by exact new),
    if_neg (by exact Bool.eq_false_iff.mp still), driveFault, if_neg (by exact new)]
  rfl

end Staged

end Sys2Proof.Machine

namespace Sys2Proof.Proofs

open Sys2Proof.Machine

/-- Settles O56: the completion, the reconciliation, and the fault a report shows. -/
theorem doneCompletesOrReconciles : Obligations.DoneCompletesOrReconciles := by
  refine ⟨fun s b f cond k st rs rest balanced hf hb hp known completes slot intent serves => ?_,
    fun s b f cond k calm hf hb hp known stays other level => ?_, fun s b f cond code k calm hf hb hp known fault stays sound => ?_⟩
  · have idle : ({ s.atRest b [] with bus := idleBus [{ destination := f.initiator, kind := 0x40, payload := [] }] } : Scene).Idle :=
      ⟨⟨_, rfl⟩, rest.waiting b⟩
    rw [exec_taken (c := .done f) rfl hf (takenBy_done hf.ofKind hb (hp ▸ reportOf_present known)), acked_atRest rest b,
      staged_takeReport known]
    rw [staged_conditionCompletes (by exact idle) (by exact completes)]
    rw [staged_completeOperation (rs := rs) (by exact idle) (by exact slot) (by exact intent) (by exact balanced.1 b) (by exact serves)]
    refine ⟨_, congrArg Host.Outcome.next (Scene.Idle.concludes ⟨⟨_, rfl⟩, rest.waiting b⟩ rest.toUnengaged rest.survey rest.admission), ?_⟩
    generalize ht : close _ = t
    obtain ⟨bay, adm, bus, ffr, keeps, tells⟩ := moved_ends ht rfl rfl
    exact ⟨bay, adm, bus, ffr, keeps, tells⟩
  · have rest := calm.toResting
    have idle : ({ s.atRest b [] with bus := idleBus [{ destination := f.initiator, kind := 0x40, payload := [] }] } : Scene).Idle :=
      ⟨⟨_, rfl⟩, rest.waiting b⟩
    rw [exec_taken (c := .done f) rfl hf (takenBy_done hf.ofKind hb (hp ▸ reportOf_present known)), acked_atRest rest b,
      staged_takeReport known,
      staged_reconcile (by exact Scene.Idle.free idle) (by exact calm.balanced.1 b) (by exact other) (by exact stays) (by exact calm.queue b),
      staged_afterReconciliation (s := s.begin) rest.survey (fun c _ => calm.slot c) (by exact calm.queue b) (by exact calm.slot b)
        (by exact calm.intent b) (by exact rest.admission) (by exact (by cases k <;> decide : k.state ≠ .empty)) (by exact .inl level)]
    refine ⟨_, congrArg Host.Outcome.next (Scene.Idle.concludes ⟨⟨_, rfl⟩, rest.waiting b⟩ rest.toUnengaged rest.survey rest.admission), ?_⟩
    generalize ht : close _ = t
    obtain ⟨bay, adm, bus, ffr, keeps, tells⟩ := moved_ends ht rfl rfl
    refine ⟨bay.trans ?_, adm, bus, ffr, keeps, tells⟩
    have zero : (if s.prot.action (s.level b) = .none then 0 else s.level b) = (0 : Level) := by
      rw [level, ite_self]
    exact congrArg (fun l : Level => ({ s.bay b with
      state := k.state, reservation := (s.profileOf b).reservation k.state, sweepLevel := l
      deadline := k.state.opKind.map fun o => { due := s.after ((s.profileOf b).time o), kind := o, group := false }
      cache := some { report := { present := true, condition := cond, code := 0 }, time := s.now } } : BayRecord)) zero
  · have rest := calm.toResting
    have idle : ({ s.atRest b [] with bus := idleBus [{ destination := f.initiator, kind := 0x40, payload := [] }] } : Scene).Idle :=
      ⟨⟨_, rfl⟩, rest.waiting b⟩
    rw [exec_taken (c := .done f) rfl hf (takenBy_done hf.ofKind hb (hp ▸ reportOf_present known)), acked_atRest rest b,
      staged_takeDriveCode (by exact idle) fault (by exact stays) (by exact sound),
      staged_faultBay (rs := []) (k := .none) (by exact .inl ⟨calm.queue b, rfl, by rw [if_neg]; show ¬ (s.bay b).slot.isSome = true; rw [calm.slot b]; decide⟩)
        (by exact Scene.Idle.unbusied (by exact idle)),
      staged_afterReconciliation (s := s.begin) rest.survey (fun c _ => calm.slot c) (by exact rfl) (by exact rfl)
        (by exact calm.intent b) (by exact rest.admission) (by exact fun h => by cases h) (by exact .inr fun p => by cases p <;> rfl)]
    refine ⟨_, congrArg Host.Outcome.next (Scene.Idle.concludes ⟨⟨_, rfl⟩, rest.waiting b⟩ rest.toUnengaged rest.survey rest.admission), ?_⟩
    generalize ht : close _ = t
    obtain ⟨bay, adm, bus, ffr, keeps, tells⟩ := moved_ends ht rfl rfl
    exact ⟨bay, adm, bus, ffr, keeps, tells⟩

end Sys2Proof.Proofs
end

section
/-! PROOFS. Profile and assignment writes (R4, R56, R57, R61), and the Sensor writes (R96 to R98). -/

namespace Sys2Proof.Machine

set_option Elab.async false

/-! ### What an answered event shows -/

/-- An event that gave one reply took it or left it, and no notice (R148). -/
theorem tells_answered {s t : State} {r : Reply} {ns : List Notice} (h : s.heard.Tells t [r] ns) :
    t.link = s.link.answer r ∧ t.notices = s.notices.handAll ns := by
  obtain ⟨u, rfl, link, notices⟩ := h
  have placed : u = placeReply r { u with link := s.heard.link } := by
    rw [placeReply_eq]
    show u = { u with link := { s.heard.link with replies := s.heard.link.replies ++ [r] } }
    rw [← link]
  rw [placed, close_placeReply]
  exact ⟨rfl, notices⟩

/-! ### Profile writes (R57) -/

/-- A pass over the bays of a class books each of them anew. -/
theorem foldl_recompute_bays (i : Fin 8) (l : List Bay) (s : State) (nodup : l.Nodup) :
    (l.foldl (fun s b => if (s.bay b).cls = i then recomputeReservation b s else s) s)
        = { s with
            bays := (l.foldl (fun s b => if (s.bay b).cls = i then recomputeReservation b s else s) s).bays
            adm := { s.adm with
              committed := (l.foldl (fun s b => if (s.bay b).cls = i then recomputeReservation b s else s) s).adm.committed } }
      ∧ ∀ c, (l.foldl (fun s b => if (s.bay b).cls = i then recomputeReservation b s else s) s).bay c =
          if c ∈ l ∧ (s.bay c).cls = i then { s.bay c with reservation := (s.profileOf c).reservation (s.bay c).state } else s.bay c := by
  induction l generalizing s with
  | nil => exact ⟨rfl, fun c => by simp⟩
  | cons b l ih =>
    obtain ⟨fresh, nodup⟩ := List.nodup_cons.mp nodup
    rw [List.foldl_cons]
    by_cases own : (s.bay b).cls = i
    · obtain ⟨rest, bays⟩ := ih (recomputeReservation b s) nodup
      simp only [if_pos own]
      refine ⟨rest.trans rfl, fun c => ?_⟩
      have profile : (recomputeReservation b s).profileOf c = s.profileOf c := by
        simp only [State.profileOf, recomputeReservation_bay]
        rfl
      rw [bays, profile, recomputeReservation_bay]
      by_cases same : c = b
      · subst same
        simp [fresh, own]
      · simp [same]
    · obtain ⟨rest, bays⟩ := ih s nodup
      simp only [if_neg own]
      refine ⟨rest, fun c => ?_⟩
      rw [bays]
      by_cases same : c = b
      · subst same
        simp [own]
      · simp [same]

/-- A Profile entry stored where no admission waits (R56, R57, R61). -/
theorem writeProfile_eq {s : State} (balanced : s.Balanced) (admission : s.adm.queue = []) (i : Fin 8) (p : Profile) :
    ∃ u, writeProfile i p s = evaluateBudget u
      ∧ u = { s with bays := u.bays, adm := { s.adm with profiles := s.adm.profiles.set i p, committed := sumReservations u.bays } }
      ∧ ∀ b, u.bay b = if (s.bay b).cls = i then { s.bay b with reservation := p.reservation (s.bay b).state } else s.bay b := by
  have booked := foldl_recompute_booked i allBays (s.updAdm fun a => { a with profiles := a.profiles.set i p }) ⟨balanced.2, fun b hb => by
    have other : (s.bay b).cls ≠ i := fun e => hb ⟨e, mem_allBays b⟩
    have apart : i.val ≠ (s.bay b).cls.val := fun e => other (Fin.ext e.symm)
    refine (balanced.1 b).trans ?_
    simp [State.profileOf, apart]⟩
  obtain ⟨rest, bays⟩ := foldl_recompute_bays i allBays (s.updAdm fun a => { a with profiles := a.profiles.set i p }) (by decide)
  refine ⟨allBays.foldl (fun s b => if (s.bay b).cls = i then recomputeReservation b s else s)
    (s.updAdm fun a => { a with profiles := a.profiles.set i p }), ?_, ?_, fun b => ?_⟩
  · refine examine_nil _ ?_
    rw [evaluateBudget_adm, rest]
    exact admission
  · rw [booked.2] at rest
    exact rest
  · rw [bays]
    by_cases own : (s.bay b).cls = i
    · rw [if_pos ⟨mem_allBays b, own⟩, if_pos own]
      subst own
      simp [State.profileOf]
    · rw [if_neg (fun h => own h.2), if_neg own]
      rfl

theorem writeEntry_profile {tag x : Byte} {i : Fin 8} {e : List Byte} {s : State} (hx : x.toNat = i.val)
    (stored : (writeProfile i (profileFrom e) s).adm.profiles = s.adm.profiles.set i (profileFrom e)) :
    writeEntry tag 1 x e s =
      placeReply (replyTo tag (.plain .done) ([1, x] ++ (profileFrom e).bytes)) (writeProfile i (profileFrom e) s) := by
  have hn : x.toNat < 8 := hx ▸ i.isLt
  obtain rfl : i = ⟨x.toNat, hn⟩ := Fin.ext hx.symm
  have entry : (writeProfile ⟨x.toNat, hn⟩ (profileFrom e) s).tableEntry 1 x.toNat = (profileFrom e).bytes := by
    show (if h : x.toNat < 8 then _ else _) = _
    rw [dif_pos hn, stored]
    simp
  have written : writeEntry tag 1 x e s = answerEntry tag 1 x (writeProfile ⟨x.toNat, hn⟩ (profileFrom e) s) := dif_pos hn
  rw [written, answerEntry, entry]
  rfl

/-! ### Assignment writes (R4) -/

section Staged

variable {s : State} {b : Bay} {w : Scene}

/-- A bay's class written, with the reservation of its state in it (R4, R57). -/
theorem staged_writeClass (c : Fin 8) (booked : w.bay.reservation = (w.adm.profiles[w.bay.cls]).reservation w.bay.state) :
    writeClass b c (s.staged b w) = s.staged b { w with
      bay := { w.bay with cls := c, reservation := (w.adm.profiles[c]).reservation w.bay.state }
      adm := { w.adm with committed := w.adm.committed + (w.adm.profiles[c]).reservation w.bay.state - w.bay.reservation } } := by
  unfold writeClass
  rw [staged_bay]
  by_cases same : w.bay.cls = c
  · subst same
    rw [if_pos rfl, ← booked, Nat.add_sub_cancel]
  · rw [if_neg same, staged_updBay, recomputeReservation, staged_profileOf, staged_bay, setReservation]
    dsimp only
    rw [staged_bay, staged_updAdm, staged_updBay]

/-- A bay's zone written that leaves its level (R105). -/
theorem staged_writeZone {z : Zone} (same : s.prot.levels.of z = s.prot.levels.of w.bay.zone ∨ w.bay.state = .empty) :
    writeZone b z (s.staged b w) = s.staged b { w with bay := { w.bay with zone := z } } := by
  unfold writeZone
  dsimp only
  rw [staged_updBay, staged_level, staged_level, if_pos (by rw [staged_bay]; exact same)]

end Staged

theorem zoneOf_code (z : Zone) : zoneOf (byte z.code) = some z := by
  cases z with
  | all => rfl
  | sensor i => revert i; decide

theorem writeEntry_assignment {tag x y v : Byte} {b : Bay} {c : Fin 8} {z : Zone} {s : State} (hx : x.toNat = b.val)
    (hy : y.toNat = c.val) (hz : zoneOf v = some z)
    (record : [byte ((writeZone b z (writeClass b c s)).bay b).cls.val, byte ((writeZone b z (writeClass b c s)).bay b).zone.code] = [y, v]) :
    writeEntry tag 2 x [y, v] s = placeReply (replyTo tag (.plain .done) [2, x, y, v]) (writeZone b z (writeClass b c s)) := by
  have hn : x.toNat < 24 := hx ▸ b.isLt
  obtain rfl : b = ⟨x.toNat, hn⟩ := Fin.ext hx.symm
  have class_ : (if h : y.toNat < 8 then some (⟨y.toNat, h⟩ : Fin 8) else none) = some c := by
    rw [dif_pos (by rw [hy]; exact c.isLt)]
    exact congrArg some (Fin.ext hy)
  have entry : (writeZone ⟨x.toNat, hn⟩ z (writeClass ⟨x.toNat, hn⟩ c s)).tableEntry 2 x.toNat = [y, v] := by
    rw [← record]
    show (if h : x.toNat < 24 then _ else _) = _
    rw [dif_pos hn]
    rfl
  have written : writeEntry tag 2 x [y, v] s
      = answerEntry tag 2 x (writeZone ⟨x.toNat, hn⟩ z (writeClass ⟨x.toNat, hn⟩ c s)) := by
    show (if h : x.toNat < 24 then _ else _) = _
    rw [dif_pos hn]
    split
    · rename_i c' z' hc' hz'
      obtain rfl : c = c' := Option.some.inj (class_.symm.trans hc')
      obtain rfl : z = z' := Option.some.inj (hz.symm.trans hz')
      rfl
    · rename_i no
      exact (no c z class_ hz).elim
  rw [written, answerEntry, entry]
  rfl

end Sys2Proof.Machine

namespace Sys2Proof.Proofs

open Sys2Proof.Machine

/-- Settles O33: the bookings of each write, then the budget evaluated and the answer given. -/
theorem profileAndAssignmentWritesRebook : Obligations.ProfileAndAssignmentWritesRebook := by
  intro s h src hs rest balanced
  refine ⟨fun i e he => ?_, fun b c z same => ?_⟩
  · have hi : (byte i.val).toNat = i.val := byte_fin_toNat i (by decide)
    obtain ⟨u, written, stored, bays⟩ := writeProfile_eq (s := s.heard) balanced rest.admission i (profileFrom e)
    have profiles : (writeProfile i (profileFrom e) s.heard).adm.profiles = s.heard.adm.profiles.set i (profileFrom e) := by
      rw [written, evaluateBudget_eq, stored]
    have idle : (evaluateBudget u).Unengaged := by
      refine ⟨?_, ?_, fun b => ?_, ?_, evaluateBudget_flag u⟩
      · rw [evaluateBudget_eq, stored]; exact rest.urgent
      · rw [evaluateBudget_eq, stored]; exact rest.normal
      · rw [evaluateBudget_bay, bays]
        split <;> exact rest.waiting b
      · rw [evaluateBudget_eq, stored]; exact rest.admission
    rw [exec_managed_loud (m := .tableWrite) rfl hs.toHears (by simp [he]) (mgmtForm_tableWrite (by rw [he]; rfl)) rfl,
      serveManagement_tableWrite (s := s.heard) hs.manager, serveTableWrite_entry (by rw [hi]; exact i.isLt),
      writeEntry_profile hi profiles, written, conclude_placeReply _ idle (by rw [evaluateBudget_eq, stored]; exact rest.survey)]
    have flag : (evaluateBudget u).adm
        = { s.adm with profiles := s.adm.profiles.set i (profileFrom e) }.committing (sumReservations u.bays) := by
      rw [evaluateBudget_eq, stored]
      rfl
    have notices : (evaluateBudget u).notices = s.notices.handAll (s.budgetNews (sumReservations u.bays)) := by
      rw [evaluateBudget_eq, stored]
      rfl
    have bus : (evaluateBudget u).bus = idleBus [] := by
      rw [evaluateBudget_eq, stored, ← Resting.bus rest []]
      rfl
    have record (b : Bay) : (evaluateBudget u).bay b = if (s.bay b).cls = i then
        { s.bay b with reservation := (profileFrom e).reservation (s.bay b).state } else s.bay b := by
      rw [evaluateBudget_bay, bays]
      rfl
    refine ⟨_, rfl, flag.trans ?_, record, ?_, bus, notices.trans ?_, ?_⟩
    · rw [evaluateBudget_eq]
      rfl
    · rw [evaluateBudget_eq, stored]
      rfl
    · exact congrArg (fun n => s.notices.handAll (s.budgetNews n)) (congrArg Admission.committed flag).symm
    · rw [evaluateBudget_eq, stored]
      rfl
  · have hb : (byte b.val).toNat = b.val := byte_fin_toNat b (by decide)
    have hc : (byte c.val).toNat = c.val := byte_fin_toNat c (by decide)
    have written : writeZone b z (writeClass b c s.heard) = s.heard.staged b { s.atRest b [] with
        bay := { s.bay b with cls := c, zone := z, reservation := (s.adm.profiles[c]).reservation (s.bay b).state }
        adm := { s.adm with committed := s.adm.committed + (s.adm.profiles[c]).reservation (s.bay b).state - (s.bay b).reservation } } := by
      conv_lhs => rw [heard_atRest rest b, staged_writeClass c (by exact balanced.1 b), staged_writeZone (by exact same)]
      rfl
    rw [exec_managed_loud (m := .tableWrite) rfl hs.toHears (by simp) (mgmtForm_tableWrite rfl) rfl,
      serveManagement_tableWrite (s := s.heard) hs.manager, serveTableWrite_entry (by rw [hb]; exact b.isLt),
      writeEntry_assignment hb hc (zoneOf_code z) (by rw [written, staged_bay]), written, staged_placeReply]
    refine ⟨_, congrArg Host.Outcome.next (staged_concludes (s := s.heard) (b := b) s.heard rest.survey rest.waiting rfl rfl
      (rest.waiting b) (.inl rest.admission)), ?_⟩
    generalize ht : close _ = t
    obtain ⟨bay, adm, bus, ffr, keeps, tells⟩ := moved_ends ht rfl rfl
    obtain ⟨link, notices⟩ := tells_answered tells
    refine ⟨bay, ?_, link, bus, ffr, keeps, notices⟩
    rw [bay]
    exact adm

end Sys2Proof.Proofs
end

section
/-! PROOFS. Sensor writes: enabling, disabling, and the rate asked for (R77, R96 to R98). -/

namespace Sys2Proof.Machine

set_option Elab.async false

/-! ### The enabled field (R96, R97) -/

/-- A sensor after it is disabled (R90, R96). -/
def SensorRecord.disabled (r : SensorRecord) : SensorRecord :=
  { r with
    enabled := false, conds := .clear, lowRun := 0, highRun := 0, tiltRun := 0, untiltRun := 0, fallStart := none, lastHigh := none
    debounceDue := none, joltDue := none, blindDue := none, window := List.replicate 16 0, vibSum := 0, expected := none
    lastFall := if r.conds.falling then some { height := 65535, result := .impact } else r.lastFall }

/-- The work of a disable before its hand-off (R90, R96). -/
def State.disableWork (s : State) (i : SensorId) : State :=
  { s with sensors := s.sensors.set i s.sensors[i].disabled, latch := s.unseenLatch i, notices := s.notices.handAll (s.unseenNews i) }

theorem disableSensor_eq (i : SensorId) (s : State) : disableSensor i s = handOff i (s.disableWork i) := by
  have record : { s.sensors[i].fallEnded.noRuns with
      enabled := false, conds := .clear, fallStart := none, lastHigh := none, debounceDue := none, joltDue := none, blindDue := none
      window := List.replicate 16 0, vibSum := 0, expected := none } = s.sensors[i].disabled := by
    unfold SensorRecord.fallEnded SensorRecord.disabled SensorRecord.noRuns
    split
    · rfl
    · rfl
  unfold disableSensor
  dsimp only
  rw [endFallUnseen_eq]
  refine congrArg (handOff i) ?_
  unfold State.disableWork
  rw [← record]
  simp [State.updSensor]

/-- A sensor as a write of its enabled field leaves it (R96, R97). -/
def SensorRecord.enabledTo (r : SensorRecord) (on : Bool) (blind : Count) : SensorRecord :=
  if on = r.enabled then r else if on then { r with enabled := true, blindDue := some blind } else r.disabled

theorem writeEnabled_same {i : SensorId} {on : Bool} {s : State} (h : on = s.sensors[i].enabled) : writeEnabled i on s = s := if_pos h

theorem writeEnabled_on {i : SensorId} {s : State} (h : s.sensors[i].enabled = false) :
    writeEnabled i true s = s.updSensor i fun r => { r with enabled := true, blindDue := some (s.after s.thresholds.blindTime) } :=
  (if_neg (by rw [h]; decide)).trans (if_pos rfl)

theorem writeEnabled_off {i : SensorId} {s : State} (h : s.sensors[i].enabled = true) :
    writeEnabled i false s = handOff i (s.disableWork i) := by
  rw [← disableSensor_eq]
  exact (if_neg (by rw [h]; decide)).trans (if_neg (by decide))

theorem writeEnabled_sensors (i : SensorId) (on : Bool) (s : State) :
    (writeEnabled i on s).sensors = s.sensors.set i (s.sensors[i].enabledTo on (s.after s.thresholds.blindTime)) := by
  unfold SensorRecord.enabledTo
  by_cases same : on = s.sensors[i].enabled
  · rw [writeEnabled_same same, if_pos same]
    simp
  · rw [if_neg same]
    cases on with
    | true =>
      rw [writeEnabled_on (Bool.eq_false_iff.mpr (Ne.symm same)), if_pos rfl]
      rfl
    | false =>
      rw [writeEnabled_off (Bool.eq_true_of_not_eq_false (Ne.symm same)), (handOff_motion i _).1, if_neg (by decide)]
      rfl

/-! ### The rate field (R98) -/

/-- A sensor as a write of its rate leaves it, with or without the mark that a further RATE is owed (R98; log 22). -/
def SensorRecord.rateAsked (r : SensorRecord) (rate : Rate) (further : Bool) : SensorRecord :=
  if rate = r.tableRate then r else { r.noRuns with requested := some rate, expected := none, furtherRate := further }

theorem writeRate_leaves (i : SensorId) (rate : Rate) (s : State) :
    (writeRate i rate s).latch = s.latch ∧ (writeRate i rate s).prot = s.prot
      ∧ ∃ f, (writeRate i rate s).sensors = s.sensors.set i (s.sensors[i].rateAsked rate f) := by
  unfold writeRate SensorRecord.rateAsked
  by_cases same : rate = s.sensors[i].tableRate
  · rw [if_pos same]
    refine ⟨rfl, rfl, false, ?_⟩
    rw [if_pos same]
    simp
  · rw [if_neg same]
    unfold readyRate
    split
    · exact ⟨rfl, rfl, s.sensors[i].furtherRate, rfl⟩
    · split
      · refine ⟨rfl, rfl, true, ?_⟩
        simp [State.updSensor]
      · exact ⟨rfl, rfl, s.sensors[i].furtherRate, rfl⟩

theorem rateOf_code (r : Rate) : rateOf (byte r.code) = some r := by cases r <;> rfl

theorem writeEntry_sensor {tag x y v : Byte} {i : SensorId} {rate : Rate} {s : State} (hx : x.toNat = i.val) (hv : rateOf v = some rate) :
    writeEntry tag 5 x [y, v] s = writeSensor tag 5 x i (lenient y) rate s := by
  have hn : x.toNat < 4 := hx ▸ i.isLt
  obtain rfl : i = ⟨x.toNat, hn⟩ := Fin.ext hx.symm
  show (if h : x.toNat < 4 then _ else _) = _
  rw [dif_pos hn, show ([y, v] : List Byte).getD 1 0 = v from rfl, hv]
  rfl

theorem exec_sensorWrite {s : State} {h : Header} {src : Source} (hs : s.HearsManager h src) (i : SensorId) (x : Byte) (rate : Rate) :
    exec (.tableWriteSensor h [byte i.val, x, byte rate.code]) s
      = .next (conclude s.heard (writeSensor h.tag 5 (byte i.val) i (lenient x) rate s.heard)) := by
  have hi : (byte i.val).toNat = i.val := byte_fin_toNat i (by decide)
  rw [exec_managed_loud (m := .tableWrite) rfl hs.toHears (by simp) (mgmtForm_tableWrite rfl) rfl,
    serveManagement_tableWrite (s := s.heard) hs.manager, serveTableWrite_entry (by rw [hi]; exact i.isLt),
    writeEntry_sensor hi (rateOf_code rate)]

/-- A write that is taken answers with the entry as it stands (R185). -/
theorem writeSensor_taken {tag x : Byte} {i : SensorId} {on : Bool} {rate : Rate} {s u : State} (hx : x.toNat = i.val)
    (h : ¬ (rate ≠ s.sensors[i].tableRate ∧ s.sensors[i].conds.falling = true)) (hu : writeRate i rate (writeEnabled i on s) = u)
    (enabled : u.sensors[i].enabled = on) (read : u.sensors[i].tableRate = rate) :
    writeSensor tag 5 x i on rate s = placeReply (replyTo tag (.plain .done) [5, x, yesNo on, byte rate.code]) u := by
  have hn : x.toNat < 4 := hx ▸ i.isLt
  obtain rfl : i = ⟨x.toNat, hn⟩ := Fin.ext hx.symm
  have entry : u.tableEntry 5 x.toNat = [yesNo on, byte rate.code] := by
    rw [← enabled, ← read]
    show (if h : x.toNat < 4 then _ else _) = _
    rw [dif_pos hn]
    rfl
  unfold writeSensor
  rw [if_neg h, hu, answerEntry, entry]
  rfl

/-- The record after both fields of a write (R96 to R98). -/
def SensorRecord.rewritten (r : SensorRecord) (on : Bool) (rate : Rate) (blind : Count) (further : Bool) : SensorRecord :=
  (r.enabledTo on blind).rateAsked rate further

section Record

variable (r : SensorRecord) (on : Bool) (rate : Rate) (blind : Count) (further : Bool)

theorem enabledTo_keeps : (r.enabledTo on blind).enabled = on ∧ (r.enabledTo on blind).requested = r.requested
    ∧ (r.enabledTo on blind).rate = r.rate ∧ (r.enabledTo on blind).lastSample = r.lastSample := by
  unfold SensorRecord.enabledTo
  split
  · next same => exact ⟨same.symm, rfl, rfl, rfl⟩
  · cases on
    · exact ⟨rfl, rfl, rfl, rfl⟩
    · exact ⟨rfl, rfl, rfl, rfl⟩

theorem enabledTo_tableRate : (r.enabledTo on blind).tableRate = r.tableRate := by
  obtain ⟨_, requested, current, _⟩ := enabledTo_keeps r on blind
  rw [SensorRecord.tableRate, requested, current]
  rfl

theorem rewritten_same (h : rate = r.tableRate) : r.rewritten on rate blind further = r.enabledTo on blind :=
  if_pos (by rw [enabledTo_tableRate]; exact h)

theorem rewritten_other (h : rate ≠ r.tableRate) : r.rewritten on rate blind further =
    { (r.enabledTo on blind).noRuns with requested := some rate, expected := none, furtherRate := further } :=
  if_neg (by rw [enabledTo_tableRate]; exact h)

theorem rewritten_keeps : (r.rewritten on rate blind further).enabled = on ∧ (r.rewritten on rate blind further).tableRate = rate
    ∧ (r.rewritten on rate blind further).rate = r.rate ∧ (r.rewritten on rate blind further).lastSample = r.lastSample := by
  obtain ⟨enabled, _, current, sample⟩ := enabledTo_keeps r on blind
  by_cases h : rate = r.tableRate
  · rw [rewritten_same r on rate blind further h, enabledTo_tableRate]
    exact ⟨enabled, h.symm, current, sample⟩
  · rw [rewritten_other r on rate blind further h]
    exact ⟨enabled, rfl, current, sample⟩

/-- A disable leaves the sensor without conditions, runs, samples in its window or deadlines (R90, R96). -/
theorem rewritten_off {r : SensorRecord} (was : r.enabled = true) (rate : Rate) (blind : Count) (further : Bool) {e : SensorRecord}
    (h : e = r.rewritten false rate blind further) :
    e.conds = Conditions.clear ∧ e.window = List.replicate 16 0 ∧ e.vibSum = 0 ∧ e.lowRun = 0 ∧ e.highRun = 0 ∧ e.tiltRun = 0
      ∧ e.untiltRun = 0 ∧ e.debounceDue = none ∧ e.joltDue = none ∧ e.blindDue = none ∧ e.expected = none ∧ e.fallStart = none
      ∧ e.lastHigh = none ∧ e.lastFall = if r.conds.falling then some { height := 65535, result := .impact } else r.lastFall := by
  have off : r.enabledTo false blind = r.disabled := (if_neg (by rw [was]; decide)).trans (if_neg (by decide))
  subst h
  by_cases unasked : rate = r.tableRate
  · rw [rewritten_same _ _ _ _ _ unasked, off]
    exact ⟨rfl, rfl, rfl, rfl, rfl, rfl, rfl, rfl, rfl, rfl, rfl, rfl, rfl, rfl⟩
  · rw [rewritten_other _ _ _ _ _ unasked, off]
    exact ⟨rfl, rfl, rfl, rfl, rfl, rfl, rfl, rfl, rfl, rfl, rfl, rfl, rfl, rfl⟩

theorem rewritten_on {r : SensorRecord} (was : r.enabled = false) (rate : Rate) (blind : Count) (further : Bool) :
    (r.rewritten true rate blind further).blindDue = some blind := by
  have on : r.enabledTo true blind = { r with enabled := true, blindDue := some blind } :=
    (if_neg (by rw [was]; decide)).trans (if_pos rfl)
  by_cases unasked : rate = r.tableRate
  · rw [rewritten_same _ _ _ _ _ unasked, on]
  · rw [rewritten_other _ _ _ _ _ unasked, on]
    rfl

end Record

/-- A Sensor write that is taken: its record, and the reply with the entry. -/
theorem exec_sensorTaken {s : State} {h : Header} {src : Source} (hs : s.HearsManager h src) (i : SensorId) (x : Byte) (rate : Rate)
    (taken : ¬ (rate ≠ s.sensors[i].tableRate ∧ s.sensors[i].conds.falling = true)) :
    exec (.tableWriteSensor h [byte i.val, x, byte rate.code]) s = .next (conclude s.heard
        (placeReply (replyTo h.tag (.plain .done) [5, byte i.val, yesNo (lenient x), byte rate.code])
          (writeRate i rate (writeEnabled i (lenient x) s.heard))))
      ∧ ∃ f, (writeRate i rate (writeEnabled i (lenient x) s.heard)).sensors
          = s.sensors.set i (s.sensors[i].rewritten (lenient x) rate (s.after s.thresholds.blindTime) f) := by
  have hi : (byte i.val).toNat = i.val := byte_fin_toNat i (by decide)
  obtain ⟨_, _, f, sensors⟩ := writeRate_leaves i rate (writeEnabled i (lenient x) s.heard)
  rw [writeEnabled_sensors] at sensors
  have record : (writeRate i rate (writeEnabled i (lenient x) s.heard)).sensors
      = s.sensors.set i (s.sensors[i].rewritten (lenient x) rate (s.after s.thresholds.blindTime) f) := by
    rw [sensors]
    simp only [Fin.getElem_fin, Vector.getElem_set_self, Vector.set_set]
    rfl
  have own : (writeRate i rate (writeEnabled i (lenient x) s.heard)).sensors[i]
      = s.sensors[i].rewritten (lenient x) rate (s.after s.thresholds.blindTime) f := by
    rw [record]
    simp
  obtain ⟨enabled, read, _, _⟩ := rewritten_keeps s.sensors[i] (lenient x) rate (s.after s.thresholds.blindTime) f
  refine ⟨(exec_sensorWrite hs i x rate).trans (congrArg (fun u => Host.Outcome.next (conclude s.heard u))
    (writeSensor_taken hi taken rfl ?_ ?_)), f, record⟩
  · rw [own]
    exact enabled
  · rw [own]
    exact read

/-- A write of the rate the table reads already leaves it (log 21). -/
theorem writeRate_same {s : State} {i : SensorId} {rate : Rate} (on : Bool) (same : rate = s.sensors[i].tableRate) :
    writeRate i rate (writeEnabled i on s) = writeEnabled i on s := by
  refine if_pos (same.trans ?_)
  rw [writeEnabled_sensors]
  simp [enabledTo_tableRate]

/-- On a part at rest a new rate's RATE exchange joins the Normal queue (R98). -/
theorem writeRate_resting {s : State} (rest : s.Resting) {i : SensorId} {rate : Rate} (other : rate ≠ s.sensors[i].tableRate) :
    writeRate i rate s.heard = { s.heard with
      sensors := s.sensors.set i { s.sensors[i].noRuns with requested := some rate, expected := none }
      bus := { idleBus [] with normal := [rateExchange i rate] } } := by
  have asked : writeRate i rate s.heard = readyRate i rate
      (s.heard.updSensor i fun r => { r.noRuns with requested := some rate, expected := none }) := if_neg other
  have queue : (s.heard.updSensor i fun r => { r.noRuns with requested := some rate, expected := none }).bus = idleBus [] :=
    Resting.bus rest []
  rw [asked, readyRate, queue, if_neg (by exact Bool.false_ne_true), State.rateOnBus, queue]
  show ({ s.heard with sensors := _, bus := { s.heard.bus with normal := s.heard.bus.normal ++ [rateExchange i rate] } } : State) = _
  rw [show s.heard.bus = idleBus [] from Resting.bus rest []]
  rfl

end Sys2Proof.Machine

namespace Sys2Proof.Proofs

open Sys2Proof.Machine

/-- Settles O35: the record each field leaves, the hand-off of a disable, and the RATE exchange of a new rate. -/
theorem sensorWriteEnablesDisablesAndAsksForTheRate : Obligations.SensorWriteEnablesDisablesAndAsksForTheRate := by
  refine ⟨fun s h src i x rate hs => ?_, fun s h src i x rate hs rest falling other => ?_, fun s h src i rate hs rest sees other => ?_,
    fun s h src i x rate reply hs same hreply => ⟨fun rest form => ?_, fun calm down off on => ?_⟩⟩
  · by_cases refused : rate ≠ s.sensors[i].tableRate ∧ s.sensors[i].conds.falling = true
    · have answer : writeSensor h.tag 5 (byte i.val) i (lenient x) rate s.heard
          = placeReply (replyTo h.tag { code := .refusedState, secondary := i.val } []) s.heard := if_pos refused
      have sensors : (conclude s.heard (writeSensor h.tag 5 (byte i.val) i (lenient x) rate s.heard)).sensors = s.sensors := by
        rw [answer, (conclude_motion _ _).1]
        rfl
      refine ⟨_, exec_sensorWrite hs i x rate, fun j _ => by rw [sensors], ?_⟩
      rw [if_pos refused, sensors]
    · obtain ⟨run, f, record⟩ := exec_sensorTaken hs i x rate refused
      obtain ⟨latch, prot, _, _⟩ := writeRate_leaves i rate (writeEnabled i (lenient x) s.heard)
      obtain ⟨sensors', latch', _, prot'⟩ := conclude_motion s.heard
        (placeReply (replyTo h.tag (.plain .done) [5, byte i.val, yesNo (lenient x), byte rate.code])
          (writeRate i rate (writeEnabled i (lenient x) s.heard)))
      refine ⟨_, run, ?_⟩
      generalize conclude s.heard _ = t at sensors' latch' prot' ⊢
      have all : t.sensors = s.sensors.set i (s.sensors[i].rewritten (lenient x) rate (s.after s.thresholds.blindTime) f) :=
        sensors'.trans record
      have own : t.sensors[i] = s.sensors[i].rewritten (lenient x) rate (s.after s.thresholds.blindTime) f := by
        rw [all]
        simp
      have hlatch : t.latch = (writeEnabled i (lenient x) s.heard).latch := latch'.trans latch
      have hprot : t.prot = (writeEnabled i (lenient x) s.heard).prot := prot'.trans prot
      obtain ⟨enabled, read, current, sample⟩ := rewritten_keeps s.sensors[i] (lenient x) rate (s.after s.thresholds.blindTime) f
      refine ⟨fun j hj => ?_, ?_⟩
      · have apart : i.val ≠ j.val := fun k => hj (Fin.ext k.symm)
        rw [all]
        simp [Vector.getElem_set_ne, apart]
      rw [if_neg refused, own]
      refine ⟨enabled, read, current, sample, fun same unasked => ?_, fun asked => ?_, fun unasked => ?_, fun turned was => ?_,
        fun turned was => ?_⟩
      · rw [rewritten_same _ _ _ _ _ unasked]
        exact if_pos same
      · rw [rewritten_other _ _ _ _ _ asked]
        exact ⟨rfl, rfl, rfl, rfl, rfl, rfl⟩
      · rw [rewritten_same _ _ _ _ _ unasked]
        exact (enabledTo_keeps _ _ _).2.1
      · rw [turned]
        exact rewritten_on was _ _ _
      · have handed : writeEnabled i (lenient x) s.heard = handOff i (s.heard.disableWork i) := by
          rw [turned]
          exact writeEnabled_off was
        have latched : t.latch = s.unseenLatch i := by
          rw [hlatch, handed, (handOff_motion i _).2.1]
          rfl
        have left : (s.heard.disableWork i).sensors[i] = s.sensors[i].disabled := by
          show (s.sensors.set i s.sensors[i].disabled)[i] = _
          simp
        obtain ⟨conds, window, vib, low, high, tilt, untilt, debounce, jolt, blind, expected, start, last, fall⟩ :=
          rewritten_off was rate (s.after s.thresholds.blindTime) f (congrArg (SensorRecord.rewritten _ · _ _ _) turned)
        refine ⟨conds, window, vib, low, high, tilt, untilt, debounce, jolt, blind, expected, start, last, fall, latched, ?_, ?_⟩
        · rw [latched, hprot, handed, (handOff_work i _).prot]
          unfold State.handed
          dsimp only
          rw [left]
          rfl
        · rw [State.LevelsHold, latched, hprot, handed, (handOff_work i _).prot]
          exact ⟨rfl, rfl⟩
  · refine (exec_sensorWrite hs i x rate).trans ?_
    have answer : writeSensor h.tag 5 (byte i.val) i (lenient x) rate s.heard
        = placeReply (replyTo h.tag { code := .refusedState, secondary := i.val } []) s.heard := if_pos ⟨other, falling⟩
    rw [answer]
    exact congrArg Host.Outcome.next (conclude_placeReply_heard rest _)
  · have kept : lenient (yesNo s.sensors[i].enabled) = s.sensors[i].enabled := by cases s.sensors[i].enabled <;> rfl
    obtain ⟨run, _⟩ := exec_sensorTaken hs i (yesNo s.sensors[i].enabled) rate (fun h => by rw [sees] at h; cases h.2)
    rw [kept, writeEnabled_same (s := s.heard) (i := i) (on := s.sensors[i].enabled) rfl, writeRate_resting rest other] at run
    have ends := conclude_choosing s.heard (s := placeReply
        (replyTo h.tag (.plain .done) [5, byte i.val, yesNo s.sensors[i].enabled, byte rate.code]) { s.heard with
      sensors := s.sensors.set i { s.sensors[i].noRuns with requested := some rate, expected := none }
      bus := { idleBus [] with normal := [rateExchange i rate] } }) (v := placeReply
        (replyTo h.tag (.plain .done) [5, byte i.val, yesNo s.sensors[i].enabled, byte rate.code]) { s.heard with
      sensors := s.sensors.set i { s.sensors[i].noRuns with requested := some rate, expected := none }
      bus := s.firstAttempt (rateExchange i rate) }) (completeSurvey_off _ rest.survey)
      (busChoice_takes rest.waiting rfl (choose_normal rfl rfl rfl) rfl rfl) rest.waiting (.inl rfl) rest.admission
    rw [evaluateBudget_of_flag _ (by exact rest.flag), close_placeReply] at ends
    exact ⟨_, run.trans (congrArg Host.Outcome.next ends), rfl, rfl, rfl⟩
  · obtain ⟨run, _⟩ := exec_sensorTaken hs i x rate (fun h => h.1 same)
    have written : writeEnabled i (lenient x) s.heard = ({ s with
        sensors := s.sensors.set i (if s.sensors[i].enabled = lenient x then s.sensors[i] else
          { s.sensors[i] with enabled := true, blindDue := some (s.after s.thresholds.blindTime) }) } : State).heard := by
      by_cases kept : s.sensors[i].enabled = lenient x
      · rw [if_pos kept, writeEnabled_same (s := s.heard) kept.symm, show s.sensors.set i s.sensors[i] = s.sensors by simp]
      · have on : lenient x = true := form.elim id fun off => by
          rw [off] at kept
          exact Bool.eq_true_of_not_eq_false (Ne.symm kept)
        have off : s.sensors[i].enabled = false := by
          rw [on] at kept
          exact Bool.eq_false_iff.mpr kept
        rw [if_neg kept, on, writeEnabled_on (s := s.heard) off]
        rfl
    rw [writeRate_same (s := s.heard) _ same, written] at run
    rw [run, hreply]
    exact congrArg Host.Outcome.next (conclude_answers s.heard (u := { s with
        sensors := s.sensors.set i (if s.sensors[i].enabled = lenient x then s.sensors[i] else
          { s.sensors[i] with enabled := true, blindDue := some (s.after s.thresholds.blindTime) }) })
      ⟨rest.urgent, rest.normal, rest.waiting, rest.admission, rest.flag⟩ rest.survey _)
  · obtain ⟨run, _⟩ := exec_sensorTaken hs i x rate (fun h => h.1 same)
    have levels := recomputeLevels_quiet true (s := (s.heard.disableWork i).handing i) ⟨calm.queue, calm.slot, calm.intent⟩ calm.admission
      fun b => .inr (.inr (down b))
    have idle := recomputeLevels_unengaged (s := (s.heard.disableWork i).handing i)
      ⟨calm.urgent, calm.normal, calm.waiting, calm.admission, calm.flag⟩ levels
    rw [writeRate_same (s := s.heard) _ same, off, writeEnabled_off (s := s.heard) on,
      show handOff i (s.heard.disableWork i) = recomputeLevels true ((s.heard.disableWork i).handing i) from rfl] at run
    obtain ⟨rest, _⟩ := levels
    generalize recomputeLevels true ((s.heard.disableWork i).handing i) = u at run rest idle
    have survey : u.survey.running = false := by
      rw [rest]
      exact calm.survey
    have closes := run.trans (congrArg Host.Outcome.next (conclude_unengaged s.heard _
      (show (placeReply _ u).Unengaged from ⟨idle.urgent, idle.normal, idle.waiting, idle.admission, idle.flag⟩) survey))
    generalize ht : close _ = t at closes
    have touched := closed_touches ht
    refine ⟨t, closes, ⟨_, ht.symm, ?_, ?_⟩, ?_⟩
    · rw [hreply, off, placeReply_eq, rest]
      rfl
    · rw [touched, placeReply_eq, handAll_append]
      show u.notices = NoticeQueue.handAll _ (s.levelNews u.prot.levels)
      rw [rest]
      rfl
    · rw [touched, placeReply_eq, rest, ← Resting.bus calm.toResting []]
      rfl

end Sys2Proof.Proofs
end

section
/-! PROOFS. A rise of one bay's level by a zone move: what the sweep finds and places, and what starts in the event (R105, R110 to
R115). -/

namespace Sys2Proof.Machine

set_option Elab.async false

section Staged

variable {s : State} {b : Bay} {w : Scene}

/-! ### The park exchanges where one bay alone has an operation (R106, R114) -/

/-- A pass over bays that works at one bay alone. -/
theorem foldl_staged_one {f : State → Bay → State} {v : Scene} (own : f (s.staged b w) b = s.staged b v)
    (others : ∀ c, c ≠ b → ∀ u : Scene, f (s.staged b u) c = s.staged b u) (l : List Bay) (nodup : l.Nodup) (mem : b ∈ l) :
    l.foldl f (s.staged b w) = s.staged b v := by
  have rest (u : Scene) (l : List Bay) (h : b ∉ l) : l.foldl f (s.staged b u) = s.staged b u :=
    foldl_id l fun c hc => others c (fun e => h (e ▸ hc)) u
  induction l with
  | nil => cases mem
  | cons c l ih =>
    obtain ⟨fresh, nodup⟩ := List.nodup_cons.mp nodup
    rw [List.foldl_cons]
    by_cases same : c = b
    · subst same
      rw [own, rest v l fresh]
    · rw [others c same w]
      exact ih nodup ((List.mem_cons.mp mem).resolve_left fun e => same e.symm)

/-- Two bays of a list without repeats: one of them is not `b`. -/
theorem exists_other {l : List Bay} (nodup : l.Nodup) (h : 2 ≤ l.length) (b : Bay) : ∃ c ∈ l, c ≠ b := by
  match l, h with
  | x :: y :: _, _ =>
    by_cases same : x = b
    · refine ⟨y, by simp, fun e => ?_⟩
      have apart := (List.nodup_cons.mp nodup).1
      rw [same, ← e] at apart
      exact apart List.mem_cons_self
    · exact ⟨x, List.mem_cons_self, same⟩

/-- Where no other bay has an operation, the park exchanges are the bay's own (R114). -/
theorem staged_placeParks {v : Scene} (calm : ∀ c, c ≠ b → (s.bay c).slot = none) (own : placePark b (s.staged b w) = s.staged b v) :
    placeParks (s.staged b w) = s.staged b v := by
  have quiet (u : Scene) {c : Bay} (h : c ≠ b) : (s.staged b u).parkUnstarted c = false := by
    unfold State.parkUnstarted
    rw [staged_other h, calm c h]
  have uncalled (u : Scene) {c : Bay} (h : c ≠ b) : (s.staged b u).callsForPark c = false := by
    rw [State.callsForPark, quiet u h, Bool.false_and]
  unfold placeParks
  dsimp only
  by_cases calls : (s.staged b w).callsForPark b = true
  · have single : ¬ (2 ≤ (s.staged b w).baysAtRisk.length ∧ (s.staged b w).baysAtRisk.all (s.staged b w).parkUnstarted = true) := by
      rintro ⟨two, all⟩
      obtain ⟨c, mem, other⟩ := exists_other (allBays_nodup.filter _) two b
      have unstarted := List.all_eq_true.mp all c mem
      rw [quiet w other] at unstarted
      cases unstarted
    rw [if_pos (List.any_eq_true.mpr ⟨b, mem_allBays b, calls⟩), if_neg single]
    exact foldl_staged_one own (fun c h u => if_neg (by rw [uncalled u h]; decide)) allBays allBays_nodup (mem_allBays b)
  · have none : ¬ allBays.any (s.staged b w).callsForPark = true := by
      rw [List.any_eq_true]
      rintro ⟨c, _, h⟩
      by_cases same : c = b
      · exact calls (same ▸ h)
      · rw [uncalled w same] at h
        cases h
    rw [if_neg none, ← own]
    exact (if_neg calls).symm

/-- The passes of R106 for one bay that alone has an operation, whose head the second pass leaves (R106, R110). -/
theorem staged_carryOut {o : Level} {v x : Scene} (calm : ∀ c, c ≠ b → (s.bay c).slot = none)
    (visited : visitSweep true b o (s.staged b w) = s.staged b v) (parked : placePark b (s.staged b v) = s.staged b x)
    (admission : x.adm.queue = []) (undeferred : ∀ r ∈ x.bay.queue.head?, r.phase ≠ .deferred) (intent : x.bay.restoreIntent = false) :
    carryOut true [(b, o)] (s.staged b w) = s.staged b x := by
  have head : recheckDeferred b (s.staged b x) = s.staged b x := by
    cases hq : x.bay.queue with
    | nil => exact recheckDeferred_none (head_none (by rw [staged_bay]; exact hq))
    | cons r more =>
      exact recheckDeferred_past (r := r) (more := more) (by rw [staged_bay]; exact hq) (undeferred r (by rw [hq]; rfl))
  unfold carryOut
  simp only [List.foldl_cons, List.foldl_nil]
  rw [visited, staged_placeParks calm parked, examine_nil _ (by exact admission), visitRecheck, head,
    restoreNow_none (by rw [staged_bay]; exact intent)]

end Staged

/-! ### The zone moved (R105) -/

/-- A bay's scene when its zone has been written. -/
def State.rezonedScene (s : State) (b : Bay) (z : Zone) : Scene :=
  { s.scene b with bay := { s.bay b with zone := z }, bus := { s.bus with sent := [] } }

/-- A zone move that changes the bay's level, whose passes lead to the scene `x` (R105, R185). -/
theorem exec_rezone {s : State} {h : Header} {src : Source} {b : Bay} {z : Zone} {x : Scene} (hs : s.HearsManager h src)
    (present : (s.bay b).state ≠ .empty) (moved : s.prot.levels.of z ≠ s.level b)
    (carried : carryOut true [(b, s.level b)] (s.heard.staged b (s.rezonedScene b z)) = s.heard.staged b x)
    (cls : x.bay.cls = (s.bay b).cls) (zone : x.bay.zone = z) :
    exec (s.rezone h b z) s =
      .next (conclude s.heard (s.heard.staged b { x with replies := x.replies ++ [s.rezoned h b z] })) := by
  have hb : (byte b.val).toNat = b.val := byte_fin_toNat b (by decide)
  have hc : (byte (s.bay b).cls.val).toNat = (s.bay b).cls.val := byte_fin_toNat (s.bay b).cls (by decide)
  have written : writeZone b z (writeClass b (s.bay b).cls s.heard) = s.heard.staged b x := by
    have kept : writeClass b (s.bay b).cls s.heard = s.heard := if_pos rfl
    have update : s.heard.updBay b (fun r => { r with zone := z }) = s.heard.staged b (s.rezonedScene b z) := by
      conv_lhs => rw [← staged_scene s.heard b, staged_updBay]
      rfl
    rw [kept, ← carried, ← update]
    refine if_neg ?_
    rw [update, staged_level, staged_bay]
    rintro (same | empty)
    · exact moved same
    · exact present empty
  rw [State.rezone, exec_managed_loud (m := .tableWrite) rfl hs.toHears (by simp) (mgmtForm_tableWrite rfl) rfl,
    serveManagement_tableWrite (s := s.heard) hs.manager, serveTableWrite_entry (by rw [hb]; exact b.isLt),
    writeEntry_assignment hb hc (zoneOf_code z) (by rw [written, staged_bay, cls, zone]), written, staged_placeReply]
  rfl

end Sys2Proof.Machine
end

section
/-! PROOFS. Rises that a bay on an idle bus meets: nothing, an adopted operation, or its exchange (R110 to R115). -/

namespace Sys2Proof.Machine

set_option Elab.async false

theorem preemptHead_none {u : State} {b : Bay} {op : ProtOp} (h : u.head b = none) : preemptHead b op u = u := by
  unfold preemptHead
  rw [h]

/-- An action that places nothing: R112 names nothing, or the slot holds as high a level (R111, R113). -/
theorem applyAction_idle {u : State} {b : Bay} {a : Action} {l : Level}
    (h : (∃ k, a.kind = some k ∧ protEntry k (u.bay b).state = .none) ∨ ∃ op, (u.bay b).slot = some op ∧ l.val ≤ op.level.val) :
    applyAction b a l u = u := by
  unfold applyAction
  rcases h with ⟨k, kind, unnamed⟩ | ⟨op, slot, low⟩
  · rw [kind]
    exact if_pos unnamed
  · cases a.kind with
    | none => rfl
    | some k =>
      dsimp only
      rw [slot]
      dsimp only
      rw [if_pos low, ite_self]

section Staged

variable {s : State} {b : Bay} {w : Scene}

/-- A rise that places nothing moves the sweep level alone (R110). -/
theorem staged_visit_unplaced {o l : Level} (level : s.prot.levels.of w.bay.zone = l) (rises : o.val < l.val) (empty : w.bay.queue = [])
    (h : s.prot.action l = .none ∨ l.val ≤ w.bay.sweepLevel.val
      ∨ (∃ k, (s.prot.action l).kind = some k ∧ protEntry k w.bay.state = .none) ∨ ∃ op, w.bay.slot = some op ∧ l.val ≤ op.level.val) :
    visitSweep true b o (s.staged b w) = s.staged b { w with bay := { w.bay with
      sweepLevel := if s.prot.action l = .none then minLevel w.bay.sweepLevel l else l } } := by
  have noHead (v : Scene) (hv : v.bay.queue = []) : forbidAdmitting b (s.staged b v) = s.staged b v :=
    forbidAdmitting_none (head_none (by rw [staged_bay]; exact hv))
  by_cases sweeps : s.prot.action l ≠ .none ∧ (minLevel w.bay.sweepLevel l).val < l.val
  · have high : ¬ l.val ≤ w.bay.sweepLevel.val := fun high => by
      have below := sweeps.2
      unfold minLevel at below
      split at below
      · omega
      · omega
    have idle := (h.resolve_left sweeps.1).resolve_left high
    rw [staged_visitSweep_rises level rises sweeps.1 sweeps.2, applyAction_idle (by rw [staged_bay]; exact idle), noHead _ (by exact empty),
      if_neg sweeps.1]
  · have still : minLevel w.bay.sweepLevel l = if s.prot.action l = .none then minLevel w.bay.sweepLevel l else l := by
      by_cases none : s.prot.action l = .none
      · rw [if_pos none]
      · rw [if_neg none]
        have high : ¬ (minLevel w.bay.sweepLevel l).val < l.val := fun k => sweeps ⟨none, k⟩
        unfold minLevel at high ⊢
        split
        · rfl
        · next low =>
          rw [if_neg low] at high
          exact Fin.ext (by omega)
    rw [staged_visitSweep_stays level (fun k => sweeps k.2), if_pos rises, noHead _ (by exact empty), ← still]

/-! ### An operation settled where nothing stands for the bay (R112, R113) -/

theorem staged_setSlot (op : Option ProtOp) : setSlot b op (s.staged b w) = s.staged b { w with bay := { w.bay with slot := op } } :=
  staged_updBay _

end Staged

/-- Nothing stands in the queues or in the bay's waiting place, whatever is current. -/
structure State.Clear (s : State) (b : Bay) : Prop where
  urgent : s.bus.urgent = []
  normal : s.bus.normal = []
  waiting : (s.bay b).waiting = []

section Clear

variable {s : State} {b : Bay} (h : s.Clear b)

include h

theorem standing_clear (p : Exchange → Bool) : s.standing b p = none := by
  simp [State.standing, h.urgent, h.normal, h.waiting]

theorem takeOut_clear (p : Exchange → Bool) : takeOut b p s = s := by
  unfold takeOut
  dsimp only
  rw [updBus_self (s := s), updBay_self (s := s), releaseWaiting_none b s h.waiting]
  · rw [h.waiting, List.filter_nil, ← h.waiting]
  · rw [h.normal, h.urgent, List.filter_nil]
    exact congrArg₂ (fun u n => ({ s.bus with urgent := u, normal := n } : BusController)) h.urgent.symm h.normal.symm

theorem leaveBaySet_clear : leaveBaySet b s = s := by
  unfold leaveBaySet
  rw [updBus_self (s := s), releaseWaiting_none b s h.waiting]
  rw [h.urgent, List.map_nil, List.filter_nil, ← h.urgent]

theorem dropProtective_clear : dropProtective b s = s := by rw [dropProtective, takeOut_clear h, leaveBaySet_clear h]

theorem headExchange_clear : s.headExchange b = none := standing_clear h _

theorem protectiveStanding_clear (k : ExKind) : s.protectiveStanding b k = false := by
  simp [State.protectiveStanding, standing_clear h, h.urgent]

theorem yieldQuery_clear : yieldQuery b s = s := by
  unfold yieldQuery updWaiting
  dsimp only
  rw [updBus_self (s := s), updBay_self (s := s)]
  · rw [h.normal, List.filter_nil, List.nil_append]
  · rw [h.normal, List.filter_nil, ← h.normal]

theorem queuedFor_clear : s.queuedFor b = false := by simp [State.queuedFor, h.urgent, h.normal]

/-- A protective exchange is placed at the Urgent tail, unless the current exchange is the bay's and serves no operation (R113, R137). -/
theorem placeUrgent_clear (k : ExKind)
    (apart : ∀ c, s.bus.current = some c → c.ex.individual b = false ∨ (s.currentProtective b).isSome = true) :
    placeUrgent b k s = enqueue (s.exchangeFor b k .protective []) s := by
  unfold placeUrgent
  rw [yieldQuery_clear h]
  dsimp only
  rw [queuedFor_clear h, if_neg Bool.false_ne_true]
  cases hc : s.bus.current with
  | none => rfl
  | some c => exact if_pos (apart c hc)

/-- Behind the bay's own QUERY or PASS it waits, and the current exchange is cut short (R136, R137). -/
theorem placeUrgent_behind {c : Current} (k : ExKind) (current : s.bus.current = some c) (own : c.ex.individual b = true)
    (plain : s.currentProtective b = none) (heeded : c.disregarded = false) (gap : c.resendAt = none) :
    placeUrgent b k s = updCurrent (fun c => { c with cutShort := true })
      (updWaiting b (s.exchangeFor b k .protective [] :: ·) s) := by
  unfold placeUrgent
  rw [yieldQuery_clear h]
  dsimp only
  rw [queuedFor_clear h, if_neg Bool.false_ne_true, current]
  dsimp only
  rw [if_neg (by simp [own, plain]), cutShortCurrent]
  have current' : (updWaiting b (s.exchangeFor b k .protective [] :: ·) s).bus.current = some c := current
  rw [current']
  dsimp only
  rw [heeded, gap, if_neg Bool.false_ne_true, if_neg (by decide)]

end Clear

section Staged

variable {s : State} {b : Bay} {w : Scene}

/-- The same of a scene. -/
structure Scene.Clear (w : Scene) : Prop where
  urgent : w.bus.urgent = []
  normal : w.bus.normal = []
  waiting : w.bay.waiting = []

theorem Scene.Clear.staged (h : w.Clear) : (s.staged b w).Clear b :=
  ⟨h.urgent, h.normal, by rw [staged_bay]; exact h.waiting⟩

/-- An operation that adopts what runs (R112, R115). -/
theorem staged_settle_adopt {op : ProtOp} (clear : w.Clear) (slot : w.bay.slot = some op)
    (entry : protEntry op.kind w.bay.state = .adopt) :
    settleOperation b (s.staged b w) = s.staged b { w with bay := { w.bay with
      slot := some { op with started := true, stopPhase := decide (w.bay.state = .stopping) } } } := by
  unfold settleOperation
  rw [staged_bay, slot]
  dsimp only
  rw [entry]
  dsimp only
  rw [dropProtective_clear clear.staged, staged_setSlot]

/-- The scene in which the operation's exchange is to be placed. -/
def Scene.settling (w : Scene) (op : ProtOp) (x : ExKind) : Scene :=
  { w with bay := { w.bay with slot := some { op with started := false, stopPhase := decide (x = .stop) } } }

/-- An operation that places its exchange, where no protective exchange of the bay is current; a QUICKPARK is left to the third step
(R106, R112). -/
theorem staged_settle_places {op : ProtOp} {x : ExKind} (clear : w.Clear) (slot : w.bay.slot = some op)
    (entry : protEntry op.kind w.bay.state = .exchange x) (plain : (s.staged b w).currentProtective b = none) :
    settleOperation b (s.staged b w) =
      if x = .quickPark then s.staged b (w.settling op x) else placeUrgent b x (s.staged b (w.settling op x)) := by
  have clear' : (s.staged b (w.settling op x)).Clear b := Scene.Clear.staged ⟨clear.urgent, clear.normal, clear.waiting⟩
  have plain' : (s.staged b (w.settling op x)).currentProtective b = none := plain
  unfold settleOperation
  rw [staged_bay, slot]
  dsimp only
  rw [entry]
  dsimp only
  rw [staged_setSlot, show ({ w with bay := { w.bay with slot := some { op with started := false, stopPhase := decide (x = .stop) } } } : Scene)
    = w.settling op x from rfl, protectiveStanding_clear clear', if_neg Bool.false_ne_true, plain']
  dsimp only
  rw [dropProtective_clear clear']

/-- The third step places the QUICKPARK of an operation that calls for one, and nothing where the second has placed another exchange
(R106). -/
theorem staged_settled_parks {op : ProtOp} {x : ExKind} {v : Scene} (clear : w.Clear) (slot : w.bay.slot = some op) (waits : op.started = false)
    (entry : protEntry op.kind w.bay.state = .exchange x) (place : placeUrgent b x (s.staged b w) = s.staged b v)
    (kept : v.bay.slot = w.bay.slot ∧ v.bay.state = w.bay.state) :
    ∃ u, (if x = .quickPark then s.staged b w else placeUrgent b x (s.staged b w)) = s.staged b u ∧ (u = w ∨ u = v)
      ∧ placePark b (s.staged b u) = s.staged b v := by
  by_cases park : x = .quickPark
  · subst park
    refine ⟨w, if_pos rfl, .inl rfl, ?_⟩
    have calls : (s.staged b w).callsForPark b = true := by
      rw [State.callsForPark, protectiveStanding_clear clear.staged, State.parkUnstarted, staged_bay, slot]
      simp [entry, waits]
    rw [placePark, if_pos calls, place]
  · refine ⟨v, (if_neg park).trans place, .inr rfl, if_neg ?_⟩
    rw [State.callsForPark, State.parkUnstarted, staged_bay, kept.1, kept.2, slot]
    simp [entry, park]

/-- The operation that an action places or strengthens (R111, R113). -/
def BayRecord.Operates (e : BayRecord) (k : ProtKind) (l : Level) (op : ProtOp) : Prop :=
  (e.slot = none ∧ op = { kind := k, level := l, started := false, stopPhase := false, fromLoaded := e.state.loadedOrLoading })
    ∨ ∃ old, e.slot = some old ∧ old.level.val < l.val ∧ op = { old with kind := k.stronger old.kind, level := l, started := false }

/-- An action that places or strengthens an operation settles it, once the head has been met (R42, R111, R113). -/
theorem staged_applyAction {a : Action} {k : ProtKind} {l : Level} {op : ProtOp} {v : Scene} (kind : a.kind = some k)
    (named : protEntry k w.bay.state ≠ .none) (operates : w.bay.Operates k l op)
    (met : ∀ op' : ProtOp, op'.kind = op.kind → op'.level = l →
      preemptHead b op' (s.staged b { w with bay := { w.bay with slot := some op' } })
        = s.staged b { v with bay := { v.bay with slot := some op' } })
    (state : v.bay.state = w.bay.state) :
    applyAction b a l (s.staged b w) = settleOperation b (s.staged b { v with bay := { v.bay with slot := some op } }) := by
  unfold applyAction
  rw [kind]
  dsimp only
  rw [if_neg (by rw [staged_bay]; exact named), staged_bay]
  rcases operates with ⟨slot, rfl⟩ | ⟨old, slot, low, rfl⟩
  · rw [slot]
    dsimp only
    rw [staged_setSlot, met { kind := k, level := l, started := false, stopPhase := false, fromLoaded := false } rfl rfl, staged_bay,
      staged_setSlot]
    dsimp only
    rw [state]
  · rw [slot]
    dsimp only
    rw [if_neg (Nat.not_le.mpr low), staged_setSlot, met _ rfl rfl]

/-- A head that neither the second pass nor the sweep's last step moves (R36, R117). -/
def BayRecord.Steady (e : BayRecord) : Prop := e.queue = [] ∨ ∃ r more, e.queue = r :: more ∧ (r.phase = .issued ∨ r.phase = .checking)

theorem Steady.forbidAdmitting (h : w.bay.Steady) : forbidAdmitting b (s.staged b w) = s.staged b w := by
  rcases h with empty | ⟨r, more, hq, phase⟩
  · exact forbidAdmitting_none (head_none (by rw [staged_bay]; exact empty))
  · exact forbidAdmitting_past (r := r) (more := more) (by rw [staged_bay]; exact hq) (by rcases phase with p | p <;> rw [p] <;> decide)

theorem Steady.undeferred {e : BayRecord} (h : e.Steady) : ∀ r ∈ e.queue.head?, r.phase ≠ .deferred := by
  rcases h with empty | ⟨r, more, hq, phase⟩
  · rw [empty]
    rintro r ⟨⟩
  · rw [hq]
    rintro _ ⟨⟩
    rcases phase with p | p <;> rw [p] <;> decide

theorem minLevel_below {sl l : Level} (h : sl.val < l.val) : (minLevel sl l).val < l.val := by
  unfold minLevel
  rw [if_neg (by omega)]
  exact h

/-- A rise that places or strengthens an operation: `v` is the scene once the head has been met, `x` the one in which the operation
is settled, `y` the one with its exchange placed (R106, R110 to R113). -/
theorem staged_rise_places {o l : Level} {k : ProtKind} {op : ProtOp} {e : ExKind} {v x y : Scene}
    (calm : ∀ c, c ≠ b → (s.bay c).slot = none) (level : s.prot.levels.of w.bay.zone = l) (rises : o.val < l.val)
    (action : (s.prot.action l).kind = some k) (below : w.bay.sweepLevel.val < l.val) (named : protEntry k w.bay.state ≠ .none)
    (operates : w.bay.Operates k l op)
    (met : ∀ op' : ProtOp, op'.kind = op.kind → op'.level = l →
      preemptHead b op' (s.staged b { w with bay := { w.bay with sweepLevel := l, slot := some op' } })
        = s.staged b { v with bay := { v.bay with slot := some op' } })
    (state : v.bay.state = w.bay.state)
    (settled : settleOperation b (s.staged b { v with bay := { v.bay with slot := some op } })
      = if e = .quickPark then s.staged b x else placeUrgent b e (s.staged b x))
    (clear : x.Clear) (slot : x.bay.slot = some { op with started := false, stopPhase := decide (e = .stop) })
    (entry : protEntry op.kind x.bay.state = .exchange e) (place : placeUrgent b e (s.staged b x) = s.staged b y)
    (kept : y.bay.slot = x.bay.slot ∧ y.bay.state = x.bay.state) (steady : x.bay.Steady ∧ y.bay.Steady)
    (admission : y.adm.queue = []) (intent : y.bay.restoreIntent = false) :
    carryOut true [(b, o)] (s.staged b w) = s.staged b y := by
  obtain ⟨u, found, which, parked⟩ := staged_settled_parks clear slot rfl entry place kept
  have named' : s.prot.action l ≠ .none := by
    intro none
    rw [none] at action
    cases action
  have steady' : u.bay.Steady := by
    rcases which with rfl | rfl
    · exact steady.1
    · exact steady.2
  have visited : visitSweep true b o (s.staged b w) = s.staged b u := by
    rw [staged_visitSweep_rises level rises named' (minLevel_below below),
      staged_applyAction action (by exact named) (by exact operates) (by exact met) (by exact state), settled, found,
      Steady.forbidAdmitting steady']
  exact staged_carryOut calm visited parked admission (Steady.undeferred steady.2) intent

/-- A rise that adopts what runs (R112). -/
theorem staged_rise_adopts {o l : Level} {k : ProtKind} {op : ProtOp} (calm : ∀ c, c ≠ b → (s.bay c).slot = none)
    (level : s.prot.levels.of w.bay.zone = l) (rises : o.val < l.val) (action : (s.prot.action l).kind = some k)
    (below : w.bay.sweepLevel.val < l.val) (named : protEntry k w.bay.state ≠ .none) (operates : w.bay.Operates k l op)
    (empty : w.bay.queue = []) (clear : w.Clear) (entry : protEntry op.kind w.bay.state = .adopt)
    (admission : w.adm.queue = []) (intent : w.bay.restoreIntent = false) :
    carryOut true [(b, o)] (s.staged b w) = s.staged b { w with bay := { w.bay with
      sweepLevel := l, slot := some { op with started := true, stopPhase := decide (w.bay.state = .stopping) } } } := by
  have named' : s.prot.action l ≠ .none := by
    intro none
    rw [none] at action
    cases action
  have visited : visitSweep true b o (s.staged b w) = s.staged b { w with bay := { w.bay with
      sweepLevel := l, slot := some { op with started := true, stopPhase := decide (w.bay.state = .stopping) } } } := by
    rw [staged_visitSweep_rises level rises named' (minLevel_below below),
      staged_applyAction (op := op) (v := { w with bay := { w.bay with sweepLevel := l } }) action (by exact named) (by exact operates)
        (fun op' _ _ => preemptHead_none (head_none (by rw [staged_bay]; exact empty))) rfl,
      staged_settle_adopt (by exact ⟨clear.urgent, clear.normal, clear.waiting⟩) rfl (by exact entry),
      Steady.forbidAdmitting (by exact .inl empty)]
  refine staged_carryOut calm visited (if_neg ?_) admission (Steady.undeferred (.inl empty)) intent
  simp [State.callsForPark, State.parkUnstarted]

/-- A protective exchange starts, and its operation with it (R10, R115). -/
theorem staged_start_protective {x : Exchange} {st : BayState} {op : ProtOp} (slot : w.bay.slot = some op) (head : w.bay.Unchecked)
    (target : x.target = .bay b) (owner : x.owner = .protective) (changing : x.kind.stateChanging = true)
    (row : startState x.kind w.bay.state = some st) (booked : w.bay.reservation = (w.adm.profiles[w.bay.cls]).reservation w.bay.state) :
    startTaken x (s.staged b w) = s.staged b ({ w with
      bay := { w.bay with slot := some { op with started := true } } }.starting b x st s.now (s.after 50)) := by
  rw [startTaken_bay target changing (by rw [staged_bay]; exact row)]
  have started := staged_starting (s := s) (b := b) (w := w) (x := x) (st := st) booked
  unfold startBay
  dsimp only
  rw [started, owner]
  dsimp only
  rw [markStarted, staged_bay, staged_setSlot,
    show (w.starting b x st s.now (s.after 50)).bay.slot = some op from slot]
  exact Unchecked.recheckHead head

/-- An idle bus places a protective exchange at the Urgent tail (R126). -/
theorem staged_placeUrgent (idle : w.Idle) (k : ExKind) : placeUrgent b k (s.staged b w)
    = s.staged b { w with bus := { w.bus with urgent := w.bus.urgent ++ [w.exchange b k .protective []] } } := by
  rw [placeUrgent_unbusied idle.unbusied, staged_exchangeFor]
  rfl

end Staged

theorem callsForPark_running {s : State} {b : Bay} {v : Scene} (h : ∀ op, v.bay.slot = some op → op.started = true) :
    (s.staged b v).callsForPark b = false := by
  unfold State.callsForPark State.parkUnstarted
  rw [staged_bay]
  cases hs : v.bay.slot with
  | none => rfl
  | some op =>
    dsimp only
    rw [h op hs]
    rfl

theorem changing_of_protEntry {k : ProtKind} {st : BayState} {x : ExKind} (h : protEntry k st = .exchange x) :
    x = .unload ∨ x = .quickPark ∨ x = .stop := by
  cases k <;> cases st <;> cases h <;> simp

/-- The zone moved on a part whose bus rests. -/
theorem rezonedScene_idle {s : State} {b : Bay} (calm : s.CalmBut b) (z : Zone) :
    s.rezonedScene b z = { s.atRest b [] with bay := { s.bay b with zone := z } } := by
  unfold State.rezonedScene
  rw [Resting.bus calm.toResting []]
  rfl

theorem exec_rezone_idle {s : State} {h : Header} {src : Source} {b : Bay} {z : Zone} {x : Scene} (hs : s.HearsManager h src)
    (calm : s.CalmBut b) (present : (s.bay b).state ≠ .empty) (moved : s.prot.levels.of z ≠ s.level b)
    (carried : carryOut true [(b, s.level b)] (s.heard.staged b { s.atRest b [] with bay := { s.bay b with zone := z } })
      = s.heard.staged b x) (cls : x.bay.cls = (s.bay b).cls) (zone : x.bay.zone = z) :
    exec (s.rezone h b z) s =
      .next (conclude s.heard (s.heard.staged b { x with replies := x.replies ++ [s.rezoned h b z] })) :=
  exec_rezone hs present moved (by rw [rezonedScene_idle calm z, carried]) cls zone

/-- The bay's record when a sweep at level `l` has placed or strengthened `op` and its exchange `x` has started into `st`. -/
def BayRecord.swept (e : BayRecord) (p : Profile) (z : Zone) (l : Level) (q : List Request) (op : ProtOp) (x : ExKind) (st : BayState) :
    BayRecord :=
  { e with
    zone := z, sweepLevel := l, queue := q, state := st, reservation := p.reservation st, deadline := none
    slot := some { op with started := true, stopPhase := decide (x = .stop) } }

/-- The bay as the sweep finds its head. -/
def State.visitedScene (s : State) (b : Bay) (z : Zone) (l : Level) (q : List Request) (rs : List Reply) (op : ProtOp) : Scene :=
  { s.atRest b [] with bay := { s.bay b with zone := z, sweepLevel := l, queue := q, slot := some op }, replies := rs }

/-- A rise by a zone move whose operation sends its exchange in the event; `q` is what the meeting with the head leaves of the queue,
`rs` the replies it gives (R42, R105, R110 to R115, R128). -/
theorem exec_rise_starts {s : State} {h : Header} {src : Source} {b : Bay} {z : Zone} {l : Level} {k : ProtKind} {x : ExKind}
    {st : BayState} {op : ProtOp} {q : List Request} {rs : List Reply} (hs : s.HearsManager h src) (calm : s.CalmBut b)
    (sweeps : s.Sweeps b z l k) (named : protEntry k (s.bay b).state ≠ .none) (operates : (s.bay b).Operates k l op)
    (met : ∀ op' : ProtOp, op'.kind = op.kind → op'.level = l →
      preemptHead b op' (s.heard.staged b (s.visitedScene b z l (s.bay b).queue [] op'))
        = s.heard.staged b (s.visitedScene b z l q rs op'))
    (head : ({ s.bay b with queue := q } : BayRecord).Unchecked) (intent : (s.bay b).restoreIntent = false)
    (entry : protEntry op.kind (s.bay b).state = .exchange x) (row : startState x (s.bay b).state = some st) :
    Answers (exec (s.rezone h b z) s) fun t =>
      t.bay b = (s.bay b).swept (s.profileOf b) z l q op x st
        ∧ t.adm = s.adm.moved (s.bay b).reservation ((s.profileOf b).reservation st)
        ∧ t.bus = s.firstAttempt (s.exchangeFor b x .protective []) ∧ t.ffr = s.ffr ∧ s.KeepsBut t b
        ∧ s.heard.Tells t (rs ++ [s.rezoned h b z]) (s.bayNews b st ++ s.budgetNews t.adm.committed) := by
  have rest := calm.toResting
  have moved : s.prot.levels.of z ≠ s.level b := fun same => by
    have rises := sweeps.rises
    rw [sweeps.level, same] at rises
    exact Nat.lt_irrefl _ rises
  have steady : ({ s.bay b with queue := q } : BayRecord).Steady := head.imp id fun ⟨r, more, hq, phase⟩ => ⟨r, more, hq, .inl phase⟩
  have idle : (s.visitedScene b z l q rs { op with started := false, stopPhase := decide (x = .stop) }).Idle :=
    ⟨⟨[], rfl⟩, rest.waiting b⟩
  have changing : x.stateChanging = true := by
    rcases changing_of_protEntry entry with rfl | rfl | rfl <;> rfl
  have carried := staged_rise_places (s := s.heard) (b := b) (o := s.level b) (e := x) (op := op)
    (w := { s.atRest b [] with bay := { s.bay b with zone := z } })
    (v := s.visitedScene b z l q rs op)
    (x := s.visitedScene b z l q rs { op with started := false, stopPhase := decide (x = .stop) })
    calm.slot sweeps.level.symm sweeps.rises sweeps.action sweeps.sweep named operates met rfl
    (staged_settle_places (op := op) ⟨rfl, rfl, rest.waiting b⟩ rfl entry
      (currentProtective_unbusied (Scene.Idle.unbusied ⟨⟨[], rfl⟩, rest.waiting b⟩))) ⟨rfl, rfl, rest.waiting b⟩ rfl entry
    (staged_placeUrgent idle x) ⟨rfl, rfl⟩ ⟨steady, steady⟩ rest.admission intent
  rw [exec_rezone_idle hs calm sweeps.state moved carried rfl rfl]
  refine ⟨_, congrArg Host.Outcome.next (staged_starts_urgent (s := s.heard) (b := b) s.heard rest.survey rest.waiting (rest.waiting b)
    rfl rfl rfl (staged_start_protective rfl head rfl rfl changing row (calm.balanced.1 b)) rfl (rest.waiting b) rest.admission), ?_⟩
  generalize ht : close _ = t
  obtain ⟨bay, adm, bus, ffr, keeps, tells⟩ := moved_ends ht rfl rfl
  refine ⟨bay.trans ?_, adm, bus.trans ?_, ffr, keeps, tells⟩
  · rcases changing_of_protEntry entry with rfl | rfl | rfl <;> rfl
  · rcases changing_of_protEntry entry with rfl | rfl | rfl <;> rfl

end Sys2Proof.Machine

namespace Sys2Proof.Proofs

open Sys2Proof.Machine

/-- Settles O48: the visit that places nothing, the operation that adopts, and the exchange that starts. -/
theorem risesSweepTheBay : Obligations.RisesSweepTheBay := by
  intro s h src b z l hs calm empty intent present running level rises
  have rest := calm.toResting
  have moved : s.prot.levels.of z ≠ s.level b := fun same => by
    rw [level, same] at rises
    exact Nat.lt_irrefl _ rises
  refine ⟨fun unplaced => ?_, fun k op sweeps named operates => ⟨fun adopt => ?_, fun x st entry row => ?_⟩⟩
  · have visited := staged_visit_unplaced (s := s.heard) (b := b) (o := s.level b) (w := { s.atRest b [] with
      bay := { s.bay b with zone := z } }) level.symm rises empty unplaced
    have quiet := callsForPark_running (s := s.heard) (b := b) (v := { s.atRest b [] with
      bay := { s.bay b with
        zone := z, sweepLevel := if s.prot.action l = .none then minLevel (s.bay b).sweepLevel l else l } }) running
    have carried := staged_carryOut (s := s.heard) calm.slot visited (if_neg (Bool.eq_false_iff.mp quiet)) rest.admission
      (Steady.undeferred (.inl empty)) intent
    rw [exec_rezone_idle hs calm present moved carried rfl rfl]
    refine ⟨_, congrArg Host.Outcome.next (staged_concludes (s := s.heard) (b := b) s.heard rest.survey rest.waiting rfl rfl
      (rest.waiting b) (.inl rest.admission)), ?_⟩
    generalize ht : close _ = t
    obtain ⟨bay, adm, bus, ffr, keeps, tells⟩ := unmoved_ends (q := s.adm.queue) ht rest.flag rfl rfl
    exact ⟨bay, adm, bus, ffr, keeps, tells⟩
  · have operates' : (s.bay b).Operates k l { op with started := false } := by
      rcases operates with ⟨slot, rfl⟩ | ⟨old, slot, low, rfl⟩
      · exact .inl ⟨slot, rfl⟩
      · exact .inr ⟨old, slot, low, rfl⟩
    have on : op = { op with started := true } := by
      rcases operates with ⟨_, rfl⟩ | ⟨_, _, _, rfl⟩ <;> rfl
    have carried := staged_rise_adopts (s := s.heard) (b := b) (w := { s.atRest b [] with bay := { s.bay b with zone := z } }) calm.slot
      sweeps.level.symm sweeps.rises sweeps.action sweeps.sweep named operates' empty ⟨rfl, rfl, rest.waiting b⟩ adopt rest.admission
      intent
    rw [exec_rezone_idle hs calm present moved carried rfl rfl]
    refine ⟨_, congrArg Host.Outcome.next (staged_concludes (s := s.heard) (b := b) s.heard rest.survey rest.waiting rfl rfl
      (rest.waiting b) (.inl rest.admission)), ?_⟩
    generalize ht : close _ = t
    obtain ⟨bay, adm, bus, ffr, keeps, tells⟩ := unmoved_ends (q := s.adm.queue) ht rest.flag rfl rfl
    refine ⟨?_, adm, bus, ffr, keeps, tells⟩
    rw [on]
    exact bay
  · have operates' : (s.bay b).Operates k l { op with started := false } := by
      rcases operates with ⟨slot, rfl⟩ | ⟨old, slot, low, rfl⟩
      · exact .inl ⟨slot, rfl⟩
      · exact .inr ⟨old, slot, low, rfl⟩
    have on : op = { op with started := true } := by
      rcases operates with ⟨_, rfl⟩ | ⟨_, _, _, rfl⟩ <;> rfl
    rw [on]
    obtain ⟨t, he, bay, more⟩ := exec_rise_starts (q := []) (rs := []) hs calm sweeps named operates'
      (fun op' _ _ => by rw [empty]; exact preemptHead_none (head_none (by rw [staged_bay]; rfl))) (.inl rfl) intent entry row
    refine ⟨t, he, bay.trans ?_, more⟩
    unfold BayRecord.swept
    rw [← empty]

end Sys2Proof.Proofs
end

section
/-! PROOFS. Rises that a bay meets whose head is Issued or whose bus is taken (R42, R113, R136, R137). -/

namespace Sys2Proof.Machine

set_option Elab.async false

/-! ### The end of an event on a taken bus -/

/-- Nothing moves up and nothing starts while the bus is taken, where what waits, waits behind the current exchange (R128, R136). -/
theorem busChoice_taken {s : State} {c : Current} (current : s.bus.current = some c)
    (behind : ∀ d, (s.bay d).waiting = [] ∨ c.ex.serves d = true) : busChoice s = s := by
  have kept (d : Bay) : releaseWaiting d s = s := by
    rcases behind d with none | serves
    · exact releaseWaiting_none d s none
    · have taken : s.currentFor d = true := by
        unfold State.currentFor
        rw [current]
        exact serves
      unfold releaseWaiting
      cases (s.bay d).waiting with
      | nil => rfl
      | cons x rest => exact if_pos (by rw [taken, Bool.or_true])
  unfold busChoice
  rw [foldl_id allBays fun d _ => kept d]
  refine takeLoop_busy _ _ ?_
  unfold State.mayTake
  rw [current]
  exact Bool.and_false _

theorem conclude_taken {s : State} {c : Current} (s0 : State) (survey : s.survey.running = false) (current : s.bus.current = some c)
    (behind : ∀ d, (s.bay d).waiting = [] ∨ c.ex.serves d = true) (admission : s.adm.queue = []) :
    conclude s0 s = close (evaluateBudget s) := by
  have still : busChoice (evaluateBudget s) = evaluateBudget s :=
    busChoice_taken (by rw [evaluateBudget_eq]; exact current) fun d => by rw [evaluateBudget_bay]; exact behind d
  unfold conclude
  rw [completeSurvey_off s survey, busChoice_taken current behind, settleBudget_of_empty s0 s admission, still,
    evaluateBudget_of_flag _ (evaluateBudget_flag s)]

section Staged

variable {s : State} {b : Bay} {w : Scene}

/-! ### The head that the sweep meets (R42) -/

/-- A started LOAD, or a started SPIN-UP under a Stop. -/
def Request.preempted (r : Request) (k : ProtKind) : Prop := r.kind = .load ∨ r.kind = .spinUp ∧ k = .stop

section Issued

variable {r : Request} {op : ProtOp} (issued : r.phase = .issued)

include issued

/-- A head whose exchange has started runs on, unless the operation preempts it. -/
theorem preemptHead_runs {u : State} {more : List Request} (hq : (u.bay b).queue = r :: more) (started : u.headExchange b = none)
    (spared : ¬ r.preempted op.kind) : preemptHead b op u = u := by
  unfold preemptHead
  rw [head_cons hq]
  dsimp only
  rw [issued]
  dsimp only
  rw [started]
  exact (if_neg (by decide)).trans (if_neg spared)

/-- A started LOAD, or a started SPIN-UP under a Stop, completes Preempted with the level. -/
theorem staged_preempts {src : Source} {tag : Byte} (idle : w.Idle) (hq : w.bay.queue = [r]) (origin : r.origin = .upstream src tag none)
    (intent : w.bay.restoreIntent = false) (taken : r.preempted op.kind) :
    preemptHead b op (s.staged b w) = s.staged b { w with
      bay := { w.bay with queue := [] }
      replies := w.replies ++ [{ tag := tag, completion := { code := .preempted, secondary := op.level.val }, payload := []
                                 echo := none }] } := by
  unfold preemptHead
  rw [head_cons (r := r) (more := []) (by rw [staged_bay]; exact hq)]
  dsimp only
  rw [issued]
  dsimp only
  rw [headExchange_unbusied idle.unbusied]
  exact (if_neg (by decide)).trans ((if_pos taken).trans (staged_completesLast hq origin intent _ _))

/-- A head whose QUERY or PASS has not started returns to Checking without it. -/
theorem staged_preempt_withdraws {x : Exchange} {more : List Request} (hq : w.bay.queue = r :: more) (hu : w.bus.urgent = [])
    (hn : w.bus.normal = [x]) (hw : w.bay.waiting = []) (target : x.target = .bay b) (owner : x.owner = .head)
    (kind : x.kind = .query ∨ x.kind = .pass) :
    preemptHead b op (s.staged b w) = s.staged b { w with
      bay := { w.bay with queue := { r with phase := .checking } :: more }, bus := { w.bus with normal := [] } } := by
  obtain ⟨found, taken⟩ := staged_headExchange (s := s) hu hn hw target owner
  have unbooked : ¬ (x.kind = .spin ∨ x.kind = .load) := by rcases kind with k | k <;> rw [k] <;> decide
  unfold preemptHead
  rw [head_cons (r := r) (more := more) (by rw [staged_bay]; exact hq)]
  dsimp only
  rw [issued]
  dsimp only
  rw [found, withdrawHead, found]
  dsimp only
  rw [taken, undoAdmission, if_neg unbooked]
  exact (if_pos rfl).trans (staged_setPhase (w := { w with bus := { w.bus with normal := [] } }) hq .checking)

end Issued

/-! ### The current exchange that the sweep meets (R113) -/

theorem currentProtective_some {u : State} {c : Current} (current : u.bus.current = some c) (target : c.ex.target = .bay b)
    (owner : c.ex.owner = .protective) (heeded : c.disregarded = false) : u.currentProtective b = some c := by
  unfold State.currentProtective
  rw [current]
  simp [Option.filter, Exchange.individual, target, owner, heeded]

theorem currentProtective_apart {u : State} (apart : ∀ c, u.bus.current = some c → c.ex.individual b = false) :
    u.currentProtective b = none := by
  unfold State.currentProtective
  cases hc : u.bus.current with
  | none => rfl
  | some c => simp [Option.filter, apart c hc]

theorem currentProtective_other {u : State} {c : Current} (current : u.bus.current = some c) (foreign : c.ex.owner ≠ .protective) :
    u.currentProtective b = none := by
  unfold State.currentProtective
  rw [current]
  simp [Option.filter, foreign]

/-- An operation whose current exchange is of another kind: that is replaced, and the operation's own is placed (R113). -/
theorem staged_settle_replaces {op : ProtOp} {x : ExKind} {c : Current} (clear : w.Clear) (slot : w.bay.slot = some op)
    (entry : protEntry op.kind w.bay.state = .exchange x) (current : w.bus.current = some c) (target : c.ex.target = .bay b)
    (owner : c.ex.owner = .protective) (heeded : c.disregarded = false) (other : c.ex.kind ≠ x) (gap : c.resendAt = none) {v : Scene}
    (hv : v = { w.settling op x with bus := { w.bus with current := some { c with replaced := true } } }) :
    settleOperation b (s.staged b w) =
      if x = .quickPark then s.staged b v else placeUrgent b x (s.staged b v) := by
  have clear' : (s.staged b (w.settling op x)).Clear b := Scene.Clear.staged ⟨clear.urgent, clear.normal, clear.waiting⟩
  have found : (s.staged b (w.settling op x)).currentProtective b = some c := currentProtective_some current target owner heeded
  have replaced : replaceCurrent b x (s.staged b (w.settling op x)) = s.staged b v := by
    unfold replaceCurrent
    rw [found]
    dsimp only
    rw [if_neg other, gap, if_neg (by decide), updCurrent, staged_updBus, hv]
    unfold Scene.settling
    dsimp only
    rw [current]
    rfl
  unfold settleOperation
  rw [staged_bay, slot]
  dsimp only
  rw [entry]
  dsimp only
  rw [staged_setSlot, show ({ w with bay := { w.bay with slot := some { op with started := false, stopPhase := decide (x = .stop) } } } : Scene)
    = w.settling op x from rfl, protectiveStanding_clear clear', if_neg Bool.false_ne_true, found]
  dsimp only
  rw [if_neg other, dropProtective_clear clear', replaced]

/-- The Urgent tail takes the exchange, where the current one is not the bay's or serves its operation (R113, R126). -/
theorem staged_placeUrgent_clear (clear : w.Clear) (k : ExKind)
    (apart : ∀ c, w.bus.current = some c → c.ex.individual b = false ∨ ((s.staged b w).currentProtective b).isSome = true) :
    placeUrgent b k (s.staged b w)
      = s.staged b { w with bus := { w.bus with urgent := w.bus.urgent ++ [w.exchange b k .protective []] } } := by
  rw [placeUrgent_clear clear.staged k apart, staged_exchangeFor]
  rfl

/-- Behind the bay's own QUERY or PASS, which is cut short, the waiting place takes it (R136, R137). -/
theorem staged_placeUrgent_behind {c : Current} (clear : w.Clear) (k : ExKind) (current : w.bus.current = some c)
    (target : c.ex.target = .bay b) (owner : c.ex.owner ≠ .protective) (heeded : c.disregarded = false) (gap : c.resendAt = none) :
    placeUrgent b k (s.staged b w) = s.staged b { w with
      bay := { w.bay with waiting := [w.exchange b k .protective []] }
      bus := { w.bus with current := some { c with cutShort := true } } } := by
  have plain : (s.staged b w).currentProtective b = none := currentProtective_other (c := c) current owner
  rw [placeUrgent_behind clear.staged k (c := c) current (by simp [Exchange.individual, target]) plain heeded gap, staged_exchangeFor,
    updWaiting, staged_updBay, updCurrent, staged_updBus]
  dsimp only
  rw [current, clear.waiting]
  rfl

end Staged

/-! ### The whole event (R105) -/

/-- The bay as the sweep finds and leaves it, with what waits there and the bus. -/
def State.metScene (s : State) (b : Bay) (z : Zone) (l : Level) (q : List Request) (op : ProtOp) (wt : List Exchange) (u : BusController) :
    Scene :=
  { s.rezonedScene b z with bay := { s.bay b with zone := z, sweepLevel := l, queue := q, slot := some op, waiting := wt }, bus := u }

/-- A rise by a zone move on a taken bus: `u` is the bus once the head has been met, `v` the one on which the operation is settled, `y`
the one with its exchange placed. -/
theorem exec_rise_taken {s : State} {h : Header} {src : Source} {b : Bay} {z : Zone} {l : Level} {k : ProtKind} {x : ExKind}
    {op : ProtOp} {c c' : Current} {n : List Exchange} {q : List Request} {wt : List Exchange} {u v y : BusController}
    (hs : s.HearsManager h src) (engaged : s.Engaged b c n) (sweeps : s.Sweeps b z l k) (named : protEntry k (s.bay b).state ≠ .none)
    (operates : (s.bay b).Operates k l op)
    (met : ∀ op' : ProtOp, op'.kind = op.kind → op'.level = l →
      preemptHead b op' (s.heard.staged b (s.metScene b z l (s.bay b).queue op' (s.bay b).waiting { s.bus with sent := [] }))
        = s.heard.staged b (s.metScene b z l q op' (s.bay b).waiting u))
    (settled : settleOperation b (s.heard.staged b (s.metScene b z l q op (s.bay b).waiting u))
      = if x = .quickPark then
          s.heard.staged b (s.metScene b z l q { op with started := false, stopPhase := decide (x = .stop) } (s.bay b).waiting v)
        else placeUrgent b x
          (s.heard.staged b (s.metScene b z l q { op with started := false, stopPhase := decide (x = .stop) } (s.bay b).waiting v)))
    (clear : v.urgent = [] ∧ v.normal = []) (entry : protEntry op.kind (s.bay b).state = .exchange x)
    (place : placeUrgent b x
        (s.heard.staged b (s.metScene b z l q { op with started := false, stopPhase := decide (x = .stop) } (s.bay b).waiting v))
      = s.heard.staged b (s.metScene b z l q { op with started := false, stopPhase := decide (x = .stop) } wt y))
    (steady : ({ s.bay b with queue := q } : BayRecord).Steady) (intent : (s.bay b).restoreIntent = false)
    (current : y.current = some c') (behind : wt = [] ∨ c'.ex.serves b = true) :
    Answers (exec (s.rezone h b z) s) fun t =>
      t.bay b = { s.bay b with
          zone := z, sweepLevel := l, queue := q, slot := some { op with started := false, stopPhase := decide (x = .stop) }, waiting := wt }
        ∧ t.bus = y ∧ t.adm = s.adm ∧ t.ffr = s.ffr ∧ s.KeepsBut t b ∧ s.heard.Tells t [s.rezoned h b z] [] := by
  have moved : s.prot.levels.of z ≠ s.level b := fun same => by
    have rises := sweeps.rises
    rw [sweeps.level, same] at rises
    exact Nat.lt_irrefl _ rises
  have carried := staged_rise_places (s := s.heard) (b := b) (o := s.level b) (e := x) (op := op) (w := s.rezonedScene b z)
    (v := s.metScene b z l q op (s.bay b).waiting u)
    (x := s.metScene b z l q { op with started := false, stopPhase := decide (x = .stop) } (s.bay b).waiting v)
    (y := s.metScene b z l q { op with started := false, stopPhase := decide (x = .stop) } wt y)
    engaged.slot sweeps.level.symm sweeps.rises sweeps.action sweeps.sweep named operates met rfl settled
    ⟨clear.1, clear.2, engaged.waiting b⟩ rfl entry place ⟨rfl, rfl⟩ ⟨steady, steady⟩ engaged.admission intent
  rw [exec_rezone hs sweeps.state moved carried rfl rfl]
  refine ⟨_, congrArg Host.Outcome.next (conclude_taken s.heard engaged.survey current (fun d => ?_) engaged.admission), ?_⟩
  · by_cases own : d = b
    · subst own
      rw [staged_bay]
      exact behind
    · rw [staged_other own]
      exact .inl (engaged.waiting d)
  · generalize ht : close _ = t
    obtain ⟨bay, adm, bus, ffr, keeps, tells⟩ := unmoved_ends (q := s.adm.queue) ht engaged.flag rfl rfl
    exact ⟨bay, bus, adm, ffr, keeps, tells⟩

end Sys2Proof.Machine

namespace Sys2Proof.Proofs

open Sys2Proof.Machine

/-- Settles O49: what the operation meets at the head and on the bus, and what it places. -/
theorem sweepsMeetTheHeadAndTheBus : Obligations.SweepsMeetTheHeadAndTheBus := by
  intro s h src b z l k x hs sweeps entry intent
  have named : protEntry k (s.bay b).state ≠ .none := by
    rw [entry]
    exact fun e => by cases e
  have operates (slot : (s.bay b).slot = none) : (s.bay b).Operates k l (ProtOp.mk k l false false (s.bay b).state.loadedOrLoading) :=
    .inl ⟨slot, rfl⟩
  refine ⟨fun st r from_ tag q rs calm slot hq issued origin row ends => ?_,
    fun c e r engaged other slot hq issued target owner kind => ?_,
    fun c r engaged target owner kind gap heeded slot hq issued rkind => ?_,
    fun c old engaged target owner other gap heeded slot low entry' empty => ?_⟩
  · have rest := calm.toResting
    refine exec_rise_starts hs calm sweeps named (operates slot) (fun op' kind level => ?_) ?_ intent entry row
    · have idle : (s.visitedScene b z l (s.bay b).queue [] op').Idle := ⟨⟨[], rfl⟩, rest.waiting b⟩
      rcases ends with ⟨taken, rfl, rfl⟩ | ⟨spared, rfl, rfl⟩
      · rw [staged_preempts issued idle hq origin intent (by rw [Request.preempted, kind]; exact taken), level]
        rfl
      · rw [← hq]
        refine preemptHead_runs issued (more := []) (by rw [staged_bay]; exact hq) (headExchange_unbusied idle.unbusied) ?_
        rw [Request.preempted, kind]
        exact spared
    · rcases ends with ⟨_, rfl, _⟩ | ⟨_, rfl, _⟩
      · exact .inl rfl
      · exact .inr ⟨r, [], rfl, issued⟩
  · have apart (c' : Current) (hc : s.bus.current = some c') : c'.ex.individual b = false := by
      cases engaged.current.symm.trans hc
      exact individual_false other
    obtain ⟨t, he, bay, bus, more⟩ := exec_rise_taken (c' := c) (q := [{ r with phase := .checking }])
      (u := { s.bus with normal := [], sent := [] }) (v := { s.bus with normal := [], sent := [] }) (wt := (s.bay b).waiting)
      hs engaged sweeps named (operates slot)
      (fun op' _ _ => staged_preempt_withdraws issued hq engaged.urgent engaged.normal (engaged.waiting b) target owner kind)
      (staged_settle_places (op := ProtOp.mk k l false false _) ⟨engaged.urgent, rfl, engaged.waiting b⟩ rfl entry
        (currentProtective_apart apart)) ⟨engaged.urgent, rfl⟩ entry
      (staged_placeUrgent_clear ⟨engaged.urgent, rfl, engaged.waiting b⟩ x fun c' hc => .inl (apart c' hc))
      (.inr ⟨_, [], rfl, .inr rfl⟩) intent engaged.current (.inl (engaged.waiting b))
    refine ⟨t, he, bay, bus.trans ?_, more⟩
    show ({ s.bus with urgent := s.bus.urgent ++ [_], normal := [], sent := [] } : BusController) = _
    rw [engaged.urgent]
    rfl
  · have foreign : c.ex.owner ≠ .protective := by
      rw [owner]
      decide
    have spared (k' : ProtKind) : ¬ r.preempted k' := by
      rcases rkind with rk | rk <;> simp [Request.preempted, rk]
    obtain ⟨t, he, bay, bus, more⟩ := exec_rise_taken (c' := { c with cutShort := true }) (q := (s.bay b).queue)
      (u := { s.bus with sent := [] }) (v := { s.bus with sent := [] })
      hs engaged sweeps named (operates slot)
      (fun op' _ _ => preemptHead_runs issued (more := []) (by rw [staged_bay]; exact hq)
        (headExchange_clear (Scene.Clear.staged ⟨engaged.urgent, engaged.normal, engaged.waiting b⟩)) (spared _))
      (staged_settle_places (op := ProtOp.mk k l false false _) ⟨engaged.urgent, engaged.normal, engaged.waiting b⟩ rfl entry
        (currentProtective_other engaged.current foreign)) ⟨engaged.urgent, engaged.normal⟩ entry
      (staged_placeUrgent_behind (c := c) ⟨engaged.urgent, engaged.normal, engaged.waiting b⟩ x engaged.current target foreign heeded gap)
      (.inr ⟨r, [], hq, .inl issued⟩) intent rfl (.inr (by simp [Exchange.serves, target]))
    exact ⟨t, he, bay, bus, more⟩
  · obtain ⟨t, he, bay, bus, more⟩ := exec_rise_taken (c' := { c with replaced := true }) (q := (s.bay b).queue)
      (u := { s.bus with sent := [] }) (v := { s.bus with current := some { c with replaced := true }, sent := [] })
      (wt := (s.bay b).waiting) hs engaged sweeps named (.inr ⟨old, slot, low, rfl⟩)
      (fun op' _ _ => preemptHead_none (head_none (by rw [staged_bay]; exact empty)))
      (staged_settle_replaces (op := { old with kind := k.stronger old.kind, level := l, started := false })
        ⟨engaged.urgent, engaged.normal, engaged.waiting b⟩ rfl entry' engaged.current target owner heeded other gap rfl)
      ⟨engaged.urgent, engaged.normal⟩ entry'
      (staged_placeUrgent_clear ⟨engaged.urgent, engaged.normal, engaged.waiting b⟩ x fun c' hc =>
        .inr (by rw [currentProtective_some (c := { c with replaced := true }) rfl target owner heeded]; rfl))
      (.inl empty) intent rfl (.inl (engaged.waiting b))
    refine ⟨t, he, bay, bus.trans ?_, more⟩
    show ({ s.bus with urgent := s.bus.urgent ++ [_], current := _, sent := [] } : BusController) = _
    rw [engaged.urgent]
    rfl

end Sys2Proof.Proofs
end

section
/-! PROOFS. Marked exchanges at their attempt's end, and blocked exchanges at the choice (R109, R113, R128, R135 to R137). -/

namespace Sys2Proof.Machine

set_option Elab.async false

/-! ### The end of an attempt, whatever it is (R130) -/

/-- What the end of an attempt of `c` may come to: a Success, a refusal, or a Failure. -/
def State.Ended (s : State) (c : Current) (v : State) : Prop :=
  (∃ p, ackWellFormed c.ex.kind p = true ∧ v = succeed c p s) ∨ (∃ n, v = refuse c n s) ∨ ∃ f, v = failAttempt c f s

theorem takeNak_ended (s : State) (c : Current) (p : List Byte) : s.Ended c (takeNak p c s) := by
  unfold takeNak
  split
  · split_ifs
    · exact .inr (.inr ⟨_, rfl⟩)
    · exact .inr (.inr ⟨_, rfl⟩)
    · exact .inr (.inl ⟨_, rfl⟩)
    · exact .inr (.inr ⟨_, rfl⟩)
  · exact .inr (.inr ⟨_, rfl⟩)

section Awaits

variable {s : State} {c : Current} {station : Byte} (awaits : s.Awaits c station)

include awaits

theorem awaits_frame {kind : Byte} {p : List Byte} {k : Half} {take : Current → State → State}
    (taken : s.begin.Ended c (take c s.begin)) :
    ∃ v, answerFrame station kind p k take s = conclude s.begin v ∧ s.begin.Ended c v := by
  unfold answerFrame
  rw [awaiting_current awaits]
  dsimp only
  split
  · exact ⟨_, rfl, taken⟩
  · exact ⟨_, rfl, .inr (.inr ⟨_, rfl⟩)⟩

theorem awaits_ends {i : Instr} (h : s.EndsAttempt c station i) :
    ∃ v, exec i s = .next (conclude s.begin v) ∧ s.begin.Ended c v := by
  rcases h with answer | ⟨rfl, due⟩
  · cases i <;> cases answer
    case ack.refl f =>
      obtain ⟨v, run, ended⟩ := awaits_frame awaits (kind := Config.kindAck) (p := f.payload) (k := f.check)
        (take := fun c s => if ackWellFormed c.ex.kind f.payload then succeed c f.payload s else failAttempt c .replyCheckBad s) (by
          split
          · next form => exact .inl ⟨_, form, rfl⟩
          · exact .inr (.inr ⟨_, rfl⟩))
      exact ⟨v, congrArg Host.Outcome.next run, ended⟩
    case nakFailure.refl reason rest check =>
      obtain ⟨v, run, ended⟩ := awaits_frame awaits (kind := Config.kindNak) (p := reason.toList ++ rest) (k := check)
        (takeNak_ended s.begin c _)
      exact ⟨v, congrArg Host.Outcome.next run, ended⟩
    case nakRefused.refl rest check =>
      obtain ⟨v, run, ended⟩ := awaits_frame awaits (kind := Config.kindNak) (p := 3 :: rest) (k := check) (takeNak_ended s.begin c _)
      exact ⟨v, congrArg Host.Outcome.next run, ended⟩
  · have window : s.windowDue = some c := by
      unfold State.windowDue
      rw [awaits.current]
      simp [Option.filter, due]
    refine ⟨failAttempt c .noAnswer s.begin, ?_, .inr (.inr ⟨_, rfl⟩)⟩
    show Host.Outcome.next (match s.windowDue with | some c => _ | none => s) = _
    rw [window]
    rfl

end Awaits

/-- Whatever ends a disregarded exchange, it ends without effect (R135). -/
theorem ended_disregarded {s v : State} {c : Current} (h : s.Ended c v) (marked : c.disregarded = true) : v = endCurrent s := by
  rcases h with ⟨p, _, rfl⟩ | ⟨n, rfl⟩ | ⟨f, rfl⟩
  · exact if_pos marked
  · exact if_pos (by rw [marked]; rfl)
  · exact if_pos (by rw [marked]; rfl)

/-- Whatever ends a replaced exchange of a bay, at most the operation deadline is set (R113; log 59). -/
theorem ended_replaced {s v : State} {c : Current} {b : Bay} (h : s.Ended c v) (marked : c.replaced = true) (heeded : c.disregarded = false)
    (target : c.ex.target = .bay b) (kind : c.ex.kind = .unload) : ∃ d, v = (endCurrent s).updBay b fun r => { r with deadline := d } := by
  rcases h with ⟨p, _, rfl⟩ | ⟨n, rfl⟩ | ⟨f, rfl⟩
  · refine ⟨some ((endCurrent s).opDeadline b .unload false), ?_⟩
    unfold succeed
    dsimp only
    rw [heeded, target, kind]
    rfl
  · exact ⟨((endCurrent s).bay b).deadline, (if_pos (by rw [marked, Bool.or_true])).trans (updBay_self rfl).symm⟩
  · exact ⟨((endCurrent s).bay b).deadline, (if_pos (by rw [marked, Bool.or_true])).trans (updBay_self rfl).symm⟩

section CutShort

variable {s u : State} {c : Current} {b : Bay} (freed : endCurrent s = u) (heeded : c.disregarded = false) (target : c.ex.target = .bay b)
  (started : u.headStarted b = true)

include freed heeded target started

/-- A cut-short QUERY or PASS of a head that fails ends its head, without a fault (R137). -/
theorem cutShort_fails (f : FailClass) (cut : c.cutShort = true) (kept : c.replaced = false) (owner : c.ex.owner = .head)
    (kind : c.ex.kind = .query ∨ c.ex.kind = .pass) :
    failAttempt c f s = completeHead b { code := .bayFault, secondary := Cause.bus.code } [] u := by
  unfold failAttempt
  rw [heeded, kept, cut, freed, if_neg (by decide), if_pos rfl, endCutShortOwner, target, owner]
  exact if_pos ⟨kind, started⟩

theorem pass_succeeds (p : List Byte) (kind : c.ex.kind = .pass) : succeed c p s = completeHead b (.plain .done) p u := by
  unfold succeed
  rw [heeded, freed, target, kind]
  exact if_pos started

end CutShort

/-! ### What the end frees (R128, R136) -/

theorem endCurrent_quiet {s : State} {c : Current} (current : s.bus.current = some c) (attempt : s.bus.transaction = .attempt)
    (waiting : ∀ d, (s.bay d).waiting = []) : endCurrent s = s.updBus fun u => { u with current := none, transaction := .free } := by
  have freed : s.updBus (fun u => { u with current := none, transaction := if u.transaction = .attempt then .free else u.transaction })
      = s.updBus fun u => { u with current := none, transaction := .free } := by
    unfold State.updBus
    dsimp only
    rw [if_pos attempt]
  unfold endCurrent
  rw [current]
  dsimp only
  rw [freed]
  cases c.ex.target with
  | bay d => exact releaseWaiting_none d _ (waiting d)
  | allBays => rfl
  | node i => rfl

/-- What waited for the bay behind the exchange joins its queue. -/
theorem staged_endCurrent_releases {s : State} {b : Bay} {w : Scene} {c : Current} {x : Exchange} (current : w.bus.current = some c)
    (attempt : w.bus.transaction = .attempt) (target : c.ex.target = .bay b) (urgent : w.bus.urgent = []) (normal : w.bus.normal = [])
    (waits : w.bay.waiting = [x]) (owner : x.owner = .protective) :
    endCurrent (s.staged b w) = s.staged b { w with
      bay := { w.bay with waiting := [] }, bus := { w.bus with current := none, transaction := .free, urgent := [x] } } := by
  have current' : (s.staged b w).bus.current = some c := current
  have freed : (s.staged b w).updBus
      (fun u => { u with current := none, transaction := if u.transaction = .attempt then .free else u.transaction })
      = s.staged b { w with bus := { w.bus with current := none, transaction := .free } } := by
    rw [staged_updBus, if_pos attempt]
  have open_ : ((s.staged b { w with bus := { w.bus with current := none, transaction := .free } }).queuedFor b
      || (s.staged b { w with bus := { w.bus with current := none, transaction := .free } }).currentFor b) = false := by
    show ((w.bus.urgent.any _ || w.bus.normal.any _) || false) = false
    rw [urgent, normal]
    rfl
  unfold endCurrent
  rw [current']
  dsimp only
  rw [freed, target]
  dsimp only
  unfold releaseWaiting
  rw [staged_bay, waits]
  dsimp only
  rw [if_neg (by rw [open_]; decide), updWaiting, staged_updBay, enqueue, staged_updBus, owner]
  dsimp only
  rw [if_pos (show Owner.protective.urgent = true from rfl), urgent]
  rfl

/-- The end of an attempt that stood alone but for its mark and what waited in the Urgent queue. -/
theorem alone_freed {s : State} {c : Current} {station : Byte} (alone : s.Alone c station) (b : Bay) (c' : Current) (queued : List Exchange) :
    endCurrent (s.marked c' queued).begin = s.begin.staged b { s.atRest b [] with bus := { idleBus [] with urgent := queued } } := by
  refine (endCurrent_quiet (s := (s.marked c' queued).begin) rfl alone.transaction alone.waiting).trans ?_
  show ({ s with bus := { urgent := queued, normal := s.bus.normal, current := none, transaction := .free, sent := [] } } : State) = _
  rw [alone.normal]
  exact (congrArg (fun t : State => { t with bus := { idleBus [] with urgent := queued } }) (staged_scene s.begin b)).symm

/-- The same where an exchange waited behind it. -/
theorem alone_releases {s : State} {c : Current} {station : Byte} (alone : s.Alone c station) {b : Bay} {c' : Current} {x : Exchange}
    (target : c'.ex.target = .bay b) (owner : x.owner = .protective) :
    endCurrent ((s.marked c' []).updBay b fun e => { e with waiting := [x] }).begin
      = s.begin.staged b { s.atRest b [] with bus := { idleBus [] with urgent := [x] } } := by
  have found : ((s.marked c' []).updBay b fun e => { e with waiting := [x] }).begin = s.begin.staged b { s.scene b with
      bay := { s.bay b with waiting := [x] }
      bus := { s.bus with urgent := [], current := some c', sent := [] } } := by
    show ((s.marked c' []).begin.updBay b fun e => { e with waiting := [x] }) = _
    conv_lhs => rw [← staged_scene (s.marked c' []).begin b, staged_updBay]
    rfl
  have emptied : { s.bay b with waiting := [] } = s.bay b := by rw [← alone.waiting b]
  rw [found, staged_endCurrent_releases (c := c') (x := x) rfl alone.transaction target rfl alone.normal rfl owner]
  show s.begin.staged b { s.scene b with
    bay := { s.bay b with waiting := [] }
    bus := { urgent := [x], normal := s.bus.normal, current := none, transaction := .free, sent := [] } } = _
  rw [alone.normal, emptied]
  rfl

/-! ### Blocked exchanges (R109, R128) -/

theorem takeLoop_none (n : Nat) {s : State} (h : s.choose = none) : takeLoop n s = s := by
  cases n with
  | zero => rfl
  | succ n => rw [takeLoop, h, ite_self]

theorem busChoice_none {s : State} (waiting : ∀ b, (s.bay b).waiting = []) (h : s.choose = none) : busChoice s = s := by
  unfold busChoice
  rw [foldl_releaseWaiting_none s waiting]
  exact takeLoop_none _ h

theorem choose_blocked {s : State} {x : Exchange} (urgent : s.bus.urgent = []) (normal : s.bus.normal = [x]) (blocked : s.blocked x = true) :
    s.choose = none := by
  unfold State.choose
  rw [urgent, normal, takeFirst, blocked]
  rfl

theorem choose_passes {s : State} {x y : Exchange} (urgent : s.bus.urgent = []) (normal : s.bus.normal = [x, y])
    (blocked : s.blocked x = true) (unblocked : s.blocked y = false) : s.choose = some (y, s.updBus fun u => { u with normal := [x] }) := by
  unfold State.choose
  rw [urgent, normal, takeFirst, blocked, takeFirst, unblocked]
  rfl

/-- An exchange of no head that changes no state starts (R128, R130). -/
theorem startTaken_plain {s : State} {x : Exchange} {b : Bay} (target : x.target = .bay b) (owner : x.owner ≠ .head)
    (plain : x.kind.stateChanging = false) : startTaken x s = { s with bus := s.bus.trying x (s.after 50) } := by
  unfold startTaken
  simp only [target, plain, Bool.false_eq_true, if_false]
  unfold startPlain
  simp only [target]
  cases h : x.owner with
  | head => exact absurd h owner
  | _ => rfl

/-- The part as the end of an all-bays QUICKPARK finds it, the bus free (R138). -/
def State.parkSent (s : State) : State := { s with bus := { s.bus with transaction := .free, sent := [] } }

/-- The end of an event whose choice leads to `v`, on which nothing more is to be done. -/
theorem conclude_chooses {s v : State} (s0 : State) (survey : s.survey.running = false) (choice : busChoice s = v)
    (still : busChoice v = v) (admission : v.adm.queue = []) (flag : v.FlagFollows) : conclude s0 s = close v := by
  unfold conclude
  rw [completeSurvey_off s survey, choice, settleBudget_of_empty s0 v admission, evaluateBudget_of_flag v flag, still,
    evaluateBudget_of_flag v flag]

end Sys2Proof.Machine

namespace Sys2Proof.Proofs

open Sys2Proof.Machine

/-- Settles O50: what each mark makes of the attempt's end, and what the choice passes over. -/
theorem markedAndBlockedExchanges : Obligations.MarkedAndBlockedExchanges := by
  refine ⟨fun s c station i alone ends => ?_, fun s c station i b op alone ends balanced target owner kind state slot empty => ?_,
    fun s c station i b op r src tag x st reply alone balanced target owner kind slot hq issued origin intent xkind row ends => ?_,
    fun s b x rest survey current park urgent normal waiting admission flag target blocked => ?_⟩
  · obtain ⟨v, run, ended⟩ := awaits_ends (s := s.marked { c with disregarded := true } []) (c := { c with disregarded := true })
      ⟨rfl, alone.window, alone.target⟩ ends
    have quiet : endCurrent (s.marked { c with disregarded := true } []).begin = s.rested :=
      (alone_freed alone 0 _ []).trans (ends_atRest s 0)
    rw [run, ended_disregarded ended rfl, quiet, conclude_unengaged _ _ (alone_rested alone) alone.survey]
    rfl
  · obtain ⟨v, run, ended⟩ := awaits_ends
      (s := s.marked { c with replaced := true } [s.exchangeFor b .quickPark .protective []]) (c := { c with replaced := true })
      ⟨rfl, alone.window, alone.target⟩ ends
    obtain ⟨d, rfl⟩ := ended_replaced ended rfl alone.plain.1 target kind
    have row : startState .quickPark (s.bay b).state = some .parking := by rw [state]; rfl
    rw [run, alone_freed alone b, staged_updBay]
    refine ⟨_, congrArg Host.Outcome.next (staged_starts_urgent (s := s.begin) (b := b) _ alone.survey alone.waiting (alone.waiting b)
      rfl rfl rfl (staged_start_protective slot (.inl empty) rfl rfl rfl row (balanced.1 b)) rfl
      (alone.waiting b) alone.admission), ?_⟩
    generalize ht : close _ = t
    obtain ⟨bay, adm, bus, ffr, keeps, tells⟩ := moved_ends ht rfl rfl
    exact ⟨bay, adm, bus, ffr, keeps, tells⟩
  · have changing : x.stateChanging = true := by rcases xkind with rfl | rfl | rfl <;> rfl
    have started : (s.begin.staged b { s.atRest b [] with
        bus := { idleBus [] with urgent := [s.exchangeFor b x .protective []] } }).headStarted b = true := by
      have unstarted : (s.begin.staged b { s.atRest b [] with
          bus := { idleBus [] with urgent := [s.exchangeFor b x .protective []] } }).headExchange b = none := by
        have waiting : (s.atRest b []).bay.waiting = [] := alone.waiting b
        unfold State.headExchange State.standing
        simp only [staged_bay, waiting, List.find?_nil]
        simp [State.staged, idleBus, State.exchangeFor]
      unfold State.headStarted
      rw [unstarted, head_cons (r := r) (more := []) (by rw [staged_bay]; exact hq)]
      simp [issued]
    have completed (co : Completion) (p : List Byte) : completeHead b co p (s.begin.staged b { s.atRest b [] with
        bus := { idleBus [] with urgent := [s.exchangeFor b x .protective []] } }) = s.begin.staged b { s.atRest b [] with
          bay := { s.bay b with queue := [] }
          bus := { idleBus [] with urgent := [s.exchangeFor b x .protective []] }
          replies := [{ tag := tag, completion := co, payload := p, echo := none }] } :=
      (staged_completesLast (w := { s.atRest b [] with bus := { idleBus [] with urgent := [s.exchangeFor b x .protective []] } })
        hq origin intent co p).trans rfl
    have run : exec i ((s.marked { c with cutShort := true } []).updBay b fun e => { e with waiting := [s.exchangeFor b x .protective []] })
        = .next (conclude ((s.marked { c with cutShort := true } []).updBay b fun e =>
            { e with waiting := [s.exchangeFor b x .protective []] }).begin (s.begin.staged b { s.atRest b [] with
              bay := { s.bay b with queue := [] }
              bus := { idleBus [] with urgent := [s.exchangeFor b x .protective []] }, replies := [reply] })) := by
      have awaits : ((s.marked { c with cutShort := true } []).updBay b fun e =>
          { e with waiting := [s.exchangeFor b x .protective []] }).Awaits { c with cutShort := true } station :=
        ⟨rfl, alone.window, alone.target⟩
      have released := alone_releases alone (c' := { c with cutShort := true }) (x := s.exchangeFor b x .protective []) target rfl
      rcases ends with ⟨⟨f, fails⟩, rfl⟩ | ⟨p, pass, short, rfl, rfl⟩
      · rw [awaits_fails awaits fails, cutShort_fails (c := { c with cutShort := true }) released alone.plain.1 target started f rfl alone.plain.2.2 owner kind, completed]
        rfl
      · rw [awaits_ack awaits p (by rw [pass]; exact decide_eq_true short), pass_succeeds (c := { c with cutShort := true }) released alone.plain.1 target started p pass,
          completed]
        rfl
    rw [run]
    refine ⟨_, congrArg Host.Outcome.next (staged_starts_urgent (s := s.begin) (b := b) _ alone.survey alone.waiting (alone.waiting b)
      rfl rfl rfl (staged_start_protective slot (.inl rfl) rfl rfl changing row (balanced.1 b)) rfl
      (alone.waiting b) alone.admission), ?_⟩
    generalize ht : close _ = t
    obtain ⟨bay, adm, bus, ffr, keeps, tells⟩ := moved_ends ht rfl rfl
    refine ⟨bay.trans ?_, adm, bus.trans ?_, ffr, keeps, tells⟩
    · rcases xkind with rfl | rfl | rfl <;> rfl
    · rcases xkind with rfl | rfl | rfl <;> rfl
  · have blocked' (u : State) (prot : u.prot = s.prot) (bays : u.bays = s.bays) : u.blocked x = true := by
      have zone (k : AdmKind) : u.permits b k = s.permits b k := by
        unfold State.permits State.level State.bay
        rw [prot, bays]
      rcases blocked with ⟨kind, no⟩ | ⟨kind, no⟩ <;> simp [State.blocked, target, kind, zone, no]
    have run : exec .allBaysQuickparkEnd s = .next (conclude s.begin s.parkSent) :=
      congrArg Host.Outcome.next (if_pos park)
    rw [run]
    refine ⟨fun last => ?_, fun y c last towards kind owner => ?_⟩
    · have still := busChoice_none (s := s.parkSent) waiting
        (choose_blocked urgent (normal.trans (by rw [last])) (blocked' _ rfl rfl))
      rw [conclude_chooses (s := s.parkSent) s.begin survey still still admission flag]
      rfl
    · have passes := choose_passes (s := s.parkSent) urgent
        (normal.trans (by rw [last])) (blocked' _ rfl rfl) (y := y) (by simp [State.blocked, towards, kind])
      have may : s.parkSent.mayTake = true := by
        show (decide (Transaction.free = .free) && s.bus.current.isNone) = true
        rw [current]
        rfl
      have bus : BusController.trying { s.bus with transaction := .free, sent := [], normal := [x] } y (s.after 50)
          = { s.firstAttempt y with normal := [x] } := by
        unfold BusController.trying
        rw [urgent]
        rfl
      have start := (startTaken_plain (s := s.parkSent.updBus fun u => { u with normal := [x] })
        towards owner (by rw [kind]; rfl)).trans (congrArg (fun u => ({ s with bus := u } : State)) bus)
      rw [conclude_starts (s := s.parkSent) s.begin survey waiting may passes start rfl waiting admission, evaluateBudget_of_flag _ (by exact flag)]
      refine ⟨_, rfl, ?_⟩
      generalize ht : close _ = t
      have rest := closed_touches ht
      refine ⟨by rw [rest], by rw [rest], by rw [rest], by rw [rest], ?_⟩
      rw [← ht]
      exact tells_close rfl rfl

end Sys2Proof.Proofs
end

section
/-! PROOFS. The ends of protective operations by DONE frames, and the restore they or a lower level give (R12, R33, R116, R118, R119). -/

namespace Sys2Proof.Machine

set_option Elab.async false

section Staged

variable {s : State} {b : Bay} {w : Scene}

/-! ### The completion of an operation in flight that serves no head (R12) -/

/-- The scene after the bay has left its operation for the state `st`. -/
def Scene.completing (w : Scene) (b : Bay) (st : BayState) (now : Count) : Scene :=
  { w.entering b st now with
    bay := { w.bay with state := st, reservation := (w.adm.profiles[w.bay.cls]).reservation st, deadline := none } }

/-- A completion whose head has not been issued is left to the protective operation (R39, R116). -/
theorem staged_completesUnissued {st : BayState} (idle : w.Idle)
    (booked : w.bay.reservation = (w.adm.profiles[w.bay.cls]).reservation w.bay.state)
    (head : w.bay.queue = [] ∨ ∃ r more, w.bay.queue = r :: more ∧ r.phase ≠ .issued) :
    completeOperation b st (s.staged b w)
      = recheckHead b (completeServedOperation b w.bay.state (s.staged b (w.completing b st s.now))) := by
  have entered : changeState b st (setDeadline b none (s.staged b w)) = s.staged b (w.completing b st s.now) := by
    rw [setDeadline, staged_updBay, staged_changeState (by exact booked)]
    rfl
  have free : (s.staged b (w.completing b st s.now)).Unbusied b := Scene.Idle.unbusied (by exact idle)
  have unserved : completeServedHead b w.bay.state (s.staged b (w.completing b st s.now)) = s.staged b (w.completing b st s.now) := by
    unfold completeServedHead
    rcases head with empty | ⟨r, more, hq, waits⟩
    · rw [head_none (by rw [staged_bay]; exact empty)]
    · rw [head_cons (r := r) (more := more) (by rw [staged_bay]; exact hq)]
      exact if_neg fun h => waits h.1
  unfold completeOperation
  dsimp only
  rw [entered, staged_bay, takeOut_unbusied free, disregard_unbusied free, unserved]

/-! ### The end of an operation whose goal is met (R116, R118) -/

/-- Restore intent is set where the bay was loaded at the placing and no governed request waits. -/
def Scene.restoring (w : Scene) (op : ProtOp) : Scene :=
  { w with bay := { w.bay with
      slot := none
      restoreIntent := w.bay.restoreIntent || (decide (op.kind ≠ .stop) && op.fromLoaded && !w.bay.governedQueued) } }

/-- Nothing is restored: the intent is not set, or the restore is not due. -/
def Scene.Unrestored (w : Scene) (s : State) (op : ProtOp) : Prop :=
  op.kind = .stop ∨ op.fromLoaded = false ∨ w.bay.governedQueued = true ∨ s.timing.restoreCeiling < (s.prot.levels.of w.bay.zone).val
    ∨ s.prot.permits (s.prot.levels.of w.bay.zone) .load = false

theorem staged_endMet {op : ProtOp} (idle : w.Idle) (slot : w.bay.slot = some op) (intent : w.bay.restoreIntent = false) :
    endProtective b true (s.staged b w)
      = checkHead b (if (w.restoring op).bay.restoreIntent then restoreCheck b (s.staged b (w.restoring op)) else s.staged b (w.restoring op)) := by
  have free : (s.staged b { w with bay := { w.bay with slot := none } }).Unbusied b := Scene.Idle.unbusied (by exact idle)
  unfold endProtective
  rw [staged_bay, slot]
  dsimp only
  rw [staged_setSlot, dropProtective_unbusied free, disregard_unbusied free, staged_bay, staged_updBay]
  unfold Scene.restoring
  dsimp only
  rw [intent, Bool.false_or]
  show checkHead b (if (true && decide (op.kind ≠ .stop) && op.fromLoaded && !w.bay.governedQueued) = true then _ else _) = _
  rw [Bool.true_and]
  cases (decide (op.kind ≠ .stop) && op.fromLoaded && !w.bay.governedQueued) with
  | true => rfl
  | false => rfl

theorem staged_endMet_unrestored {op : ProtOp} (idle : w.Idle) (slot : w.bay.slot = some op) (intent : w.bay.restoreIntent = false)
    (unrestored : w.Unrestored s op) : endProtective b true (s.staged b w) = checkHead b (s.staged b (w.restoring op)) := by
  rw [staged_endMet idle slot intent]
  refine congrArg (checkHead b) ?_
  split
  · next set =>
    refine if_neg ?_
    unfold State.restoreDue
    rw [State.permits, staged_level, staged_bay]
    dsimp only
    rw [set]
    unfold Scene.restoring at set
    simp only [intent, Bool.false_or, Bool.and_eq_true, decide_eq_true_iff, Bool.not_eq_true'] at set
    obtain ⟨⟨kind, loaded⟩, free⟩ := set
    rcases unrestored with h | h | h | h | h
    · exact absurd h kind
    · rw [loaded] at h
      cases h
    · rw [free] at h
      cases h
    · have high : ¬ (s.prot.levels.of w.bay.zone).val ≤ s.timing.restoreCeiling := Nat.not_le.mpr h
      simp [Scene.restoring, State.staged, high]
    · simp [Scene.restoring, State.staged, h]
  · rfl

/-- The restore as it stands once its permission check has passed (R35, R119). -/
def restoreWaiting (wait : Option Count) : Request := { restoreRequest with phase := .admitting, wait := wait }

/-- The scene in which the restore waits for the budget. -/
def Scene.restoreQueued (w : Scene) (b : Bay) (wait : Option Count) : Scene :=
  { w with
    bay := { w.bay with restoreIntent := false, queue := [restoreWaiting wait] }
    adm := { w.adm with queue := w.adm.queue ++ [{ bay := b, kind := .load }] } }

/-- A restore that is due becomes head and waits for the budget (R35, R119). -/
theorem staged_restores (empty : w.bay.queue = []) (slot : w.bay.slot = none) (intent : w.bay.restoreIntent = true)
    (ceiling : (s.prot.levels.of w.bay.zone).val ≤ s.timing.restoreCeiling)
    (permits : s.prot.permits (s.prot.levels.of w.bay.zone) .load = true) (state : w.bay.state = .idle) :
    checkHead b (restoreCheck b (s.staged b w)) = s.staged b (w.restoreQueued b s.waitDeadline)
      ∧ (s.staged b w).restoreDue b = true := by
  have due : (s.staged b w).restoreDue b = true := by
    unfold State.restoreDue
    rw [State.permits, staged_level, staged_bay]
    dsimp only
    rw [intent, empty, slot]
    simp only [Bool.true_and, List.isEmpty_nil, Option.isNone_none, Bool.and_true, Bool.and_eq_true, decide_eq_true_iff]
    exact ⟨ceiling, permits⟩
  refine ⟨?_, due⟩
  rw [restoreCheck, if_pos due, staged_updBay, staged_becomeHead (r := restoreRequest) (more := []) rfl,
    staged_check_permitted (s := s) rfl rfl (by exact slot) (k := .load) (by rw [show _ = _ from state]; rfl) (by exact permits)]
  rfl

/-- A waiting restore keeps its entry at a check (R36). -/
theorem staged_recheck_restore {wait : Option Count} (state : w.bay.state = .idle) :
    recheckHead b (s.staged b (w.restoreQueued b wait)) = s.staged b (w.restoreQueued b wait) := by
  unfold recheckHead
  rw [head_cons (r := restoreWaiting wait) (more := []) (by rw [staged_bay]; rfl)]
  dsimp only
  rw [show (restoreWaiting wait).phase = .admitting from rfl]
  dsimp only
  refine if_pos (.inr ⟨?_, rfl⟩)
  rw [staged_bay, show (w.restoreQueued b wait).bay.state = .idle from state]
  rfl

/-! ### The ends (R116) -/

/-- An Unload or Park that is left by its completion ends, its goal met. -/
theorem servedOperation_unloads {u : State} {op : ProtOp} {st : BayState} (slot : (u.bay b).slot = some op) (kind : op.kind ≠ .stop)
    (origin : st = .unloading ∨ st = .parking) : completeServedOperation b st u = endProtective b true u := by
  unfold completeServedOperation
  rw [slot]
  dsimp only
  cases k : op.kind with
  | stop => exact absurd k kind
  | unload => rcases origin with rfl | rfl <;> rfl
  | park => rcases origin with rfl | rfl <;> rfl

/-- The STOP of a Stop is completed: the operation ends. -/
theorem servedOperation_stops {u : State} {op : ProtOp} (slot : (u.bay b).slot = some op) (kind : op.kind = .stop) :
    completeServedOperation b .stopping u = endProtective b true u := by
  unfold completeServedOperation
  rw [slot]
  dsimp only
  rw [kind]

/-- The park phase of a Stop is completed: its STOP is placed. -/
theorem servedOperation_parks {u : State} {op : ProtOp} {st : BayState} (slot : (u.bay b).slot = some op) (kind : op.kind = .stop)
    (phase : op.stopPhase = false) (origin : st = .unloading ∨ st = .parking) :
    completeServedOperation b st u = startStopPhase b op u := by
  unfold completeServedOperation
  rw [slot]
  dsimp only
  rw [kind]
  rcases origin with rfl | rfl
  · exact if_neg (by rw [phase]; decide)
  · exact if_neg (by rw [phase]; decide)

theorem staged_startStopPhase {op : ProtOp} (idle : w.Idle) : startStopPhase b op (s.staged b w) = s.staged b { w with
    bay := { w.bay with slot := some { op with stopPhase := true, started := false } }
    bus := { w.bus with urgent := w.bus.urgent ++ [w.exchange b .stop .protective []] } } := by
  have idle' : ({ w with bay := { w.bay with slot := some { op with stopPhase := true, started := false } } } : Scene).Idle := idle
  unfold startStopPhase
  rw [dropProtective_unbusied idle.unbusied, staged_setSlot, staged_placeUrgent idle']
  rfl

/-- A bay without requests whose operation ends, with nothing restored. -/
theorem staged_endMet_empty {op : ProtOp} (idle : w.Idle) (slot : w.bay.slot = some op) (intent : w.bay.restoreIntent = false)
    (unrestored : w.Unrestored s op) (empty : w.bay.queue = []) :
    recheckHead b (endProtective b true (s.staged b w)) = s.staged b (w.restoring op) := by
  rw [staged_endMet_unrestored idle slot intent unrestored, checkHead, checkHeads_empty (by rw [staged_bay]; exact empty),
    recheckHead_none (by rw [staged_bay]; exact empty)]

/-- A head that the operation held is checked at its end, which completes it (R31, R33, R34, R118). -/
theorem staged_endMet_completes {op : ProtOp} {r : Request} {c : Completion} {src : Source} {tag : Byte} (idle : w.Idle)
    (slot : w.bay.slot = some op) (intent : w.bay.restoreIntent = false) (hq : w.bay.queue = [r]) (checking : r.phase = .checking)
    (governed : r.kind.governed = true) (completes : headCheck r.kind w.bay.state = .complete c) (origin : r.origin = .upstream src tag none) :
    recheckHead b (endProtective b true (s.staged b w)) = s.staged b { w with
      bay := { w.bay with slot := none, queue := [] }
      replies := w.replies ++ [{ tag := tag, completion := c, payload := [], echo := none }] } := by
  have waits : w.bay.governedQueued = true := by simp [BayRecord.governedQueued, hq, governed]
  have record : (w.restoring op) = { w with bay := { w.bay with slot := none } } := by
    unfold Scene.restoring
    rw [waits, intent]
    simp [← intent]
  rw [staged_endMet_unrestored idle slot intent (.inr (.inr (.inl waits))), record,
    staged_check_completes (s := s) (by exact hq) checking rfl (by exact intent) (by exact completes), delivered_upstream origin,
    recheckHead_none (by rw [staged_bay])]

/-- A restore that falls due with the operation's end waits for the budget (R35, R118, R119). -/
theorem staged_endMet_restores {op : ProtOp} (idle : w.Idle) (slot : w.bay.slot = some op) (intent : w.bay.restoreIntent = false)
    (empty : w.bay.queue = []) (kind : op.kind ≠ .stop) (loaded : op.fromLoaded = true)
    (ceiling : (s.prot.levels.of w.bay.zone).val ≤ s.timing.restoreCeiling)
    (permits : s.prot.permits (s.prot.levels.of w.bay.zone) .load = true) (state : w.bay.state = .idle) :
    recheckHead b (endProtective b true (s.staged b w))
      = s.staged b (({ w with bay := { w.bay with slot := none } } : Scene).restoreQueued b s.waitDeadline) := by
  have set : (w.restoring op).bay.restoreIntent = true := by
    simp [Scene.restoring, kind, loaded, BayRecord.governedQueued, empty]
  rw [staged_endMet idle slot intent, if_pos set,
    (staged_restores (w := w.restoring op) (by exact empty) rfl set (by exact ceiling) (by exact permits) (by exact state)).1]
  exact staged_recheck_restore (w := w.restoring op) state

end Staged

/-! ### The DONE frames (R12) -/

/-- The bay once its report has been acknowledged and stored (R19). -/
def State.reported (s : State) (b : Bay) (station cond : Byte) : Scene :=
  { s.atRest b [{ destination := station, kind := 0x40, payload := [] }] with
    bay := { s.bay b with cache := some { report := { present := true, condition := cond, code := 0 }, time := s.now } } }

/-- The scene that the completion leaves to the operation. -/
def State.completed (s : State) (b : Bay) (station cond : Byte) (st : BayState) : Scene := (s.reported b station cond).completing b st s.now

section Completed

variable {s : State} {b : Bay} {f : StationFrame} {cond : Byte} {k : Condition} {st : BayState} (calm : s.CalmBut b)
  (hf : s.Receives 0x30 f) (hb : bayAt f.initiator = some b) (hp : f.payload = [1, cond, 0]) (known : conditionOf cond = some k)
  (completes : completionState (s.bay b).state k = some st)

include calm

theorem completed_idle (station cond : Byte) (st : BayState) : (s.completed b station cond st).Idle := ⟨⟨_, rfl⟩, calm.toResting.waiting b⟩

include hf hb hp known completes

theorem exec_done_unissued (head : (s.bay b).queue = [] ∨ ∃ r more, (s.bay b).queue = r :: more ∧ r.phase ≠ .issued) :
    exec (.done f) s = .next (conclude s.begin (recheckHead b (completeServedOperation b (s.bay b).state
      (s.begin.staged b (s.completed b f.initiator cond st))))) := by
  have rest := calm.toResting
  have idle : (s.reported b f.initiator cond).Idle := ⟨⟨_, rfl⟩, rest.waiting b⟩
  rw [exec_taken (c := .done f) rfl hf (takenBy_done hf.ofKind hb (hp ▸ reportOf_present known)), acked_atRest rest b,
    staged_takeReport known, staged_conditionCompletes (by exact idle) (by exact completes),
    staged_completesUnissued (by exact idle) (by exact calm.balanced.1 b) (by exact head)]
  rfl

/-- An end that leaves nothing for the bus or the budget to do. -/
theorem exec_done_ends {e : BayRecord} {rs : List Reply} (head : (s.bay b).queue = [] ∨ ∃ r more, (s.bay b).queue = r :: more ∧ r.phase ≠ .issued)
    (waiting : e.waiting = [])
    (ends : recheckHead b (completeServedOperation b (s.bay b).state (s.begin.staged b (s.completed b f.initiator cond st)))
      = s.begin.staged b { s.completed b f.initiator cond st with bay := e, replies := rs }) :
    Answers (exec (.done f) s) fun t =>
      t.bay b = e ∧ t.adm = s.adm.moved (s.bay b).reservation ((s.profileOf b).reservation st)
        ∧ t.bus = idleBus [{ destination := f.initiator, kind := 0x40, payload := [] }] ∧ t.ffr = s.ffr
        ∧ s.KeepsBut t b ∧ s.Tells t rs (s.bayNews b st ++ s.budgetNews t.adm.committed) := by
  have rest := calm.toResting
  rw [exec_done_unissued calm hf hb hp known completes head, ends]
  refine ⟨_, congrArg Host.Outcome.next (Scene.Idle.concludes ⟨⟨_, rfl⟩, waiting⟩ rest.toUnengaged rest.survey rest.admission), ?_⟩
  generalize ht : close _ = t
  obtain ⟨bay, adm, bus, ffr, keeps, tells⟩ := moved_ends ht rfl rfl
  exact ⟨bay, adm, bus, ffr, keeps, tells⟩

end Completed

theorem restoring_bay {w : Scene} {op : ProtOp} (intent : w.bay.restoreIntent = false) (kind : op.kind ≠ .stop) (empty : w.bay.queue = []) :
    (w.restoring op).bay = { w.bay with slot := none, restoreIntent := op.fromLoaded } := by
  unfold Scene.restoring
  simp [intent, kind, BayRecord.governedQueued, empty]

theorem restoring_stop {w : Scene} {op : ProtOp} (kind : op.kind = .stop) : (w.restoring op).bay = { w.bay with slot := none } := by
  unfold Scene.restoring
  simp [kind]

/-- The scene of a restored bay whose LOAD has started in the event. -/
theorem restored_ends {s t : State} {b : Bay} {w v : Scene} {u : BusController} {r : Request} {n : Nat}
    (ht : close (evaluateBudget (s.staged b v)) = t) (queue : s.adm.queue = [])
    (adm : w.adm = { s.adm with committed := n, queue := [{ bay := b, kind := .load }] }) (ffr : w.ffr = s.ffr) (groups : w.groups = s.groups)
    (hv : v = { (w.evaluated s.now).granted b .load [] s with
      bay := { ((w.evaluated s.now).granted b .load [] s).bay with deadline := none, queue := [r] }, bus := u })
    {m : Nat} (hm : n + (s.adm.profiles[w.bay.cls]).loadingReservation - w.bay.reservation = m) :
    t.bay b = { w.bay with
        state := .loading, reservation := (s.adm.profiles[w.bay.cls]).loadingReservation, deadline := none, queue := [r] }
      ∧ t.adm = s.adm.committing m ∧ t.bus = u ∧ t.ffr = s.ffr ∧ s.KeepsBut t b := by
  obtain ⟨bay, hadm, bus, hffr, hgroups, keeps⟩ := staged_leaves ht.symm
  have profiles : w.adm.profiles = s.adm.profiles := by rw [adm]
  subst hv
  refine ⟨bay.trans ?_, hadm.trans ?_, bus, hffr.trans ffr, ?_⟩
  · rw [← profiles]
    rfl
  · rw [← hm]
    show Admission.committing { w.adm.committing w.adm.committed with
      committed := w.adm.committed + (w.adm.profiles[w.bay.cls]).loadingReservation - w.bay.reservation, queue := [] }
      (w.adm.committed + (w.adm.profiles[w.bay.cls]).loadingReservation - w.bay.reservation) = _
    rw [adm]
    refine Eq.trans (b := { s.adm.committing (n + (s.adm.profiles[w.bay.cls]).loadingReservation - w.bay.reservation) with queue := [] })
      rfl ?_
    rw [← queue]
    rfl
  · rw [hgroups.trans groups] at keeps
    exact keeps

end Sys2Proof.Machine

namespace Sys2Proof.Proofs

open Sys2Proof.Machine

/-- Settles O52: the ends that free the slot, the restore, the STOP that follows a park phase, and the restore of a fallen level. -/
theorem protectiveOperationsEndAndRestore : Obligations.ProtectiveOperationsEndAndRestore := by
  refine ⟨fun s b f op calm hf hb slot intent => ⟨fun unloaded hp from_ hu => ⟨fun q rs kind ends => ?_, fun kind empty loaded ceiling permits => ?_,
    fun kind phase empty => ?_⟩, fun hp state kind empty => ?_⟩, fun s h src b z l hs calm empty slot intent state level falls ceiling permits fits => ?_⟩
  · have completes : completionState (s.bay b).state .atSpeed = some .idle := by rcases from_ with h | h <;> rw [h] <;> rfl
    have idle := completed_idle calm f.initiator 2 .idle
    rcases ends with ⟨empty, rfl, rfl, unrestored⟩ | ⟨r, src, tag, c, hq, checking, governed, ends, origin, rfl, rfl⟩
    · obtain ⟨t, he, bay, more⟩ := exec_done_ends calm hf hb hp rfl completes (.inl empty)
        (e := ((s.completed b f.initiator 2 .idle).restoring op).bay) (rs := []) (calm.toResting.waiting b) (by
          rw [servedOperation_unloads (by rw [staged_bay]; exact slot) kind from_,
            staged_endMet_empty (s := s.begin) idle slot intent (.inr (unrestored.imp id fun h => .inr h)) empty]
          rfl)
      refine ⟨t, he, bay.trans ?_, more⟩
      rw [restoring_bay (by exact intent) kind (by exact empty), hu, empty, List.isEmpty_nil, Bool.and_true, ← empty]
      rfl
    · obtain ⟨t, he, bay, more⟩ := exec_done_ends calm hf hb hp rfl completes (.inr ⟨r, [], hq, by rw [checking]; decide⟩)
        (e := { unloaded with slot := none, queue := [] }) (rs := [{ tag := tag, completion := c, payload := [], echo := none }])
        (by rw [hu]; exact calm.toResting.waiting b) (by
          rw [servedOperation_unloads (by rw [staged_bay]; exact slot) kind from_,
            staged_endMet_completes (s := s.begin) idle slot intent hq checking governed ends origin, hu]
          rfl)
      refine ⟨t, he, bay.trans ?_, more⟩
      rw [hq, hu, List.isEmpty_cons, Bool.and_false, ← intent]
  · have completes : completionState (s.bay b).state .atSpeed = some .idle := by rcases from_ with h | h <;> rw [h] <;> rfl
    have idle := completed_idle calm f.initiator 2 .idle
    have rest := calm.toResting
    rw [exec_done_unissued calm hf hb hp rfl completes (.inl empty),
      servedOperation_unloads (by rw [staged_bay]; exact slot) kind from_,
      staged_endMet_restores (s := s.begin) idle slot intent empty kind loaded ceiling permits rfl]
    have within := reservation_le_sum s b
    rw [← calm.balanced.2] at within
    have greater : (s.profileOf b).idle ≤ (s.profileOf b).loadingReservation :=
      (Nat.le_add_right _ _).trans (Nat.le_max_left _ _)
    have unset : ({ unloaded with restoreIntent := false } : BayRecord) = unloaded := by
      rw [hu, ← intent]
    by_cases fits : s.adm.committed + (s.profileOf b).loadingReservation - (s.bay b).reservation ≤ s.adm.effLimit
    · have more : s.adm.committed + (s.profileOf b).idle - (s.bay b).reservation
          + ((s.profileOf b).loadingReservation - (s.profileOf b).idle) ≤ s.adm.effLimit := by omega
      refine ⟨_, congrArg Host.Outcome.next (staged_concludes_admitted (s := s.begin) (b := b) (k := .load)
        (r := restoreWaiting s.waitDeadline) (more := []) s.begin rest.survey rest.waiting rfl rfl rfl rfl (rest.waiting b) rfl rfl
        rest.admission (congrArg (· ++ [_]) rest.admission) permits more (.inl rfl)), Eq.mpr (if_pos fits) ?_⟩
      generalize ht : close _ = t
      obtain ⟨bay, adm, bus, ffr, keeps⟩ := restored_ends (m := s.adm.committed + (s.profileOf b).loadingReservation - (s.bay b).reservation)
        ht rest.admission (congrArg (fun q => ({ s.adm with
          committed := s.adm.committed + (s.profileOf b).idle - (s.bay b).reservation, queue := q ++ [_] } : Admission)) rest.admission)
        rfl rfl rfl (by show _ + (s.profileOf b).loadingReservation - (s.profileOf b).idle = _; omega)
      refine ⟨bay.trans ?_, adm, bus, ffr, keeps⟩
      rw [← unset, hu]
      rfl
    · have over_ : ¬ (s.adm.committed + (s.profileOf b).idle - (s.bay b).reservation
          + ((s.profileOf b).loadingReservation - (s.profileOf b).idle) ≤ s.adm.effLimit) := by omega
      refine ⟨_, congrArg Host.Outcome.next (staged_concludes (s := s.begin) (b := b) s.begin rest.survey rest.waiting rfl rfl
        (rest.waiting b) (.inr ⟨{ bay := b, kind := .load }, [], congrArg (· ++ [_]) rest.admission, ?_⟩)), Eq.mpr (if_neg fits) ?_⟩
      · rw [staged_admits, Bool.and_eq_false_iff]
        exact .inl (decide_eq_false over_)
      · generalize ht : close _ = t
        obtain ⟨bay, adm, bus, ffr, keeps, _⟩ := moved_ends_queue (q := [{ bay := b, kind := .load }]) ht
          (congrArg (fun q => ({ s.adm with
            committed := s.adm.committed + (s.profileOf b).idle - (s.bay b).reservation, queue := q ++ [_] } : Admission)) rest.admission) rfl
        refine ⟨bay.trans ?_, adm, bus, ffr, keeps⟩
        rw [← unset, hu]
        rfl
  · have completes : completionState (s.bay b).state .atSpeed = some .idle := by rcases from_ with h | h <;> rw [h] <;> rfl
    have rest := calm.toResting
    rw [exec_done_unissued calm hf hb hp rfl completes (.inl empty),
      servedOperation_parks (by rw [staged_bay]; exact slot) kind phase from_,
      staged_startStopPhase (completed_idle calm f.initiator 2 .idle), recheckHead_none (by rw [staged_bay]; exact empty)]
    refine ⟨_, congrArg Host.Outcome.next (staged_starts_urgent (s := s.begin) (b := b) s.begin rest.survey rest.waiting (rest.waiting b)
      rfl rfl rfl (staged_start_protective rfl (.inl empty) rfl rfl rfl rfl rfl) rfl (rest.waiting b) rest.admission), ?_⟩
    generalize ht : close _ = t
    obtain ⟨bay, adm, bus, ffr, keeps, tells⟩ := moved_ends ht rfl rfl
    refine ⟨bay.trans ?_, adm.trans (congrArg s.adm.committing (Nat.add_sub_cancel _ _)), bus, ffr, keeps, tells⟩
    rw [hu]
    rfl
  · have completes : completionState (s.bay b).state .stopped = some .off := by rw [state]; rfl
    have idle := completed_idle calm f.initiator 0 .off
    obtain ⟨t, he, bay, more⟩ := exec_done_ends calm hf hb hp rfl completes (.inl empty)
      (e := ((s.completed b f.initiator 0 .off).restoring op).bay) (rs := []) (calm.toResting.waiting b) (by
        rw [state, servedOperation_stops (by rw [staged_bay]; exact slot) kind,
          staged_endMet_empty (s := s.begin) idle slot intent (.inl kind) empty]
        rfl)
    refine ⟨t, he, bay.trans ?_, more⟩
    rw [restoring_stop kind]
    rfl
  · have rest := calm.toResting
    have moved : s.prot.levels.of z ≠ s.level b := fun same => by
      rw [level, same] at falls
      exact Nat.lt_irrefl _ falls
    have visited : visitSweep true b (s.level b) (s.heard.staged b { s.atRest b [] with bay := { s.bay b with zone := z } })
        = s.heard.staged b { s.atRest b [] with bay := { s.bay b with zone := z, sweepLevel := minLevel (s.bay b).sweepLevel l } } := by
      rw [staged_visitSweep_stays (s := s.heard) (w := { s.atRest b [] with bay := { s.bay b with zone := z } }) level.symm
        (fun up => Nat.lt_asymm falls up.1), if_neg (Nat.lt_asymm falls)]
    have slots (c : Bay) : (s.heard.staged b { s.atRest b [] with
        bay := { s.bay b with zone := z, sweepLevel := minLevel (s.bay b).sweepLevel l } }).callsForPark c = false := by
      refine callsForPark_none ?_
      by_cases own : c = b
      · rw [own, staged_bay]
        exact slot
      · rw [staged_other own]
        exact calm.slot c own
    obtain ⟨restored, due⟩ := staged_restores (s := s.heard) (b := b) (w := { s.atRest b [] with
      bay := { s.bay b with zone := z, sweepLevel := minLevel (s.bay b).sweepLevel l } }) empty slot intent (level ▸ ceiling) (level ▸ permits) state
    have carried : carryOut true [(b, s.level b)] (s.heard.staged b { s.atRest b [] with bay := { s.bay b with zone := z } })
        = s.heard.staged b (({ s.atRest b [] with
            bay := { s.bay b with zone := z, sweepLevel := minLevel (s.bay b).sweepLevel l } } : Scene).restoreQueued b s.waitDeadline) := by
      rw [carryOut_one visited slots (by exact rest.admission), visitRecheck, recheckDeferred_none (head_none (by rw [staged_bay]; exact empty)),
        restoreNow, if_pos due, restored]
      rfl
    have more : s.adm.committed + ((s.profileOf b).loadingReservation - (s.bay b).reservation) ≤ s.adm.effLimit := by
      have booked : (s.bay b).reservation = (s.profileOf b).idle := by rw [calm.balanced.1 b, state]; rfl
      have greater : (s.profileOf b).idle ≤ (s.profileOf b).loadingReservation := (Nat.le_add_right _ _).trans (Nat.le_max_left _ _)
      omega
    rw [exec_rezone_idle hs calm (by rw [state]; decide) moved carried rfl rfl]
    refine ⟨_, congrArg Host.Outcome.next (staged_concludes_admitted (s := s.heard) (b := b) (k := .load)
      (r := restoreWaiting s.waitDeadline) (more := []) s.heard rest.survey rest.waiting rfl rfl rfl rfl (rest.waiting b) rfl
      (calm.balanced.1 b) rest.admission (congrArg (· ++ [_]) rest.admission) (level ▸ permits) more (.inl rfl)), ?_⟩
    generalize ht : close _ = t
    have flag : s.adm.overBudget = decide (s.adm.effLimit < s.adm.committed) := rest.flag
    obtain ⟨_, _, _, _, _, _, tells⟩ := staged_ends rfl (by exact flag.symm) t ht.symm
    obtain ⟨bay, adm, bus, ffr, keeps⟩ := restored_ends (m := s.adm.committed + (s.profileOf b).loadingReservation - (s.bay b).reservation)
      ht rest.admission (congrArg (fun q => ({ s.adm with queue := q ++ [_] } : Admission)) rest.admission) rfl rfl rfl rfl
    refine ⟨bay.trans ?_, adm, bus, ffr, keeps, ?_⟩
    · rfl
    · have told : s.heard.Tells t [s.rezoned h b z] (([] ++ (if decide (s.adm.effLimit < s.adm.committed) = s.adm.overBudget then []
          else [.budget (decide (s.adm.effLimit < s.adm.committed)) s.adm.committed s.adm.effLimit s.now]) ++ s.bayNews b .loading)
          ++ s.budgetNews (s.adm.committed + (s.profileOf b).loadingReservation - (s.bay b).reservation)) := tells
      rw [if_pos flag.symm, List.append_nil, List.nil_append] at told
      rw [adm]
      exact told

end Sys2Proof.Proofs
end

section
/-! PROOFS. The follow-up of a group park (R139, R140). -/

namespace Sys2Proof.Machine

set_option Elab.async false

theorem staged_parkRuns {s : State} {b : Bay} {w : Scene} (parks : w.bay.state = .parking) : (s.staged b w).parkRuns b = true := by
  unfold State.parkRuns
  rw [staged_bay, parks]
  rfl

section FollowUp

variable {s : State} {c : Current} {station : Byte} (alone : s.Alone c station) {b : Bay} (target : c.ex.target = .bay b)
  (owner : c.ex.owner = .followUp) (parks : (s.bay b).state = .parking)

include alone target owner parks

/-- A refused follow-up of a park that runs faults the bay (R140). -/
theorem alone_refuse_followUp (n : Nat) : refuse c n s.begin = followUpFault b (s.begin.staged b (s.atRest b [])) := by
  obtain ⟨heeded, whole, kept⟩ := alone.plain
  unfold refuse
  rw [heeded, kept, target, owner, alone_endCurrent alone b]
  exact if_pos (staged_parkRuns parks)

/-- The report of a follow-up that finds the park not ended (R140). -/
theorem alone_followUp_fails (kind : c.ex.kind = .query) {cond : Byte} {k : Condition} (known : conditionOf cond = some k)
    (other : k ≠ .atSpeed) : succeed c [1, cond, 0] s.begin
      = followUpFault b (s.begin.staged b { s.atRest b [] with bay := { s.bay b with
          cache := some { report := { present := true, condition := cond, code := 0 }, time := s.now } } }) := by
  rw [alone_succeed_query alone target [1, cond, 0] kind (reportOf_present known), queryReport, owner]
  have ended : conditionOf cond ≠ some .atSpeed := by
    rw [known]
    exact fun h => other (Option.some.inj h)
  refine (if_pos ⟨staged_parkRuns parks, rfl, rfl, ended⟩).trans (congrArg (followUpFault b) ?_)
  rw [storeReport, staged_updBay]
  rfl

/-- The report of a follow-up that finds the heads unloaded (R140). -/
theorem alone_followUp_ends (kind : c.ex.kind = .query) : succeed c [1, 2, 0] s.begin
    = completeOperation b .idle (s.begin.staged b { s.atRest b [] with bay := { s.bay b with
        cache := some { report := { present := true, condition := 2, code := 0 }, time := s.now } } }) := by
  have idle : (s.atRest b []).Idle := ⟨⟨[], rfl⟩, alone.waiting b⟩
  rw [alone_succeed_query alone target [1, 2, 0] kind rfl, queryReport, owner]
  refine (if_neg fun h => h.2.2.2 rfl).trans ?_
  rw [staged_takeReport (k := .atSpeed) rfl, staged_conditionCompletes (by exact idle) (st := .idle)
    (by show completionState (s.bay b).state _ = _; rw [parks]; rfl)]
  rfl

end FollowUp

/-- A follow-up that finds the heads unloaded ends the park, and a protective operation that needs no restore with it (R116, R140). -/
theorem followUp_ends {s : State} {c : Current} {station : Byte} {b : Bay} (alone : s.Alone c station) (balanced : s.Balanced)
    (target : c.ex.target = .bay b) (owner : c.ex.owner = .followUp) (kind : c.ex.kind = .query) (parks : (s.bay b).state = .parking)
    (empty : (s.bay b).queue = []) (intent : (s.bay b).restoreIntent = false)
    (slot : (s.bay b).slot = none ∨ ∃ op, (s.bay b).slot = some op ∧ op.kind ≠ .stop ∧ op.fromLoaded = false) :
    Answers (exec (.ack { initiator := station, payload := [1, 2, 0], check := stationCheck station 0x40 [1, 2, 0] }) s) fun t =>
      t.bay b = { s.bay b with
                    state := .idle, reservation := (s.profileOf b).idle, deadline := none, slot := none
                    cache := some { report := { present := true, condition := 2, code := 0 }, time := s.now } }
        ∧ t.adm = s.adm.moved (s.bay b).reservation (s.profileOf b).idle ∧ t.bus = idleBus [] ∧ t.ffr = s.ffr
        ∧ s.KeepsBut t b ∧ s.Tells t [] (s.bayNews b .idle ++ s.budgetNews t.adm.committed) := by
  have idle : ({ s.atRest b [] with bay := { s.bay b with
      cache := some { report := { present := true, condition := 2, code := 0 }, time := s.now } } } : Scene).Idle :=
    ⟨⟨[], rfl⟩, alone.waiting b⟩
  have settled : completeOperation b .idle (s.begin.staged b { s.atRest b [] with bay := { s.bay b with
        cache := some { report := { present := true, condition := 2, code := 0 }, time := s.now } } })
      = s.begin.staged b { (s.atRest b []).entering b .idle s.now with bay := { s.bay b with
          state := .idle, reservation := (s.profileOf b).idle, deadline := none, slot := none
          cache := some { report := { present := true, condition := 2, code := 0 }, time := s.now } } } := by
    rcases slot with none | ⟨op, slot, other, unloaded⟩
    · rw [staged_completeOperation (rs := []) (by exact idle) (by exact none) (by exact intent) (by exact balanced.1 b)
        (by exact .inl ⟨empty, rfl⟩), ← none]
      rw [← empty]
      rfl
    · rw [staged_completesUnissued (s := s.begin) idle (balanced.1 b) (.inl empty),
        servedOperation_unloads (by rw [staged_bay]; exact slot) other (.inr parks),
        staged_endMet_empty (s := s.begin) (by exact idle) slot intent (.inr (.inl unloaded)) empty]
      refine congrArg (fun e => s.begin.staged b { (s.atRest b []).entering b .idle s.now with bay := e })
        ((restoring_bay (by exact intent) other (by exact empty)).trans ?_)
      rw [unloaded, ← intent]
      rfl
  rw [exec_ack_well alone _ (by rw [kind]; rfl), alone_followUp_ends alone target owner parks kind, settled]
  refine ⟨_, congrArg Host.Outcome.next (Scene.Idle.concludes ⟨⟨_, rfl⟩, alone.waiting b⟩ alone.toUnengaged alone.survey alone.admission), ?_⟩
  generalize ht : close _ = t
  obtain ⟨bay, adm, bus, ffr, keeps, tells⟩ := moved_ends ht rfl rfl
  exact ⟨bay, adm, bus, ffr, keeps, tells⟩

/-- A follow-up that finds anything else, or is refused, faults the bay (R14, R140). -/
theorem followUp_faults {s : State} {c : Current} {station : Byte} {b : Bay} {rs : List Reply} {w : Work} {i : Instr} {cache : Option Cache}
    (alone : s.Alone c station) (target : c.ex.target = .bay b) (owner : c.ex.owner = .followUp) (kind : c.ex.kind = .query)
    (parks : (s.bay b).state = .parking) (interrupts : s.Interrupts b .timeout rs w)
    (answer : (∃ cond k, conditionOf cond = some k ∧ k ≠ .atSpeed
          ∧ i = .ack { initiator := station, payload := [1, cond, 0], check := stationCheck station 0x40 [1, cond, 0] }
          ∧ cache = some { report := { present := true, condition := cond, code := 0 }, time := s.now })
        ∨ ∃ reason, i = nakRefusal station reason ∧ cache = (s.bay b).cache) :
    Answers (exec i s) fun t =>
      t.bay b = { s.faultedBay b .faulted .timeout 4 with cache := cache }
        ∧ t.adm = s.adm.moved (s.bay b).reservation (s.profileOf b).peak ∧ t.bus = idleBus []
        ∧ t.ffr = s.faultTaken (.bay b) .timeout 4 w ∧ s.KeepsBut t b
        ∧ s.Tells t rs (s.faultNews b .faulted .timeout 4 w t.adm.committed) := by
  have run : exec i s = .next (conclude s.begin (faultBay b .faulted .timeout 4 none
      (s.begin.staged b { s.atRest b [] with bay := { s.bay b with cache := cache } }))) := by
    rcases answer with ⟨cond, k, known, other, rfl, rfl⟩ | ⟨reason, rfl, rfl⟩
    · rw [exec_ack_well alone _ (by rw [kind, ackWellFormed, reportOf_present known]; rfl),
        alone_followUp_fails alone target owner parks kind known other]
      rfl
    · rw [exec_refusal alone, alone_refuse_followUp alone target owner parks]
      rfl
  rw [run]
  refine ⟨_, congrArg Host.Outcome.next (staged_fault_concludes alone.toUnengaged alone.survey ⟨[], rfl⟩ (alone.waiting b) alone.admission
    interrupts), ?_⟩
  generalize ht : close _ = t
  obtain ⟨bay, adm, bus, ffr, keeps, tells⟩ := moved_ends ht rfl rfl
  exact ⟨bay, adm, bus, ffr, keeps, tells⟩

end Sys2Proof.Machine
end

section
/-! PROOFS. The group park: a rise that gives every bay at risk a Park or a Stop (R106, R114, R138). -/

namespace Sys2Proof.Machine

set_option Elab.async false

/-! ### Passes that work at one bay after the other -/

/-- A pass whose step at a bay, where that bay stands as at the start, settles its record and keeps `R`. -/
theorem foldl_bays {f : State → Bay → State} {g : Bay → BayRecord} {R : State → Prop} {s : State} (l : List Bay) (nodup : l.Nodup) (start : R s)
    (step : ∀ u, ∀ b ∈ l, R u → u.bay b = s.bay b → R (f u b) ∧ ∀ c, (f u b).bay c = if c = b then g b else u.bay c) :
    R (l.foldl f s) ∧ ∀ c, (l.foldl f s).bay c = if c ∈ l then g c else s.bay c := by
  suffices h : ∀ u, R u → (∀ c ∈ l, u.bay c = s.bay c) → R (l.foldl f u) ∧ ∀ c, (l.foldl f u).bay c = if c ∈ l then g c else u.bay c from
    h s start fun _ _ => rfl
  clear start
  induction l with
  | nil => exact fun u hu _ => ⟨hu, fun c => rfl⟩
  | cons b l ih =>
    obtain ⟨fresh, nodup⟩ := List.nodup_cons.mp nodup
    intro u hu same
    obtain ⟨kept, moved⟩ := step u b List.mem_cons_self hu (same b List.mem_cons_self)
    obtain ⟨after, bays⟩ := ih nodup (fun v c hc => step v c (List.mem_cons_of_mem b hc)) (f u b) kept fun c hc => by
      have other : c ≠ b := fun e => fresh (e ▸ hc)
      rw [moved, if_neg other]
      exact same c (List.mem_cons_of_mem b hc)
    refine ⟨after, fun c => ?_⟩
    rw [List.foldl_cons, bays, moved]
    by_cases own : c = b
    · subst own
      simp [fresh]
    · simp [own]

/-! ### What the rise places (R111, R114) -/

/-- The record of a bay whose QUICKPARK waits for the third step. -/
def BayRecord.toPark (r : BayRecord) (k : ProtKind) (l : Level) : BayRecord :=
  { r with
    sweepLevel := l
    slot := some { kind := k, level := l, started := false, stopPhase := false, fromLoaded := r.state.loadedOrLoading } }

theorem protEntry_atRisk {k : ProtKind} {st : BayState} (kind : k = .park ∨ k = .stop) (risk : st.atRisk = true) :
    protEntry k st = .exchange .quickPark := by
  rcases kind with rfl | rfl <;> cases st <;> cases risk <;> rfl

/-- The visit to a bay at risk on an idle bus. -/
theorem visitSweep_parks {s : State} {b : Bay} {o l : Level} {k : ProtKind} (bus : ∃ sent, s.bus = idleBus sent) (waiting : (s.bay b).waiting = [])
    (queue : (s.bay b).queue = []) (slot : (s.bay b).slot = none) (level : s.level b = l) (rises : o.val < l.val)
    (below : (s.bay b).sweepLevel.val < l.val) (action : (s.prot.action l).kind = some k) (kind : k = .park ∨ k = .stop)
    (risk : (s.bay b).state.atRisk = true) : visitSweep true b o s = s.updBay b fun r => r.toPark k l := by
  have entry := protEntry_atRisk kind risk
  have idle : (s.scene b).Idle := ⟨bus, waiting⟩
  have named : s.prot.action l ≠ .none := by
    intro none
    rw [none] at action
    cases action
  obtain ⟨sent, hbus⟩ := bus
  have visited : visitSweep true b o (s.staged b (s.scene b)) = s.staged b { s.scene b with bay := (s.bay b).toPark k l } := by
    rw [staged_visitSweep_rises (w := s.scene b) level rises named (minLevel_below below),
      staged_applyAction (w := { s.scene b with bay := { (s.scene b).bay with sweepLevel := l } }) (k := k) (op := ProtOp.mk k l false false (s.bay b).state.loadedOrLoading)
        (v := { s.scene b with bay := { s.bay b with sweepLevel := l } }) action
        (by
          show protEntry k (s.bay b).state ≠ _
          rw [entry]
          exact fun h => by cases h) (.inl ⟨slot, rfl⟩)
        (fun op' _ _ => preemptHead_none (head_none (by rw [staged_bay]; exact queue))) rfl,
      staged_settle_places (x := .quickPark) (op := ProtOp.mk k l false false (s.bay b).state.loadedOrLoading)
        (by exact ⟨congrArg BusController.urgent hbus, congrArg BusController.normal hbus, waiting⟩) rfl (by exact entry)
        (currentProtective_unbusied (Scene.Idle.unbusied (by exact idle))), if_pos rfl,
      forbidAdmitting_none (head_none (by rw [staged_bay]; exact queue))]
    rfl
  rw [staged_scene] at visited
  rw [visited]
  conv_rhs => rw [← staged_scene s b, staged_updBay]
  rfl

/-- The visit to a bay for which the table of R112 names nothing, whatever the bus holds. -/
theorem visitSweep_unnamed {s : State} {b : Bay} (o : Level) (queue : (s.bay b).queue = []) (unnamed : ∀ k, protEntry k (s.bay b).state = .none) :
    visitSweep true b o s = s.updBay b fun r => { r with sweepLevel := s.sweptLevel r.sweepLevel (s.level b) o } := by
  have visited := staged_visitSweep (s := s) (b := b) (w := s.scene b) (o := o) queue unnamed
  rw [staged_scene] at visited
  rw [visited]
  conv_rhs => rw [← staged_scene s b, staged_updBay]
  rw [staged_scene]
  rfl

/-- The bay after the first pass of a rise that parks every bay at risk. -/
def State.parkedFrom (s : State) (k : Bay → ProtKind) (o : Bay → Level) (b : Bay) : BayRecord :=
  if (s.bay b).state.atRisk then (s.bay b).toPark (k b) (s.level b)
  else { s.bay b with sweepLevel := s.sweptLevel (s.bay b).sweepLevel (s.level b) (o b) }

/-- A rise that gives every bay at risk a Park or a Stop; the others are Off or Empty (R114). -/
structure State.ParksAll (s : State) (k : Bay → ProtKind) (o : Bay → Level) : Prop where
  bus : ∃ sent, s.bus = idleBus sent
  waiting : ∀ b, (s.bay b).waiting = []
  quiet : s.Quiet
  stopped : ∀ b, (s.bay b).state.atRisk = false → (s.bay b).state = .off ∨ (s.bay b).state = .empty
  rises : ∀ b, (s.bay b).state.atRisk = true → (o b).val < (s.level b).val ∧ (s.bay b).sweepLevel.val < (s.level b).val
    ∧ (s.prot.action (s.level b)).kind = some (k b) ∧ (k b = .park ∨ k b = .stop)

section ParksAll

variable {s : State} {k : Bay → ProtKind} {o : Bay → Level} (h : s.ParksAll k o)

include h

/-- The first pass (R106, R110, R111). -/
theorem foldl_visitSweep_parks (l : List Bay) (nodup : l.Nodup) :
    (l.foldl (fun s b => visitSweep true b (o b) s) s) = { s with bays := (l.foldl (fun s b => visitSweep true b (o b) s) s).bays }
      ∧ ∀ c, (l.foldl (fun s b => visitSweep true b (o b) s) s).bay c = if c ∈ l then s.parkedFrom k o c else s.bay c := by
  refine foldl_bays (R := fun u => u = { s with bays := u.bays }) l nodup rfl fun u b _ rest same => ?_
  have level : u.level b = s.level b := by rw [State.level, same, rest]; rfl
  have prot : u.prot = s.prot := by rw [rest]
  have visited : visitSweep true b (o b) u = u.updBay b fun _ => s.parkedFrom k o b := by
    unfold State.parkedFrom
    by_cases risk : (s.bay b).state.atRisk = true
    · obtain ⟨rises, below, action, kind⟩ := h.rises b risk
      rw [if_pos risk, visitSweep_parks (l := s.level b) (k := k b) (by rw [rest]; exact h.bus) (by rw [same]; exact h.waiting b)
        (by rw [same]; exact h.quiet.queue b) (by rw [same]; exact h.quiet.slot b) level rises (by rw [same]; exact below)
        (by rw [prot]; exact action) kind (by rw [same]; exact risk), ← same]
      rfl
    · rw [if_neg risk, visitSweep_unnamed (o b) (by rw [same]; exact h.quiet.queue b)
        (by rw [same]; exact protEntry_stopped (h.stopped b (Bool.eq_false_iff.mpr risk))), level, ← same]
      unfold State.sweptLevel State.updBay
      rw [prot]
  rw [visited]
  refine ⟨?_, fun c => ?_⟩
  · conv_lhs => rw [rest]
    rfl
  · rw [updBay_bay]

end ParksAll

/-! ### The third step (R114) -/

/-- Every bay at risk holds an operation whose QUICKPARK has not started, and nothing stands on the bus. -/
structure State.ParksWait (s : State) : Prop where
  bus : ∃ sent, s.bus = idleBus sent
  waiting : ∀ b, (s.bay b).waiting = []
  queue : ∀ b, (s.bay b).queue = []
  intent : ∀ b, (s.bay b).restoreIntent = false
  unstarted : ∀ b, (s.bay b).state.atRisk = true → s.parkUnstarted b = true
  two : 2 ≤ s.baysAtRisk.length

/-- The part with the all-bays QUICKPARK queued. -/
def State.groupParked (s : State) : State := s.updBus fun u => { u with urgent := [allBaysPark s.baysAtRisk] }

section ParksWait

variable {s : State} (h : s.ParksWait)

include h

theorem ParksWait.clear (b : Bay) : s.Clear b := by
  obtain ⟨sent, bus⟩ := h.bus
  exact ⟨by rw [bus]; rfl, by rw [bus]; rfl, h.waiting b⟩

theorem placeParks_group : placeParks s = s.groupParked := by
  have risk (b : Bay) (hb : b ∈ s.baysAtRisk) : s.parkUnstarted b = true := h.unstarted b (by simpa using (List.mem_filter.mp hb).2)
  have calls : allBays.any s.callsForPark = true := by
    have nonempty : s.baysAtRisk ≠ [] := fun e => by
      have two := h.two
      rw [e] at two
      cases two
    obtain ⟨b, hb⟩ := List.exists_mem_of_ne_nil _ nonempty
    exact List.any_eq_true.mpr ⟨b, mem_allBays b, by
      rw [State.callsForPark, risk b hb, protectiveStanding_clear (ParksWait.clear h b)]
      rfl⟩
  have placed : (s.baysAtRisk.foldl (fun s b => yieldQuery b (takeOut b (fun x => x.owner = .protective && x.kind = .quickPark) s)) s) = s :=
    foldl_id _ fun b _ => by rw [takeOut_clear (ParksWait.clear h b), yieldQuery_clear (ParksWait.clear h b)]
  obtain ⟨sent, bus⟩ := h.bus
  unfold placeParks
  rw [if_pos calls]
  dsimp only
  rw [if_pos ⟨h.two, List.all_eq_true.mpr risk⟩, placeGroupPark]
  rw [placed]
  unfold State.groupParked State.updBus
  rw [bus]
  rfl

end ParksWait

/-! ### The send (R138) -/

/-- The bay of the set once the all-bays QUICKPARK has been sent. -/
def State.parkSentTo (s : State) (b : Bay) : BayRecord :=
  { s.bay b with
    state := .parking, reservation := (s.profileOf b).active
    deadline := some { due := s.after (s.profileOf b).parkTime, kind := .park, group := true }
    slot := (s.bay b).slot.map fun op => { op with started := true } }

theorem parkByGroup_eq {s : State} {b : Bay} (risk : (s.bay b).state.atRisk = true) (waiting : (s.bay b).waiting = [])
    (queue : (s.bay b).queue = []) (booked : (s.bay b).reservation = (s.profileOf b).reservation (s.bay b).state) :
    releaseWaiting b (parkByGroup b s) = s.staged b { (s.scene b).entering b .parking s.now with bay := s.parkSentTo b } := by
  have parked : parkByGroup b (s.staged b (s.scene b))
      = s.staged b { (s.scene b).entering b .parking s.now with bay := s.parkSentTo b } := by
    unfold parkByGroup
    rw [if_pos (by rw [staged_bay]; exact risk)]
    dsimp only
    rw [staged_changeState (w := s.scene b) booked, markStarted, staged_bay, staged_setSlot, setDeadline, staged_updBay,
      recheckHead_none (by rw [staged_bay]; exact queue)]
    unfold State.opDeadline
    rw [staged_profileOf]
    rfl
  rw [staged_scene] at parked
  rw [parked]
  exact releaseWaiting_none b _ (by rw [staged_bay]; exact waiting)

/-- The send parks the bays of the set one after the other. -/
theorem sendGroupPark_bays {s : State} {x : Exchange} (nodup : x.bays.Nodup) (risk : ∀ b ∈ x.bays, (s.bay b).state.atRisk = true)
    (waiting : ∀ b, (s.bay b).waiting = []) (queue : ∀ b, (s.bay b).queue = [])
    (booked : ∀ b, (s.bay b).reservation = (s.profileOf b).reservation (s.bay b).state) :
    (sendGroupPark x s).bus = { s.bus with transaction := .groupPark, sent := s.bus.sent ++ [x.frame] }
      ∧ (sendGroupPark x s).adm.queue = s.adm.queue
      ∧ ∀ c, (sendGroupPark x s).bay c = if c ∈ x.bays then s.parkSentTo c else s.bay c := by
  obtain ⟨⟨rest, profiles, admission⟩, bays⟩ := foldl_bays (f := fun s b => releaseWaiting b (parkByGroup b s)) (g := s.parkSentTo)
    (R := fun u => u = { s with
        bays := u.bays, adm := u.adm, notices := u.notices
        bus := { s.bus with transaction := .groupPark, sent := s.bus.sent ++ [x.frame] } }
      ∧ u.adm.profiles = s.adm.profiles ∧ u.adm.queue = s.adm.queue)
    (s := s.updBus fun u => { u with transaction := .groupPark, sent := u.sent ++ [x.frame] }) x.bays nodup ⟨rfl, rfl, rfl⟩
    fun u b hb ⟨rest, profiles, admission⟩ same => by
      have same : u.bay b = s.bay b := same
      have profile : u.profileOf b = s.profileOf b := by simp only [State.profileOf, same, profiles]
      have sent : u.parkSentTo b = s.parkSentTo b := by
        unfold State.parkSentTo
        rw [same, profile, show u.after = s.after by rw [rest]; rfl]
      rw [parkByGroup_eq (by rw [same]; exact risk b hb) (by rw [same]; exact waiting b) (by rw [same]; exact queue b)
        (by rw [same, profile]; exact booked b), sent]
      refine ⟨⟨?_, profiles, admission⟩, fun c => ?_⟩
      · unfold State.staged
        rw [rest]
        simp [Scene.entering, State.scene]
      · by_cases own : c = b
        · rw [own, staged_bay, if_pos rfl]
        · rw [staged_other own, if_neg own]
  exact ⟨congrArg State.bus rest, admission, bays⟩

/-- The end of an event that has queued the all-bays QUICKPARK (R128, R138). -/
theorem conclude_groupParked {s : State} (s0 : State) (h : s.ParksWait) (survey : s.survey.running = false)
    (booked : ∀ b, (s.bay b).reservation = (s.profileOf b).reservation (s.bay b).state) (admission : s.adm.queue = [])
    (bus : s.bus = idleBus []) :
    (conclude s0 s.groupParked).bus
        = { idleBus [{ destination := 0xFF, kind := 0x14, payload := [] }] with transaction := .groupPark }
      ∧ ∀ b ∈ s.baysAtRisk, (conclude s0 s.groupParked).bay b = s.parkSentTo b := by
  obtain ⟨sent, queue, bays⟩ := sendGroupPark_bays (s := s.groupParked.updBus fun u => { u with urgent := [] })
    (x := allBaysPark s.baysAtRisk) (show s.baysAtRisk.Nodup from allBays_nodup.filter _) (fun b hb => (List.mem_filter.mp hb).2) h.waiting h.queue booked
  have sent' : (sendGroupPark (allBaysPark s.baysAtRisk) (s.groupParked.updBus fun u => { u with urgent := [] })).bus
      = { idleBus [{ destination := 0xFF, kind := 0x14, payload := [] }] with transaction := .groupPark } := by
    rw [sent]
    show ({ urgent := [], normal := s.bus.normal, current := s.bus.current, transaction := _, sent := s.bus.sent ++ _ } : BusController) = _
    rw [bus]
    rfl
  have may : s.groupParked.mayTake = true := by
    show (decide (s.bus.transaction = .free) && s.bus.current.isNone) = true
    rw [bus]
    rfl
  have busy : (sendGroupPark (allBaysPark s.baysAtRisk) (s.groupParked.updBus fun u => { u with urgent := [] })).mayTake = false := by
    unfold State.mayTake
    rw [sent']
    rfl
  have waiting (b : Bay) : ((sendGroupPark (allBaysPark s.baysAtRisk) (s.groupParked.updBus fun u => { u with urgent := [] })).bay b).waiting
      = [] := by
    rw [bays]
    split
    · exact h.waiting b
    · exact h.waiting b
  rw [conclude_chosen s0 (by exact survey)
    (busChoice_takes (s := s.groupParked) h.waiting may (choose_urgent (s := s.groupParked) (x := allBaysPark s.baysAtRisk) rfl) rfl busy)
    busy waiting (queue.trans admission)]
  refine ⟨?_, fun b hb => ?_⟩
  · rw [close_touches, evaluateBudget_eq]
    exact sent'
  · rw [close_bay, evaluateBudget_bay]
    exact (bays b).trans (if_pos hb)

/-- A rise that parks every bay at risk, two at least, from the levels `o`, carried out for these bays. -/
theorem carryOut_parks {s : State} {k : Bay → ProtKind} {o : Bay → Level} (h : s.ParksAll k o) (two : 2 ≤ s.baysAtRisk.length)
    (admission : s.adm.queue = []) {l : List Bay} (nodup : l.Nodup) (all : ∀ b, (s.bay b).state.atRisk = true → b ∈ l) :
    ∃ u : State, carryOut true (l.map fun b => (b, o b)) s = u.groupParked ∧ u = { s with bays := u.bays } ∧ u.ParksWait
      ∧ ∀ c, u.bay c = if c ∈ l then s.parkedFrom k o c else s.bay c := by
  obtain ⟨rest, bays⟩ := foldl_visitSweep_parks h l nodup
  have e : carryOut true (l.map fun b => (b, o b)) s
      = l.foldl (fun s b => visitRecheck b s) (examine (placeParks (l.foldl (fun s b => visitSweep true b (o b) s) s))) := by
    unfold carryOut
    simp only [List.foldl_map]
  rw [e]
  generalize l.foldl (fun s b => visitSweep true b (o b) s) s = u at rest bays ⊢
  have kept (b : Bay) : (u.bay b).state = (s.bay b).state ∧ (u.bay b).queue = [] ∧ (u.bay b).waiting = [] ∧ (u.bay b).restoreIntent = false := by
    rw [bays]
    unfold State.parkedFrom
    split
    · split
      · exact ⟨rfl, h.quiet.queue b, h.waiting b, h.quiet.intent b⟩
      · exact ⟨rfl, h.quiet.queue b, h.waiting b, h.quiet.intent b⟩
    · exact ⟨rfl, h.quiet.queue b, h.waiting b, h.quiet.intent b⟩
  have risk : u.baysAtRisk = s.baysAtRisk := by
    unfold State.baysAtRisk
    refine List.filter_congr fun b _ => ?_
    rw [(kept b).1]
  have waits : u.ParksWait := by
    refine ⟨by rw [rest]; exact h.bus, fun b => (kept b).2.2.1, fun b => (kept b).2.1, fun b => (kept b).2.2.2, fun b hb => ?_, risk ▸ two⟩
    have hb' : (s.bay b).state.atRisk = true := by rw [← (kept b).1]; exact hb
    have entry := protEntry_atRisk (h.rises b hb').2.2.2 hb'
    unfold State.parkUnstarted
    rw [bays, if_pos (all b hb'), State.parkedFrom, if_pos hb']
    unfold BayRecord.toPark
    dsimp only
    rw [entry]
    rfl
  refine ⟨u, ?_, rest, waits, bays⟩
  rw [placeParks_group waits, examine_nil _ (by rw [rest]; exact admission)]
  refine foldl_id l fun b _ => ?_
  rw [visitRecheck, recheckDeferred_none (s := u.groupParked) (head_none (waits.queue b)),
    restoreNow_none (s := u.groupParked) (waits.intent b)]

/-- A part whose event has handed over its conditions: the bays, the budget and the levels stand as in `s`. -/
structure State.HandsOver (s v : State) : Prop where
  bay : ∀ b, v.bay b = s.bay b
  bus : v.bus = idleBus []
  adm : v.adm = s.adm
  now : v.now = s.now
  survey : v.survey.running = false
  levels : v.prot.levels = s.prot.levels
  actions : v.prot.actions = s.prot.actions

/-- The levels computed anew give every bay at risk a Park or a Stop: one all-bays QUICKPARK parks them all (R106, R114, R138). -/
theorem relevelled_parks {s v : State} {risk : List Bay} (calm : s.Calm) (h : s.HandsOver v)
    (hrisk : risk = allBays.filter fun b => (s.bay b).state.atRisk) (two : 2 ≤ risk.length)
    (stopped : ∀ b, b ∉ risk → (s.bay b).state = .off ∨ (s.bay b).state = .empty)
    (cond : ∀ b ∈ risk, (s.level b).val < (v.relevelled.level b).val ∧ (s.bay b).sweepLevel.val < (v.relevelled.level b).val
      ∧ (s.prot.action (v.relevelled.level b) = .park ∨ s.prot.action (v.relevelled.level b) = .parkStop)) :
    (conclude s.begin (recomputeLevels true v)).bus
        = { idleBus [{ destination := 0xFF, kind := 0x14, payload := [] }] with transaction := .groupPark }
      ∧ ∀ b ∈ risk, (conclude s.begin (recomputeLevels true v)).bay b =
          { s.bay b with
            state := .parking, reservation := (s.profileOf b).active, sweepLevel := v.relevelled.level b
            deadline := some { due := s.after (s.profileOf b).parkTime, kind := .park, group := true }
            slot := some { kind := if s.prot.action (v.relevelled.level b) = .park then .park else .stop, level := v.relevelled.level b
                           started := true, stopPhase := false, fromLoaded := (s.bay b).state.loadedOrLoading } } := by
  have bay (b : Bay) : v.relevelled.bay b = s.bay b := h.bay b
  have before (b : Bay) : v.level b = s.level b := by rw [State.level, h.bay, h.levels]; rfl
  have action (l : Level) : v.relevelled.prot.action l = s.prot.action l := by
    unfold Protection.action Protection.entriesTo
    rw [show v.relevelled.prot.actions = s.prot.actions from h.actions]
  have atRisk (b : Bay) : b ∈ risk ↔ (s.bay b).state.atRisk = true := by rw [hrisk, List.mem_filter]; simp [mem_allBays]
  have other : v.prot.computeLevels ≠ v.prot.levels := fun e => by
    obtain ⟨b, hb⟩ := List.exists_mem_of_ne_nil risk (fun e => by rw [e] at two; cases two)
    have up := (cond b hb).1
    rw [← before b] at up
    have kept : v.relevelled.level b = v.level b := congrArg (fun l : ZoneLevels => l.of (v.bay b).zone) e
    rw [kept] at up
    exact Nat.lt_irrefl _ up
  have idle : v.relevelled.bus = idleBus [] := h.bus
  have parks : v.relevelled.ParksAll (fun b => if s.prot.action (v.relevelled.level b) = .park then .park else .stop) s.level := by
    refine ⟨⟨[], idle⟩, fun b => by rw [bay]; exact calm.waiting b, ⟨fun b => by rw [bay]; exact calm.queue b,
      fun b => by rw [bay]; exact calm.slot b, fun b => by rw [bay]; exact calm.intent b⟩, fun b safe => ?_, fun b hb => ?_⟩
    · rw [bay] at safe ⊢
      exact stopped b fun hb => by rw [(atRisk b).mp hb] at safe; cases safe
    · rw [bay] at hb
      obtain ⟨rises, below, park | stop⟩ := cond b ((atRisk b).mpr hb)
      · rw [bay, action, park]
        exact ⟨rises, below, rfl, .inl rfl⟩
      · rw [bay, action, stop]
        exact ⟨rises, below, rfl, .inr rfl⟩
  have same_risk : v.relevelled.baysAtRisk = risk := by
    rw [hrisk]
    unfold State.baysAtRisk
    exact List.filter_congr fun b _ => by rw [bay]
  have member (b : Bay) (hb : b ∈ risk) : b ∈ allBays.filter fun b => (v.bay b).state ≠ .empty ∧ v.level b ≠ v.relevelled.level b := by
    have up := (cond b hb).1
    have full : (v.bay b).state ≠ .empty := fun e => by
      have hb := (atRisk b).mp hb
      rw [← bay b, show (v.relevelled.bay b).state = .empty from e] at hb
      cases hb
    refine List.mem_filter.mpr ⟨mem_allBays b, decide_eq_true ⟨full, fun e => ?_⟩⟩
    rw [← before b, e] at up
    exact Nat.lt_irrefl _ up
  obtain ⟨u, carried, rest, waits, bays⟩ := carryOut_parks parks (same_risk ▸ two) (by
      show v.adm.queue = []
      rw [h.adm]
      exact calm.admission)
    (allBays_nodup.filter _) fun b hb => member b ((atRisk b).mpr (by rw [bay] at hb; exact hb))
  have found (b : Bay) (hb : b ∈ risk) : u.bay b = (s.bay b).toPark
      (if s.prot.action (v.relevelled.level b) = .park then .park else .stop) (v.relevelled.level b) := by
    rw [bays, if_pos (member b hb), State.parkedFrom, bay, if_pos ((atRisk b).mp hb)]
  have kept (b : Bay) : (u.bay b).state = (s.bay b).state ∧ (u.bay b).cls = (s.bay b).cls ∧ (u.bay b).reservation = (s.bay b).reservation := by
    rw [bays, ← bay b]
    unfold State.parkedFrom
    split
    · split
      · exact ⟨rfl, rfl, rfl⟩
      · exact ⟨rfl, rfl, rfl⟩
    · exact ⟨rfl, rfl, rfl⟩
  have adm : u.adm = s.adm := by rw [rest]; exact h.adm
  have now : u.now = s.now := by rw [rest]; exact h.now
  have profile (b : Bay) : u.profileOf b = s.profileOf b := by simp only [State.profileOf, kept, adm]
  have risky : u.baysAtRisk = risk := by
    rw [hrisk]
    unfold State.baysAtRisk
    exact List.filter_congr fun b _ => by rw [(kept b).1]
  have levels : (fun b => (b, s.level b)) = fun b => (b, v.level b) := by funext b; rw [before]
  rw [levels, ← recomputeLevels_moved true other] at carried
  rw [carried]
  obtain ⟨bus, parked⟩ := conclude_groupParked s.begin waits (by rw [rest]; exact h.survey)
    (fun b => by rw [(kept b).2.2, (kept b).1, profile]; exact calm.balanced.1 b) (by rw [adm]; exact calm.admission)
    (by rw [rest]; exact idle)
  refine ⟨bus, fun b hb => ?_⟩
  rw [parked b (by rw [risky]; exact hb), State.parkSentTo, found b hb, profile, State.after, now]
  rfl

end Sys2Proof.Machine

namespace Sys2Proof.Proofs

open Sys2Proof.Machine

/-- Settles O51: the group park of a blind expiry, and what its follow-ups find. -/
theorem groupParksAndTheirFollowUps : Obligations.GroupParksAndTheirFollowUps := by
  refine ⟨fun s i risk calm due sees hrisk two stopped => ?_, fun s c station b alone balanced target owner kind parks =>
    ⟨fun empty intent slot => followUp_ends alone balanced target owner kind parks empty intent slot,
      fun rs w i cache interrupts answer => followUp_faults alone target owner kind parks interrupts answer⟩⟩
  have run : exec (.blindExpiry i) s = .next (conclude s.begin (handOff i (s.begin.blindWork i))) :=
    congrArg Host.Outcome.next ((if_pos due).trans (congrArg (conclude s.begin) (blindExpired_eq (s := s.begin) sees)))
  refine ⟨_, run, fun cond => ?_⟩
  obtain ⟨t, ht, _, zones, _⟩ := onlyTableWritesChangeTables (.blindExpiry i) s rfl
  have same := Host.Outcome.next.inj (ht.symm.trans run)
  rw [same] at zones
  obtain ⟨_, _, _, prot⟩ := conclude_motion s.begin (handOff i (s.begin.blindWork i))
  rw [(handOff_work i (s.begin.blindWork i)).prot] at prot
  have level (b : Bay) : (conclude s.begin (handOff i (s.begin.blindWork i))).level b
      = ((s.begin.blindWork i).handing i).relevelled.level b := by
    rw [State.level, prot, (zones b).2]
    rfl
  simp only [level] at cond ⊢
  exact relevelled_parks calm ⟨fun _ => rfl, Resting.bus calm.toResting [], rfl, rfl, calm.survey, rfl, rfl⟩ hrisk two stopped cond

end Sys2Proof.Proofs
end

section
/-! PROOFS. The ends of the survey's QUERYs, and its completion (R18, R22 to R25, R120). -/

namespace Sys2Proof.Machine

set_option Elab.async false

/-! ### A QUERY of the survey ends (R24) -/

/-- The bay's scene when its QUERY has ended and those of `rest` wait their turn. -/
def State.querying (s : State) (b : Bay) (rest : List Bay) : Scene :=
  { s.scene b with bus := { idleBus [] with normal := rest.map fun d => s.exchangeFor d .query .survey [] } }

/-- The bus once the next of the survey's QUERYs has started, if one waits. -/
def State.queried (s : State) (rest : List Bay) : BusController :=
  match rest with
  | [] => idleBus []
  | d :: more => { s.firstAttempt (s.exchangeFor d .query .survey []) with normal := more.map fun e => s.exchangeFor e .query .survey [] }

section Surveying

variable {s : State} {b : Bay} {c : Current} {station : Byte} {rest : List Bay} (h : s.Surveying b c station rest)

include h

theorem Surveying.target : c.ex.target = .bay b := by rw [h.exchange]; rfl

theorem Surveying.owner : c.ex.owner = .survey := by rw [h.exchange]; rfl

theorem Surveying.kind : c.ex.kind = .query := by rw [h.exchange]; rfl

theorem Surveying.awaits : s.Awaits c station := ⟨h.current, h.window, by rw [h.exchange]; exact address_of_bayAt h.station⟩

theorem Surveying.free : (s.querying b rest).Free b := by
  refine ⟨rfl, fun x hx => ?_, fun c hc => (Option.some_ne_none c hc.symm).elim, h.waiting b⟩
  obtain ⟨d, hd, rfl⟩ := List.mem_map.mp hx
  exact decide_eq_false fun e => h.others (e ▸ hd)

theorem surveying_endCurrent : endCurrent s.begin = s.begin.staged b (s.querying b rest) := by
  refine (endCurrent_quiet (s := s.begin) h.current h.transaction h.waiting).trans ?_
  show ({ s with bus := { urgent := s.bus.urgent, normal := s.bus.normal, current := none, transaction := .free, sent := [] } } : State) = _
  rw [h.urgent, h.normal]
  exact (congrArg (fun t : State => { t with bus := (s.querying b rest).bus }) (staged_scene s.begin b)).symm

/-- A report of the survey's QUERY (R24). -/
theorem surveying_report {p : List Byte} {rep : Report} (hp : reportOf p = some rep) :
    exec (.ack { initiator := station, payload := p, check := stationCheck station 0x40 p }) s
      = .next (conclude s.begin (surveyReport b rep (s.begin.staged b (s.querying b rest)))) := by
  obtain ⟨_, heeded, _, _⟩ := h.plain
  rw [awaits_ack (Surveying.awaits h) p (by rw [Surveying.kind h, ackWellFormed, hp]; rfl)]
  refine congrArg (fun u => Host.Outcome.next (conclude s.begin u)) ?_
  unfold succeed
  rw [heeded, Surveying.target h, Surveying.kind h, hp, surveying_endCurrent h]
  show queryReport b c.ex rep _ = _
  rw [queryReport, Surveying.owner h]

theorem surveying_refused (reason : Byte) :
    exec (nakRefusal station reason) s = .next (conclude s.begin (refuseSurvey b (s.begin.staged b (s.querying b rest)))) := by
  obtain ⟨_, heeded, _, kept⟩ := h.plain
  rw [awaits_refusal (Surveying.awaits h)]
  refine congrArg (fun u => Host.Outcome.next (conclude s.begin u)) ?_
  unfold refuse
  rw [heeded, kept, Surveying.target h, surveying_endCurrent h, Surveying.owner h]
  rfl

theorem surveying_exhausted {f : FailClass} {i : Instr} (limit : s.timing.retryLimit ≤ c.resends) (fails : s.FailsBy c station f i) :
    exec i s = .next (conclude s.begin (countBay b (faultBay b f.state .bus f.secondary none (s.begin.staged b (s.querying b rest))))) := by
  obtain ⟨_, heeded, whole, kept⟩ := h.plain
  rw [awaits_fails (Surveying.awaits h) fails]
  refine congrArg (fun u => Host.Outcome.next (conclude s.begin u)) ?_
  have over_ : ¬ c.resends < s.begin.timing.retryLimit := Nat.not_lt.mpr limit
  unfold failAttempt
  rw [heeded, kept, whole, Surveying.target h, surveying_endCurrent h]
  exact (if_neg (by decide)).trans ((if_neg (by decide)).trans ((if_neg over_).trans (if_pos (Surveying.owner h))))

/-- While another bay is not counted, the event ends with the start of the next QUERY (R24, R128). -/
theorem surveying_ends {w : Scene} (uncounted : ∃ d, d ≠ b ∧ (s.bay d).surveyed = false) (bus : w.bus = (s.querying b rest).bus)
    (waiting : w.bay.waiting = []) (admission : w.adm.queue = []) :
    conclude s.begin (s.begin.staged b w) = close (evaluateBudget (s.begin.staged b { w with bus := s.queried rest })) := by
  obtain ⟨d, other, not⟩ := uncounted
  have moved (u : BusController) : ∀ d, ((s.begin.staged b { w with bus := u }).bay d).waiting = [] :=
    staged_waiting (s := s.begin) (w := { w with bus := u }) waiting h.waiting
  refine conclude_choosing s.begin (completeSurvey_unfinished (.inr (.inr ⟨d, by rw [staged_other other]; exact not⟩))) ?_ (moved _) ?_ admission
  · cases hrest : rest with
    | nil =>
      have same : w = { w with bus := s.queried [] } := by
        rw [hrest] at bus
        rw [← show (s.querying b []).bus = s.queried [] from rfl, ← bus]
      rw [← same]
      refine busChoice_still (staged_waiting waiting h.waiting) (.inr ?_)
      show w.bus.urgent = [] ∧ w.bus.normal = []
      rw [bus, hrest]
      exact ⟨rfl, rfl⟩
    | cons d more =>
      rw [hrest] at bus
      have found : s.begin.staged b w = s.begin.staged b { w with bus := (s.querying b (d :: more)).bus } := by rw [← bus]
      rw [found]
      exact busChoice_takes (x := s.exchangeFor d .query .survey []) (moved _) rfl (choose_normal rfl rfl rfl)
        (startTaken_plain (b := d) rfl (fun e => by cases e) rfl) rfl
  · cases rest with
    | nil => exact .inr ⟨rfl, rfl⟩
    | cons d more => exact .inl rfl

end Surveying

theorem condition_state_ne (k : Condition) : k.state ≠ .unknown ∧ k.state ≠ .empty := by cases k <;> decide

section Answers

variable {s : State} {b : Bay} {c : Current} {station : Byte} {rest : List Bay} (h : s.Surveying b c station rest)

include h

theorem Surveying.booked : (s.querying b rest).bay.reservation
    = ((s.querying b rest).adm.profiles[(s.querying b rest).bay.cls]).reservation (s.querying b rest).bay.state := h.balanced.1 b

theorem Surveying.idleWork : (Work.none : Work) = if (s.bay b).slot.isSome then .protective else .none := by
  rw [h.slot b]
  rfl

/-- A bay still Unknown stands at the Peak of its class (R7). -/
theorem Surveying.peak : s.adm.committed + (s.profileOf b).peak - (s.bay b).reservation = s.adm.committed := by
  rw [show (s.bay b).reservation = (s.profileOf b).peak by rw [h.balanced.1 b, h.unknown]; rfl]
  exact Nat.add_sub_cancel _ _

/-- The scene of a bay whose report has made its state known (R18, R24). -/
def State.surveyedAs (s : State) (b : Bay) (rest : List Bay) (cond : Byte) (k : Condition) : Scene :=
  { (s.querying b rest).entering b k.state s.now with bay := { s.bay b with
      state := k.state, reservation := (s.profileOf b).reservation k.state, sweepLevel := 0
      deadline := k.state.opKind.map fun o => { due := s.after ((s.profileOf b).time o), kind := o, group := false }
      cache := some { report := { present := true, condition := cond, code := 0 }, time := s.now }
      surveyed := true, known := true } }

/-- A report with present yes (R18, R24). -/
theorem surveying_known {cond : Byte} {k : Condition} (known : conditionOf cond = some k) :
    surveyReport b { present := true, condition := cond, code := 0 } (s.begin.staged b (s.querying b rest))
      = s.begin.staged b (s.surveyedAs b rest cond k) := by
  have free := Surveying.free h
  have running : s.begin.survey.running = true := by rw [show s.begin.survey = _ from h.survey]
  have unknown : (s.bay b).state = .unknown := h.unknown
  unfold surveyReport
  dsimp only
  rw [staged_takeReport known, staged_reconcile (by exact ⟨free.urgent, free.normal, free.current, free.waiting⟩) (by exact h.balanced.1 b)
    (by show k.state ≠ (s.bay b).state; rw [unknown]; exact (condition_state_ne k).1)
    (by show (s.bay b).state.transitional = _; rw [unknown]; rfl) (by exact h.queue b), afterReconciliation, staged_updBay]
  refine (congrArg (fun u : State => u.updBay b _) (if_pos running)).trans ?_
  rw [staged_updBay, staged_updBay]
  rfl

/-- A report with present no (R22, R24). -/
theorem surveying_absent (x y : Byte) :
    surveyReport b { present := false, condition := x, code := y } (s.begin.staged b (s.querying b rest))
      = s.begin.staged b { (s.querying b rest).entering b .empty s.now with bay := { s.bay b with
          state := .empty, reservation := 0, deadline := none, holder := none, sweepLevel := 0, retry := 0
          cache := none, surveyed := true, known := true } } := by
  have free := Surveying.free h
  have running : s.begin.survey.running = true ∧ s.begin.survey.settle = none := by
    rw [show s.begin.survey = _ from h.survey]
    exact ⟨rfl, rfl⟩
  have full : (s.bay b).state ≠ .empty := by
    rw [h.unknown]
    decide
  have empty : (s.bay b).queue = [] := h.queue b
  have taken : takeReport b { present := false, condition := x, code := y } none (s.begin.staged b (s.querying b rest))
      = removeDrive b none (s.begin.staged b { s.querying b rest with bay := { s.bay b with
          cache := some { report := { present := false, condition := x, code := y }, time := s.now } } }) := by
    unfold takeReport
    dsimp only
    rw [storeReport, staged_updBay, if_pos rfl, if_neg (by rw [staged_bay]; exact full)]
    rfl
  unfold surveyReport
  dsimp only
  rw [taken, staged_removes (tag := fun _ => 0) (by exact ⟨free.urgent, free.normal, free.current, free.waiting⟩) (by exact h.admission)
      (by rw [show _ = _ from empty]; exact fun r hr => absurd hr List.not_mem_nil), surveyKnown]
  refine (congrArg (fun u : State => (changeState b .empty u).updBay b _) (if_pos running)).trans ?_
  rw [staged_updBay, staged_changeState (by exact h.balanced.1 b), staged_updBay]
  dsimp only
  rw [show (emptiedReplies (fun _ => (0 : Byte)) (s.bay b).queue) = [] by rw [empty]; rfl]
  have record : ({ s.bay b with queue := [], slot := none, restoreIntent := false } : BayRecord) = s.bay b := by
    rw [← empty, ← h.slot b, ← h.intent b]
  have kept := congrArg (fun e : BayRecord => s.begin.staged b { (s.querying b rest).entering b .empty s.now with bay := { e with
    state := .empty, reservation := 0, deadline := none, holder := none, sweepLevel := 0, retry := 0
    cache := none, surveyed := true, known := true } }) record
  exact kept

/-- A refusal (R16, R24). -/
theorem surveying_unreachable : refuseSurvey b (s.begin.staged b (s.querying b rest))
    = s.begin.staged b { (s.querying b rest).entering b .unreachable s.now with bay := { s.bay b with
        state := .unreachable, deadline := none, surveyed := true } } := by
  have free := Surveying.free h
  have peak : (s.bay b).reservation = (s.profileOf b).peak := by
    rw [h.balanced.1 b, h.unknown]
    rfl
  have record : ({ s.bay b with queue := [], slot := none, reservation := (s.profileOf b).peak } : BayRecord) = s.bay b := by
    rw [← h.queue b, ← h.slot b, ← peak]
  unfold refuseSurvey
  rw [staged_changeState (Surveying.booked h),
    staged_endWork (w := (s.querying b rest).entering b .unreachable s.begin.now) (k := .none) (rs := [])
      (.inl ⟨h.queue b, rfl, Surveying.idleWork h⟩) (Scene.Free.unbusied ⟨free.urgent, free.normal, free.current, free.waiting⟩),
    countBay, staged_updBay]
  have kept := congrArg (fun e : BayRecord => s.begin.staged b { (s.querying b rest).entering b .unreachable s.now with bay := { e with
    state := .unreachable, deadline := none, surveyed := true } }) record
  exact kept

/-- Exhaustion (R16, R24). -/
theorem surveying_faulted (f : FailClass) : countBay b (faultBay b f.state .bus f.secondary none (s.begin.staged b (s.querying b rest)))
    = s.begin.staged b { (s.querying b rest).faulted s.begin b f.state .bus f.secondary [] .none with
        bay := { ((s.querying b rest).faulted s.begin b f.state .bus f.secondary [] .none).bay with surveyed := true } } := by
  rw [staged_faultBay (k := .none) (rs := []) (.inl ⟨h.queue b, rfl, Surveying.idleWork h⟩) (Scene.Free.unbusied (Surveying.free h)), countBay,
    staged_updBay]

end Answers

/-! ### A Loaded bay at a level whose action is Unload (R112, R120) -/

/-- The visit to a Loaded bay on an idle bus at a level whose action is Unload. -/
theorem visitSweep_unloads {s : State} {b : Bay} {o l : Level} (bus : ∃ sent, s.bus = idleBus sent) (waiting : (s.bay b).waiting = [])
    (queue : (s.bay b).queue = []) (slot : (s.bay b).slot = none) (level : s.level b = l) (rises : o.val < l.val)
    (below : (s.bay b).sweepLevel.val < l.val) (action : s.prot.action l = .unload) (loaded : (s.bay b).state = .loaded) :
    visitSweep true b o s = (s.updBay b fun r => r.toPark .unload l).updBus fun u =>
      { u with urgent := u.urgent ++ [s.exchangeFor b .unload .protective []] } := by
  have entry : protEntry .unload (s.bay b).state = .exchange .unload := by
    rw [loaded]
    rfl
  have idle : (s.scene b).Idle := ⟨bus, waiting⟩
  obtain ⟨sent, hbus⟩ := bus
  have visited : visitSweep true b o (s.staged b (s.scene b)) = s.staged b { s.scene b with
      bay := (s.bay b).toPark .unload l
      bus := { s.bus with urgent := s.bus.urgent ++ [s.exchangeFor b .unload .protective []] } } := by
    rw [staged_visitSweep_rises (w := s.scene b) level rises (by rw [action]; decide) (minLevel_below below),
      staged_applyAction (w := { s.scene b with bay := { (s.scene b).bay with sweepLevel := l } }) (k := .unload)
        (op := ProtOp.mk .unload l false false (s.bay b).state.loadedOrLoading)
        (v := { s.scene b with bay := { s.bay b with sweepLevel := l } }) (by rw [action]; rfl)
        (by
          show protEntry _ (s.bay b).state ≠ _
          rw [entry]
          exact fun h => by cases h) (.inl ⟨slot, rfl⟩)
        (fun op' _ _ => preemptHead_none (head_none (by rw [staged_bay]; exact queue))) rfl,
      staged_settle_places (x := .unload) (op := ProtOp.mk .unload l false false (s.bay b).state.loadedOrLoading)
        (by exact ⟨congrArg BusController.urgent hbus, congrArg BusController.normal hbus, waiting⟩) rfl (by exact entry)
        (currentProtective_unbusied (Scene.Idle.unbusied (by exact idle))), if_neg (by decide),
      staged_placeUrgent (by exact idle), forbidAdmitting_none (head_none (by rw [staged_bay]; exact queue))]
    rfl
  rw [staged_scene] at visited
  rw [visited]
  conv_rhs => rw [← staged_scene s b, staged_updBay, staged_updBus]
  rw [staged_scene]
  rfl

/-- A rise from 0 that unloads bay `b`; the others are Off or Empty. -/
structure State.UnloadsOne (s : State) (b : Bay) : Prop where
  bus : ∃ sent, s.bus = idleBus sent
  waiting : ∀ d, (s.bay d).waiting = []
  quiet : s.Quiet
  stopped : ∀ d, d ≠ b → (s.bay d).state = .off ∨ (s.bay d).state = .empty
  loaded : (s.bay b).state = .loaded
  below : (s.bay b).sweepLevel.val < (s.level b).val
  action : s.prot.action (s.level b) = .unload

section UnloadsOne

variable {s : State} {b : Bay} (h : s.UnloadsOne b)

include h

/-- The first pass (R106, R110, R111). -/
theorem foldl_visitSweep_unloads (l : List Bay) (nodup : l.Nodup) :
    ∃ u : State, l.foldl (fun s d => visitSweep true d 0 s) s = u
      ∧ u = { s with
          bays := u.bays
          bus := if (u.bay b).slot = none then s.bus else { s.bus with urgent := [s.exchangeFor b .unload .protective []] } }
      ∧ ∀ c, u.bay c = if c ∈ l then
            if c = b then (s.bay b).toPark .unload (s.level b)
            else { s.bay c with sweepLevel := s.sweptLevel (s.bay c).sweepLevel (s.level c) 0 }
          else s.bay c := by
  have idle : s.bus.urgent = [] := by
    obtain ⟨sent, hbus⟩ := h.bus
    rw [hbus]
    rfl
  obtain ⟨⟨kept, placed⟩, bays⟩ := foldl_bays (f := fun s d => visitSweep true d 0 s)
    (g := fun c => if c = b then (s.bay b).toPark .unload (s.level b)
      else { s.bay c with sweepLevel := s.sweptLevel (s.bay c).sweepLevel (s.level c) 0 })
    (R := fun u => u = { s with bays := u.bays, bus := u.bus }
      ∧ u.bus = if (u.bay b).slot = none then s.bus else { s.bus with urgent := [s.exchangeFor b .unload .protective []] })
    l nodup ⟨rfl, (if_pos (h.quiet.slot b)).symm⟩ fun u d _ ⟨rest, placed⟩ same => by
      have level : u.level d = s.level d := by rw [State.level, same, rest]; rfl
      have prot : u.prot = s.prot := by rw [rest]
      by_cases own : d = b
      · subst own
        have bus : u.bus = s.bus := by
          rw [placed]
          exact if_pos (by rw [same]; exact h.quiet.slot d)
        rw [visitSweep_unloads (l := s.level d) (by rw [bus]; exact h.bus) (by rw [same]; exact h.waiting d) (by rw [same]; exact h.quiet.queue d)
          (by rw [same]; exact h.quiet.slot d) level (Nat.lt_of_le_of_lt (Nat.zero_le _) h.below) (by rw [same]; exact h.below)
          (by rw [prot]; exact h.action) (by rw [same]; exact h.loaded)]
        refine ⟨⟨?_, ?_⟩, fun c => ?_⟩
        · conv_lhs => rw [rest]
          rfl
        · have filled : ((u.updBay d fun r => r.toPark .unload (s.level d)).bay d).slot ≠ none := by
            rw [updBay_bay_same]
            exact fun e => by cases e
          have exchange : u.exchangeFor d .unload .protective [] = s.exchangeFor d .unload .protective [] := by
            unfold State.exchangeFor
            rw [same]
          rw [show ∀ f, ((u.updBay d fun r => r.toPark .unload (s.level d)).updBus f).bay d
            = (u.updBay d fun r => r.toPark .unload (s.level d)).bay d from fun f => rfl, if_neg filled, exchange]
          show ({ u.bus with urgent := u.bus.urgent ++ _ } : BusController) = _
          rw [bus, idle]
          rfl
        · show (u.updBay d fun r => r.toPark .unload (s.level d)).bay c = _
          rw [updBay_bay, if_pos rfl, same]
      · have visited := visitSweep_unnamed (s := u) (b := d) 0 (by rw [same]; exact h.quiet.queue d)
          (by rw [same]; exact protEntry_stopped (h.stopped d own))
        rw [visited]
        have moved (f : BayRecord → BayRecord) : u.updBay d f = { s with bays := (u.updBay d f).bays, bus := u.bus } := by
          conv_lhs => rw [rest]
          rfl
        refine ⟨⟨moved _, ?_⟩, fun c => ?_⟩
        · rw [updBay_bay, if_neg (Ne.symm own)]
          exact placed
        · rw [updBay_bay, if_neg own, level, same]
          unfold State.sweptLevel
          rw [prot]
  exact ⟨_, rfl, placed ▸ kept, bays⟩

/-- The rise places the bay's UNLOAD and nothing else (R106, R112, R120). -/
theorem riseFromZero_unloads (admission : s.adm.queue = []) {l : List Bay} (nodup : l.Nodup) (own : b ∈ l) :
    ∃ u : State, riseFromZero l s = u
      ∧ u = { s with bays := u.bays, bus := { s.bus with urgent := [s.exchangeFor b .unload .protective []] } }
      ∧ u.bay b = (s.bay b).toPark .unload (s.level b) ∧ ∀ c, (u.bay c).waiting = [] := by
  have listed : b ∈ l.filter fun d => (s.bay d).state ≠ .empty := List.mem_filter.mpr ⟨own, by rw [h.loaded]; rfl⟩
  obtain ⟨u, passed, rest, bays⟩ := foldl_visitSweep_unloads h (l.filter fun d => (s.bay d).state ≠ .empty) (nodup.filter _)
  have found : u.bay b = (s.bay b).toPark .unload (s.level b) := by rw [bays, if_pos listed, if_pos rfl]
  have kept (c : Bay) : (u.bay c).queue = [] ∧ (u.bay c).waiting = [] ∧ (u.bay c).restoreIntent = false ∧ (c ≠ b → (u.bay c).slot = none) := by
    rw [bays]
    split
    · split
      · exact ⟨h.quiet.queue b, h.waiting b, h.quiet.intent b, fun other => absurd ‹c = b› other⟩
      · exact ⟨h.quiet.queue c, h.waiting c, h.quiet.intent c, fun _ => h.quiet.slot c⟩
    · exact ⟨h.quiet.queue c, h.waiting c, h.quiet.intent c, fun _ => h.quiet.slot c⟩
  have still (c : Bay) : u.callsForPark c = false := by
    unfold State.callsForPark State.parkUnstarted
    by_cases same : c = b
    · rw [same, found, show ((s.bay b).toPark .unload (s.level b)).state = .loaded from h.loaded]
      rfl
    · rw [(kept c).2.2.2 same]
      rfl
  have parks : placeParks u = u := if_neg (by simp [still])
  refine ⟨u, ?_, ?_, found, fun c => (kept c).2.1⟩
  · unfold riseFromZero carryOut
    simp only [List.foldl_map]
    rw [passed, parks, examine_nil _ (by rw [rest]; exact admission)]
    refine foldl_id _ fun c _ => ?_
    rw [visitRecheck, recheckDeferred_none (head_none (kept c).1), restoreNow_none (kept c).2.2.1]
  · rw [if_neg (by rw [found]; exact fun e => by cases e)] at rest
    exact rest

end UnloadsOne

/-! ### The survey's completion (R25, R120) -/

/-- The survey over, with its notice. -/
def State.surveyTold (s : State) : State :=
  { s with survey := { running := false, settle := none }, notices := s.notices.handAll [.survey s.baysNotEmpty s.now] }

theorem completeSurvey_finished {u : State} (survey : u.survey = { running := true, settle := none }) (all : ∀ b, (u.bay b).surveyed = true) :
    completeSurvey u = riseFromZero (allBays.filter fun b => (u.bay b).known) u.surveyTold := by
  unfold completeSurvey
  rw [if_pos (by rw [survey]; exact ⟨rfl, rfl, List.all_eq_true.mpr fun b _ => all b⟩), postNotice_eq, survey]
  rfl

/-- What the survey's completion leaves ends as an event of its own does. -/
theorem conclude_completed {u v : State} (s0 : State) (complete : completeSurvey u = v) (over_ : v.survey.running = false) :
    conclude s0 u = conclude s0 v := by
  unfold conclude
  rw [complete, completeSurvey_off v over_]

theorem minLevel_zero (l : Level) : minLevel l 0 = 0 := by
  unfold minLevel
  split
  · rfl
  · next h => exact Fin.ext (by simpa using h)

/-- A rise from 0 at level 0 leaves swept nothing (R110, R120). -/
theorem riseFromZero_low {s : State} (q : s.Quiet) (admission : s.adm.queue = []) (low : ∀ b, s.level b = 0) {l : List Bay} (nodup : l.Nodup) :
    riseFromZero l s = { s with bays := (riseFromZero l s).bays }
      ∧ ∀ c, (riseFromZero l s).bay c = if c ∈ l ∧ (s.bay c).state ≠ .empty then { s.bay c with sweepLevel := 0 } else s.bay c := by
  obtain ⟨rest, bays⟩ := carryOut_quiet true (fun _ => 0) (l := l.filter fun b => (s.bay b).state ≠ .empty) q admission (nodup.filter _)
    fun b _ => .inr (.inl (by rw [low]))
  refine ⟨rest, fun c => (bays c).trans ?_⟩
  rw [sweptTo_lowered (.inr (by rw [low])), low, minLevel_zero]
  simp [List.mem_filter]

/-- What the end of an event and its evaluation leave. -/
theorem close_evaluated (v : State) :
    (close (evaluateBudget v)).survey = v.survey ∧ (close (evaluateBudget v)).bus = v.bus ∧ (close (evaluateBudget v)).ffr = v.ffr
      ∧ (close (evaluateBudget v)).adm.committed = v.adm.committed := by
  rw [close_touches, evaluateBudget_eq]
  exact ⟨rfl, rfl, rfl, rfl⟩

section Finished

variable {s : State} {b : Bay} {c : Current} {station : Byte} (h : s.Surveying b c station [])
  (counted : ∀ d, d ≠ b → (s.bay d).surveyed = true) (cond : Byte) (k : Condition)

/-- The part whose last bay has been counted, the survey over. -/
def State.surveyEnded (s : State) (b : Bay) (cond : Byte) (k : Condition) : State := (s.begin.staged b (s.surveyedAs b [] cond k)).surveyTold

theorem surveyEnded_own : (s.surveyEnded b cond k).bay b = (s.surveyedAs b [] cond k).bay := staged_bay

theorem surveyEnded_other {d : Bay} (other : d ≠ b) : (s.surveyEnded b cond k).bay d = s.bay d := staged_other other

theorem surveyEnded_level (d : Bay) : (s.surveyEnded b cond k).level d = s.level d := by
  unfold State.level
  by_cases own : d = b
  · subst own
    rw [surveyEnded_own]
    rfl
  · rw [surveyEnded_other cond k own]
    rfl

include h

theorem surveyEnded_quiet : (s.surveyEnded b cond k).Quiet := by
  have same {α : Type} (field : BayRecord → α) (own : field (s.surveyedAs b [] cond k).bay = field (s.bay b)) (d : Bay) :
      field ((s.surveyEnded b cond k).bay d) = field (s.bay d) := by
    by_cases here : d = b
    · rw [here, surveyEnded_own, own]
    · rw [surveyEnded_other cond k here]
  exact ⟨fun d => (same (·.queue) rfl d).trans (h.queue d), fun d => (same (·.slot) rfl d).trans (h.slot d),
    fun d => (same (·.restoreIntent) rfl d).trans (h.intent d)⟩

theorem surveyEnded_waiting (d : Bay) : ((s.surveyEnded b cond k).bay d).waiting = [] :=
  staged_waiting (s := s.begin) (b := b) (w := s.surveyedAs b [] cond k) (h.waiting b) h.waiting d

include counted

/-- The report that counts the last bay (R24, R25). -/
theorem surveying_finishes {cond : Byte} {k : Condition} (known : conditionOf cond = some k) {v : State}
    (risen : riseFromZero (allBays.filter fun d => d = b ∨ (s.bay d).known) (s.surveyEnded b cond k) = v) (over_ : v.survey.running = false) :
    exec (.ack { initiator := station, payload := [1, cond, 0], check := stationCheck station 0x40 [1, cond, 0] }) s
      = .next (conclude s.begin v) := by
  have all (d : Bay) : ((s.begin.staged b (s.surveyedAs b [] cond k)).bay d).surveyed = true := by
    by_cases own : d = b
    · rw [own, staged_bay]
      rfl
    · rw [staged_other own]
      exact counted d own
  have marks : (allBays.filter fun d => ((s.begin.staged b (s.surveyedAs b [] cond k)).bay d).known)
      = allBays.filter fun d => d = b ∨ (s.bay d).known := by
    refine List.filter_congr fun d _ => ?_
    by_cases own : d = b
    · rw [own, staged_bay]
      simp [State.surveyedAs]
    · rw [staged_other own]
      simp [own]
      rfl
  rw [surveying_report h (reportOf_present known), surveying_known h known]
  refine congrArg Host.Outcome.next (conclude_completed s.begin ?_ over_)
  rw [completeSurvey_finished (u := s.begin.staged b (s.surveyedAs b [] cond k)) h.survey all, marks]
  exact risen

/-- The survey over with every bay at level 0: nothing follows (R25, R120). -/
theorem surveying_completes {cond : Byte} {k : Condition} (known : conditionOf cond = some k) (zero : ∀ d, s.level d = 0) :
    ∃ v : State, v = { s.surveyEnded b cond k with bays := v.bays }
      ∧ (∀ d, v.bay d = if (d = b ∨ (s.bay d).known = true) ∧ ((s.surveyEnded b cond k).bay d).state ≠ .empty
          then { (s.surveyEnded b cond k).bay d with sweepLevel := 0 } else (s.surveyEnded b cond k).bay d)
      ∧ exec (.ack { initiator := station, payload := [1, cond, 0], check := stationCheck station 0x40 [1, cond, 0] }) s
          = .next (close (evaluateBudget v)) := by
  obtain ⟨rest, bays⟩ := riseFromZero_low (surveyEnded_quiet h cond k) h.admission (fun d => (surveyEnded_level cond k d).trans (zero d))
    (allBays_nodup.filter fun d => d = b ∨ (s.bay d).known)
  have finished := surveying_finishes h counted known (v := riseFromZero _ (s.surveyEnded b cond k)) rfl (by rw [rest]; rfl)
  generalize riseFromZero _ (s.surveyEnded b cond k) = v at rest bays finished
  have waiting (d : Bay) : (v.bay d).waiting = [] := by
    rw [bays]
    split
    · exact surveyEnded_waiting h cond k d
    · exact surveyEnded_waiting h cond k d
  have empty : v.bus.urgent = [] ∧ v.bus.normal = [] := by
    rw [rest]
    exact ⟨rfl, rfl⟩
  refine ⟨v, rest, fun d => ?_, finished.trans (congrArg Host.Outcome.next ?_)⟩
  · rw [bays]
    simp [List.mem_filter, mem_allBays]
  · exact conclude_choosing s.begin (completeSurvey_off v (by rw [rest]; rfl)) (busChoice_still waiting (.inr empty)) waiting (.inr empty)
      (by rw [rest]; exact h.admission)

end Finished

/-- The end of an event that has queued the UNLOAD of a Loaded bay on an idle bus (R10, R128). -/
theorem conclude_unloads (s0 : State) {u : State} {b : Bay} {x : Exchange} {op : ProtOp} (survey : u.survey.running = false)
    (waiting : ∀ d, (u.bay d).waiting = []) (admission : u.adm.queue = []) (bus : u.bus = { idleBus [] with urgent := [x] })
    (exchange : x.kind = .unload ∧ x.target = .bay b ∧ x.owner = .protective) (slot : (u.bay b).slot = some op)
    (queue : (u.bay b).queue = []) (loaded : (u.bay b).state = .loaded)
    (booked : (u.bay b).reservation = (u.profileOf b).reservation (u.bay b).state) :
    (conclude s0 u).survey = u.survey
      ∧ (conclude s0 u).bay b = { u.bay b with
          state := .unloading, reservation := (u.profileOf b).active, deadline := none, slot := some { op with started := true } }
      ∧ (conclude s0 u).bus = u.firstAttempt { x with before := (u.bay b).state } ∧ (conclude s0 u).ffr = u.ffr := by
  obtain ⟨kind, target, owner⟩ := exchange
  have chosen := choose_urgent (s := u) (x := x) (rest := []) (by rw [bus])
  generalize hv : u.updBus (fun v => { v with urgent := [] }) = v at chosen
  have vbay (d : Bay) : v.bay d = u.bay d := by rw [← hv]; rfl
  have started := staged_start_protective (s := v) (b := b) (w := v.scene b) (x := x) (st := .unloading) (op := op)
    ((congrArg BayRecord.slot (vbay b)).trans slot) (.inl ((congrArg BayRecord.queue (vbay b)).trans queue)) target owner (by rw [kind]; rfl)
    (by rw [kind, show (v.scene b).bay.state = .loaded from (congrArg BayRecord.state (vbay b)).trans loaded]; rfl)
    (by subst hv; exact booked)
  rw [staged_scene] at started
  rw [conclude_starts s0 survey waiting (by unfold State.mayTake; rw [bus]; rfl) chosen started
    (by unfold State.mayTake State.staged Scene.starting Scene.entering BusController.trying; rfl)
    (staged_waiting (by exact (congrArg BayRecord.waiting (vbay b)).trans (waiting b)) fun d => by rw [vbay]; exact waiting d)
    (by subst hv; exact admission)]
  obtain ⟨told, taken, kept, _⟩ := close_evaluated (v.staged b ({ v.scene b with
    bay := { (v.scene b).bay with slot := some { op with started := true } } }.starting b x .unloading v.now (v.after 50)))
  refine ⟨?_, ?_, ?_, ?_⟩
  · rw [told, ← hv]
    rfl
  · rw [close_bay, evaluateBudget_bay, staged_bay, ← hv]
    rfl
  · rw [taken, ← hv]
    have emptied : (u.updBus fun v => { v with urgent := [] }).bus = idleBus [] := by
      show ({ u.bus with urgent := [] } : BusController) = _
      rw [bus]
      rfl
    show BusController.trying (u.updBus fun v => { v with urgent := [] }).bus _ _ = _
    rw [kind, if_neg (by decide), emptied]
    rfl
  · rw [kept, ← hv]
    rfl

section Unloaded

variable {s : State} {b : Bay} {c : Current} {station : Byte} (h : s.Surveying b c station [])
  (counted : ∀ d, d ≠ b → (s.bay d).surveyed = true) (stopped : ∀ d, d ≠ b → (s.bay d).state = .off ∨ (s.bay d).state = .empty)
  (action : s.prot.action (s.level b) = .unload) (rises : 0 < (s.level b).val)

include h counted stopped action rises

/-- The survey over with the bay Loaded at a level whose action is Unload: its UNLOAD starts in the event (R10, R25, R112, R120). -/
theorem surveying_unloads : ∃ t : State,
    exec (.ack { initiator := station, payload := [1, 4, 0], check := stationCheck station 0x40 [1, 4, 0] }) s = .next t
      ∧ t.survey = { running := false, settle := none }
      ∧ t.bay b = { s.bay b with
          state := .unloading, reservation := (s.profileOf b).active, sweepLevel := s.level b
          slot := some { kind := .unload, level := s.level b, started := true, stopPhase := false, fromLoaded := true }
          deadline := none
          cache := some { report := { present := true, condition := 4, code := 0 }, time := s.now }
          surveyed := true, known := true }
      ∧ t.bus = s.firstAttempt { s.exchangeFor b .unload .protective [] with before := .loaded } ∧ t.ffr = s.ffr := by
  have level := surveyEnded_level (s := s) (b := b) 4 .headsLoaded
  have own := surveyEnded_own (s := s) (b := b) 4 .headsLoaded
  have one : (s.surveyEnded b 4 .headsLoaded).UnloadsOne b := by
    refine ⟨⟨[], rfl⟩, surveyEnded_waiting h 4 .headsLoaded, surveyEnded_quiet h 4 .headsLoaded, fun d other => ?_, ?_, ?_, ?_⟩
    · rw [surveyEnded_other 4 .headsLoaded other]
      exact stopped d other
    · rw [own]
      rfl
    · rw [own, level]
      exact rises
    · rw [level]
      exact action
  obtain ⟨u, risen, rest, found, waiting⟩ := riseFromZero_unloads one h.admission (allBays_nodup.filter fun d => d = b ∨ (s.bay d).known)
    (List.mem_filter.mpr ⟨mem_allBays b, by simp⟩)
  rw [level, own] at found
  have exchange : (s.surveyEnded b 4 .headsLoaded).exchangeFor b .unload .protective []
      = { s.exchangeFor b .unload .protective [] with before := .loaded } := by
    unfold State.exchangeFor
    rw [own]
    rfl
  rw [exchange] at rest
  have profile : u.profileOf b = s.profileOf b := by
    have profiles : u.adm.profiles = s.adm.profiles := by
      rw [rest]
      rfl
    have cls : (u.bay b).cls = (s.bay b).cls := by
      rw [found]
      rfl
    simp only [State.profileOf, cls, profiles]
  obtain ⟨survey, bay, bus, ffr⟩ := conclude_unloads s.begin (u := u) (b := b)
    (op := { kind := .unload, level := s.level b, started := false, stopPhase := false, fromLoaded := true })
    (x := { s.exchangeFor b .unload .protective [] with before := .loaded }) (by rw [rest]; rfl) waiting (by rw [rest]; exact h.admission)
    (by rw [rest]; rfl) ⟨rfl, rfl, rfl⟩ (by rw [found]; rfl) (by rw [found]; exact h.queue b) (by rw [found]; rfl)
    (by rw [profile, found]; rfl)
  refine ⟨_, surveying_finishes h counted (by rfl) risen (by rw [rest]; rfl), ?_, ?_, ?_, ?_⟩
  · rw [survey, rest]
    rfl
  · rw [bay, found, profile]
    rfl
  · rw [bus, found, rest]
    rfl
  · rw [ffr, rest]
    rfl

end Unloaded

/-- The bays counted by the notice of the survey's end (R25). -/
theorem surveyed_baysNotEmpty {s : State} {b : Bay} (cond : Byte) (k : Condition) :
    (s.begin.staged b (s.surveyedAs b [] cond k)).baysNotEmpty = (allBays.filter fun d => d = b ∨ (s.bay d).state ≠ .empty).length := by
  refine congrArg List.length (List.filter_congr fun d _ => ?_)
  by_cases own : d = b
  · rw [own, staged_bay]
    simp [State.surveyedAs, (condition_state_ne k).2]
  · rw [staged_other own]
    simp [own]
    rfl

end Sys2Proof.Machine

namespace Sys2Proof.Proofs

open Sys2Proof.Machine

/-- Settles O43: each end of a QUERY, and the survey's completion with the rises from 0. -/
theorem surveyAnswersCountTheBays : Obligations.SurveyAnswersCountTheBays := by
  intro s b c station rest h
  refine ⟨fun uncounted bus hbus => ?_, fun last counted => ⟨fun cond k known zero => ?_, fun stopped action rises => ?_⟩⟩
  · have hbus : bus = s.queried rest := by
      rw [hbus]
      cases rest <;> rfl
    subst hbus
    refine ⟨fun cond k known => ?_, fun x y => ?_, fun reason => ?_, fun f i limit fails => ?_⟩
    · rw [surveying_report h (reportOf_present known), surveying_known h known]
      refine ⟨_, congrArg Host.Outcome.next (surveying_ends h uncounted rfl (h.waiting b) h.admission), ?_⟩
      generalize ht : close _ = t
      obtain ⟨bay, adm, bus, ffr, keeps, tells⟩ := moved_ends ht rfl rfl
      exact ⟨bay, adm, bus, ffr, keeps, tells⟩
    · rw [surveying_report h (rep := { present := false, condition := x, code := y }) rfl, surveying_absent h x y]
      refine ⟨_, congrArg Host.Outcome.next (surveying_ends h uncounted rfl (h.waiting b) h.admission), ?_⟩
      generalize ht : close _ = t
      obtain ⟨bay, adm, bus, ffr, keeps, tells⟩ := moved_ends ht rfl rfl
      exact ⟨bay, adm, bus, ffr, keeps, tells⟩
    · rw [surveying_refused h, surveying_unreachable h]
      refine ⟨_, congrArg Host.Outcome.next (surveying_ends h uncounted rfl (h.waiting b) h.admission), ?_⟩
      generalize ht : close _ = t
      obtain ⟨bay, adm, bus, ffr, keeps, tells⟩ := moved_ends ht rfl rfl
      have adm' := (adm.trans (congrArg s.adm.committing (Surveying.peak h))).trans (committing_self h.flag)
      rw [adm', show s.begin.budgetNews s.adm.committed = [] from budgetNews_self h.flag, List.append_nil] at tells
      exact ⟨bay, adm', bus, ffr, keeps, tells⟩
    · rw [surveying_exhausted h limit fails, surveying_faulted h f]
      refine ⟨_, congrArg Host.Outcome.next (surveying_ends h uncounted rfl (h.waiting b) h.admission), ?_⟩
      generalize ht : close _ = t
      obtain ⟨bay, adm, bus, ffr, keeps, tells⟩ := moved_ends ht rfl rfl
      have adm' : t.adm = s.adm := by
        refine (adm.trans (congrArg s.adm.committing ?_)).trans (committing_self h.flag)
        rw [← Surveying.peak h]
        cases f <;> rfl
      refine ⟨bay.trans ?_, adm', bus, ffr, keeps, ?_⟩
      · cases f <;> rfl
      · cases f <;> exact tells
  · subst last
    obtain ⟨v, rest, bays, finished⟩ := surveying_completes h counted known zero
    rw [finished]
    refine ⟨_, rfl, ?_⟩
    obtain ⟨survey, bus, ffr, committed⟩ := close_evaluated v
    have told : s.Tells (close (evaluateBudget v)) [] (s.bayNews b k.state
        ++ [.survey (allBays.filter fun d => d = b ∨ (s.bay d).state ≠ .empty).length s.now] ++ s.budgetNews v.adm.committed) := by
      have link : v.link = s.link := by
        rw [rest]
        exact congrArg (fun rs => { s.link with replies := rs }) (List.append_nil s.link.replies)
      refine tells_close (by rw [evaluateBudget_eq]; exact link) ?_
      rw [evaluateBudget_eq, rest, handAll_append, handAll_append, ← surveyed_baysNotEmpty cond k]
      rfl
    refine ⟨?_, fun d other => ?_, ?_, ?_, ?_, ?_⟩
    · rw [survey, rest]
      rfl
    · rw [close_bay, evaluateBudget_bay, bays, surveyEnded_other cond k other]
      simp only [other, false_or]
      split <;> rfl
    · rw [close_bay, evaluateBudget_bay, bays, surveyEnded_own, if_pos ⟨.inl rfl, (condition_state_ne k).2⟩]
      rfl
    · rw [bus, rest]
      rfl
    · rw [ffr, rest]
      rfl
    · rw [committed]
      exact told
  · subst last
    obtain ⟨v, finished, survey, bay, bus, ffr⟩ := surveying_unloads h counted stopped action rises
    rw [finished]
    exact ⟨_, rfl, survey, bay, bus, ffr⟩

end Sys2Proof.Proofs
end

section
/-! PROOFS. Group requests: the arrival, what each member's joining leaves, and the group record (R49 to R52). -/

namespace Sys2Proof.Machine

set_option Elab.async false

/-! ### The arrival (R26, R27, R50) -/

theorem allows_group {k : ReqKind} {t : ReqTarget} (governed : k.governed = true) (group : (∃ r, t = .row r) ∨ t = .all) :
    (FrameKind.queued k).allows t = true :=
  allows_true ⟨fun ⟨_, h⟩ => (by cases h), fun h => (by rcases group with ⟨_, rfl⟩ | rfl <;> cases h)⟩ fun h => by
    rcases h with h | h
    · cases h
      cases governed
    · cases h
      cases governed

theorem requestBays_group {t : ReqTarget} (group : (∃ r, t = .row r) ∨ t = .all) (k : ReqKind) (src : Source) (tag : Byte) (s : State) :
    requestBays k src tag [] t s = requestGroup k src tag (targetBays t) s := by
  rcases group with ⟨r, rfl⟩ | rfl
  · rfl
  · rfl

section Arrival

variable {s : State} {k : ReqKind} {h : Header} {t : ReqTarget} {src : Source} (rest : s.Resting) (hs : s.Hears h t src)
  (governed : k.governed = true) (group : (∃ r, t = .row r) ∨ t = .all)

include rest hs governed group

theorem exec_group : exec (k.command h []) s = .next (conclude s.heard (requestGroup k src h.tag (targetBays t) s.heard)) := by
  rw [exec_served (command_frame k h []) hs (Nat.zero_le _) (.inl rest.survey) (allows_group governed group) (lengthFault_none (.inl rfl)),
    serveRequest_queued, requestBays_group group]

end Arrival

/-- The members of a group request that pass their checks. -/
def State.passing (s : State) (k : ReqKind) (src : Source) (bays : List Bay) : List Bay :=
  bays.filter fun b => s.memberFailure k src b = none

theorem groupMembers_queued (s : State) (k : ReqKind) (src : Source) (bays : List Bay) :
    (s.groupMembers k src bays).filter (·.result.isNone) = (s.passing k src bays).map fun b => { bay := b, result := none } := by
  unfold State.groupMembers State.passing
  rw [List.filter_map]
  refine (List.map_congr_left fun b hb => ?_).trans (congrArg (List.map _) (List.filter_congr fun b _ => ?_))
  · have mem := (List.mem_filter.mp hb).2
    have passes : s.memberFailure k src b = none := by simpa using mem
    rw [passes]
  · cases h : s.memberFailure k src b <;> simp [h]

/-- Where no member passes, or no record is free, the reply is placed at once (R50). -/
theorem requestGroup_refused {s : State} {k : ReqKind} {src : Source} {bays : List Bay}
    (refused : s.passing k src bays = [] ∨ s.freeGroup = none) (tag : Byte) :
    requestGroup k src tag bays s = placeReply (groupReply tag (bays.map fun b =>
      (b, (s.memberFailure k src b).getD { code := .busy, secondary := 0 }))) s := by
  have filled : fillResults (.plain .busy) (s.groupMembers k src bays)
      = bays.map fun b => (b, (s.memberFailure k src b).getD { code := .busy, secondary := 0 }) := by
    unfold fillResults State.groupMembers
    rw [List.map_map]
    rfl
  unfold requestGroup
  dsimp only
  rw [groupMembers_queued, filled]
  rcases refused with none | none
  · rw [none]
    rfl
  · rw [none]
    exact ite_self _

/-- The part whose group request has taken record `g` (R49). -/
def State.grouping (s : State) (g : Fin 8) (rec : GroupRecord) : State := { s with groups := s.groups.set g (some rec) }

theorem requestGroup_taken {s : State} {k : ReqKind} {src : Source} {bays : List Bay} {g : Fin 8} (passing : s.passing k src bays ≠ [])
    (free : s.freeGroup = some g) (tag : Byte) :
    requestGroup k src tag bays s = (s.passing k src bays).foldl (fun u b => acceptRequest b (entryOf k src tag (some g) []) u)
      (s.grouping g { tag := tag, members := s.groupMembers k src bays, outstanding := (s.passing k src bays).length }) := by
  unfold requestGroup
  dsimp only
  rw [groupMembers_queued, if_neg (by simp [passing]), free, List.length_map]
  dsimp only
  rw [List.foldl_map]
  rfl

theorem freeGroup_none {s : State} (h : ∀ g : Fin 8, s.groups[g] ≠ none) : s.freeGroup = none :=
  List.find?_eq_none.mpr fun g _ => by simpa using h g

theorem mem_groups (g : Fin 8) : g ∈ [(0 : Fin 8), 1, 2, 3, 4, 5, 6, 7] := by revert g; decide

theorem freeGroup_some {s : State} (h : ∃ g : Fin 8, s.groups[g] = none) : ∃ g : Fin 8, s.freeGroup = some g ∧ s.groups[g] = none := by
  cases hg : s.freeGroup with
  | none =>
    obtain ⟨g, free⟩ := h
    have taken := List.find?_eq_none.mp hg g (mem_groups g)
    rw [free] at taken
    exact absurd rfl taken
  | some g => exact ⟨g, rfl, by simpa using List.find?_some hg⟩

/-! ### The record of a group request (R49, R51, R52) -/

/-- The record after a member's result. -/
def GroupRecord.filled (rec : GroupRecord) (b : Bay) (c : Completion) : GroupRecord :=
  { rec with
    members := rec.members.map fun m => if m.bay = b then { m with result := some c } else m
    outstanding := rec.outstanding - 1 }

/-- A record that is kept while results are outstanding, and gives its reply and goes with the last. -/
def State.settling (s : State) (g : Fin 8) (rec : GroupRecord) : State :=
  if rec.outstanding = 0 then placeReply (groupReply rec.tag rec.results) { s with groups := s.groups.set g none } else s.grouping g rec

theorem recordMember_eq {s : State} {g : Fin 8} {rec : GroupRecord} (stands : s.groups[g] = some rec) (b : Bay) (c : Completion) :
    recordMember g b c s = s.settling g (rec.filled b c) := by
  unfold recordMember
  rw [stands]
  rfl

/-- A member's result, where it has one in the event. -/
def recordResult (g : Fin 8) (b : Bay) (r : Option Completion) (s : State) : State := r.elim s fun c => recordMember g b c s

def GroupRecord.filledWith (rec : GroupRecord) (b : Bay) (r : Option Completion) : GroupRecord := r.elim rec (rec.filled b)

/-- Members without results leave what their results would change. -/
theorem foldl_pending {α : Type} {result : Bay → Option Completion} (f : α → Bay → Option Completion → α) (keeps : ∀ a d, f a d none = a)
    (l : List Bay) (pending : ∀ d ∈ l, result d = none) (a : α) : l.foldl (fun a d => f a d (result d)) a = a := by
  induction l generalizing a with
  | nil => rfl
  | cons d l ih =>
    rw [List.foldl_cons, pending d List.mem_cons_self, keeps]
    exact ih (fun e he => pending e (List.mem_cons_of_mem d he)) a

/-- The results of several members, one after the other. -/
theorem foldl_recordResult (g : Fin 8) (result : Bay → Option Completion) (l : List Bay) :
    ∀ (s : State) (rec : GroupRecord), (l.filter fun b => (result b).isSome).length ≤ rec.outstanding → 0 < rec.outstanding →
      l.foldl (fun u b => recordResult g b (result b) u) (s.grouping g rec)
        = s.settling g (l.foldl (fun r b => r.filledWith b (result b)) rec) := by
  induction l with
  | nil => exact fun s rec _ kept => (if_neg (Nat.ne_of_gt kept)).symm
  | cons b l ih =>
    intro s rec room kept
    rw [List.foldl_cons, List.foldl_cons]
    cases hb : result b with
    | none =>
      rw [List.filter_cons_of_neg (by simp [hb])] at room
      exact ih s rec room kept
    | some c =>
      rw [List.filter_cons_of_pos (by simp [hb]), List.length_cons] at room
      have stands : (s.grouping g rec).groups[g] = some rec := by simp [State.grouping]
      have recorded : recordResult g b (some c) (s.grouping g rec) = s.settling g (rec.filled b c) := by
        refine (recordMember_eq stands b c).trans ?_
        unfold State.settling State.grouping
        simp
      rw [recorded]
      by_cases last : (rec.filled b c).outstanding = 0
      · have spent : l.filter (fun b => (result b).isSome) = [] := by
          have bound : rec.outstanding - 1 = 0 := last
          exact List.eq_nil_of_length_eq_zero (by omega)
        have pending : ∀ d ∈ l, result d = none := fun d hd => by simpa using List.filter_eq_nil_iff.mp spent d hd
        rw [foldl_pending (fun u d r => recordResult g d r u) (fun _ _ => rfl) l pending,
          foldl_pending (fun r d x => GroupRecord.filledWith r d x) (fun _ _ => rfl) l pending]
        rfl
      · have kept' : 0 < (rec.filled b c).outstanding := Nat.pos_of_ne_zero last
        rw [State.settling, if_neg last]
        exact ih s (rec.filled b c) (by show _ ≤ rec.outstanding - 1; omega) kept'

/-- What the results of several members make of the record. -/
theorem foldl_filledWith (result : Bay → Option Completion) (l : List Bay) : ∀ rec : GroupRecord,
    l.foldl (fun r b => r.filledWith b (result b)) rec = { rec with
      members := rec.members.map fun m => if m.bay ∈ l ∧ (result m.bay).isSome then { m with result := result m.bay } else m
      outstanding := rec.outstanding - (l.filter fun b => (result b).isSome).length } := by
  induction l with
  | nil => intro rec; simp
  | cons b l ih =>
    intro rec
    rw [List.foldl_cons, ih]
    cases hb : result b with
    | none =>
      rw [List.filter_cons_of_neg (by simp [hb])]
      show ({ rec with members := _, outstanding := _ } : GroupRecord) = _
      congr 1
      refine List.map_congr_left fun m _ => ?_
      by_cases own : m.bay = b
      · simp [own, hb]
      · simp [own]
    | some c =>
      rw [List.filter_cons_of_pos (by simp [hb]), List.length_cons]
      show ({ rec with members := _, outstanding := _ } : GroupRecord) = _
      congr 1
      · show (rec.filled b c).members.map _ = _
        unfold GroupRecord.filled
        rw [List.map_map]
        refine List.map_congr_left fun m _ => ?_
        by_cases own : m.bay = b
        · simp [own, hb]
        · simp [own]
      · show rec.outstanding - 1 - _ = _
        omega

end Sys2Proof.Machine
end

section
/-! PROOFS. The members of a group request join their bay queues one after the other (R29, R49, R50). -/

namespace Sys2Proof.Machine

set_option Elab.async false

/-! ### What one member's joining leaves -/

/-- What a member's joining leaves: its Bay Record, its Admission Queue entries, its exchanges, and its result where it has one. -/
structure Joined where
  record : BayRecord
  entries : List AdmEntry
  exchanges : List Exchange
  result : Option Completion

def State.joins (s : State) (b : Bay) (j : Joined) : State :=
  { s with
    bays := s.bays.set b j.record, adm := { s.adm with queue := s.adm.queue ++ j.entries }
    bus := { s.bus with normal := s.bus.normal ++ j.exchanges } }

theorem joins_bay (s : State) (b : Bay) (j : Joined) (c : Bay) : (s.joins b j).bay c = if c = b then j.record else s.bay c :=
  updBay_bay s b c fun _ => j.record

theorem staged_joins (s : State) (b : Bay) (j : Joined) : s.staged b { s.scene b with
    bay := j.record, adm := { s.adm with queue := s.adm.queue ++ j.entries }, bus := { s.bus with normal := s.bus.normal ++ j.exchanges } }
    = s.joins b j := by
  simp [State.staged, State.joins, State.scene, NoticeQueue.handAll]

/-- A result is recorded in the group records and, with the last, among the replies. -/
theorem recordResult_touches (g : Fin 8) (b : Bay) (r : Option Completion) (s : State) : recordResult g b r s = { s with
    groups := (recordResult g b r s).groups, link := { s.link with replies := (recordResult g b r s).link.replies } } := by
  cases r with
  | none => rfl
  | some c =>
    simp only [recordResult, Option.elim, recordMember]
    cases s.groups[g] with
    | none => rfl
    | some rec =>
      dsimp only
      split
      · rfl
      · rfl

theorem recordResult_bay (g : Fin 8) (b : Bay) (r : Option Completion) (s : State) (c : Bay) : (recordResult g b r s).bay c = s.bay c := by
  rw [recordResult_touches]
  rfl

/-- A result is recorded alike whatever else joins. -/
theorem joins_recordResult (g : Fin 8) (b : Bay) (r : Option Completion) (s : State) (d : Bay) (j : Joined) :
    (recordResult g b r s).joins d j = recordResult g b r (s.joins d j) := by
  cases r with
  | none => rfl
  | some c =>
    simp only [recordResult, Option.elim, recordMember]
    rw [show (s.joins d j).groups = s.groups from rfl]
    cases s.groups[g] with
    | none => rfl
    | some rec =>
      dsimp only
      split
      · rfl
      · rfl

theorem foldl_joins_recordResult (g : Fin 8) (b : Bay) (r : Option Completion) (j : Bay → Joined) (l : List Bay) (s : State) :
    l.foldl (fun u d => u.joins d (j d)) (recordResult g b r s) = recordResult g b r (l.foldl (fun u d => u.joins d (j d)) s) := by
  induction l generalizing s with
  | nil => rfl
  | cons d l ih => rw [List.foldl_cons, List.foldl_cons, joins_recordResult, ih]

theorem foldl_joins_grouping (g : Fin 8) (rec : GroupRecord) (j : Bay → Joined) (l : List Bay) (s : State) :
    l.foldl (fun u d => u.joins d (j d)) (s.grouping g rec) = (l.foldl (fun u d => u.joins d (j d)) s).grouping g rec := by
  induction l generalizing s with
  | nil => rfl
  | cons d l ih => exact ih (s.joins d (j d))

/-- What several members' joining leaves. -/
theorem foldl_joins (j : Bay → Joined) (l : List Bay) (s : State) :
    l.foldl (fun u d => u.joins d (j d)) s = { s with
        bays := (l.foldl (fun u d => u.joins d (j d)) s).bays
        adm := { s.adm with queue := s.adm.queue ++ l.flatMap fun b => (j b).entries }
        bus := { s.bus with normal := s.bus.normal ++ l.flatMap fun b => (j b).exchanges } }
      ∧ ∀ c, (l.foldl (fun u d => u.joins d (j d)) s).bay c = if c ∈ l then (j c).record else s.bay c := by
  induction l generalizing s with
  | nil => simp
  | cons b l ih =>
    obtain ⟨rest, bays⟩ := ih (s.joins b (j b))
    refine ⟨?_, fun c => ?_⟩
    · rw [List.foldl_cons]
      conv_lhs => rw [rest]
      simp [State.joins]
    · rw [List.foldl_cons, bays, joins_bay]
      by_cases own : c = b
      · simp [own]
      · simp [own]

/-! ### The joining of all members -/

/-- While members join, only the bays, the group records, the Admission Queue, the Normal queue and the replies change. -/
def State.Gathers (s u : State) : Prop :=
  u = { s with
    bays := u.bays, groups := u.groups, adm := { s.adm with queue := u.adm.queue }, bus := { s.bus with normal := u.bus.normal }
    link := { s.link with replies := u.link.replies } }

theorem Gathers.joins {s u : State} (h : s.Gathers u) (b : Bay) (j : Joined) : s.Gathers (u.joins b j) := by
  unfold State.Gathers at h ⊢
  rw [h]
  rfl

theorem Gathers.recordResult {s u : State} (h : s.Gathers u) (g : Fin 8) (b : Bay) (r : Option Completion) :
    s.Gathers (Machine.recordResult g b r u) := by
  have touches := recordResult_touches g b r u
  unfold State.Gathers at h ⊢
  generalize Machine.recordResult g b r u = v at touches ⊢
  rw [touches, h]

/-- Members that join where nothing else stands for their bays: first all join, then the results are recorded. -/
theorem foldl_accept {s : State} {accept : State → Bay → State} {j : Bay → Joined} {g : Fin 8} (l : List Bay) (nodup : l.Nodup)
    (own : ∀ b ∈ l, ∀ x ∈ (j b).exchanges, ∀ d, d ≠ b → x.serves d = false)
    (step : ∀ u, ∀ b ∈ l, s.Gathers u → u.bay b = s.bay b → (∀ x ∈ u.bus.normal, x.serves b = false) →
      accept u b = recordResult g b (j b).result (u.joins b (j b))) :
    ∀ u, s.Gathers u → (∀ b ∈ l, u.bay b = s.bay b ∧ ∀ x ∈ u.bus.normal, x.serves b = false) →
      l.foldl accept u
        = l.foldl (fun u b => recordResult g b (j b).result u) (l.foldl (fun u b => u.joins b (j b)) u) := by
  induction l with
  | nil => exact fun _ _ _ => rfl
  | cons b l ih =>
    obtain ⟨fresh, nodup⟩ := List.nodup_cons.mp nodup
    intro u gathers stands
    obtain ⟨same, apart⟩ := stands b List.mem_cons_self
    rw [List.foldl_cons, step u b List.mem_cons_self gathers same apart,
      ih nodup (fun d hd => own d (List.mem_cons_of_mem b hd)) (fun v d hd => step v d (List.mem_cons_of_mem b hd)) _
        (Gathers.recordResult (Gathers.joins gathers b (j b)) g b (j b).result) fun d hd => ?_,
      foldl_joins_recordResult]
    · rfl
    · have other : d ≠ b := fun e => fresh (e ▸ hd)
      obtain ⟨same, apart⟩ := stands d (List.mem_cons_of_mem b hd)
      refine ⟨by rw [recordResult_bay, joins_bay, if_neg other, same], fun x hx => ?_⟩
      rw [recordResult_touches] at hx
      rcases List.mem_append.mp hx with hx | hx
      · exact apart x hx
      · exact own b List.mem_cons_self x hx d other

/-! ### The group request in a free record -/

section Taken

variable {s : State} {k : ReqKind} {src : Source} {bays : List Bay} {g : Fin 8} {j : Bay → Joined} {result : Bay → Option Completion}

/-- The group record once every member has joined. -/
def groupRecord (tag : Byte) (bays : List Bay) (result : Bay → Option Completion) : GroupRecord :=
  { tag := tag, members := bays.map fun b => { bay := b, result := result b }
    outstanding := (bays.filter fun b => (result b).isNone).length }

/-- Where the members' results stand as they join, the record is as the results make it. -/
theorem foldl_groupRecord (tag : Byte) (passed : ∀ b ∈ bays, s.memberFailure k src b = none ∨ s.memberFailure k src b = result b) :
    (s.passing k src bays).foldl (fun r b => r.filledWith b (result b))
        { tag := tag, members := s.groupMembers k src bays, outstanding := (s.passing k src bays).length }
      = groupRecord tag bays result := by
  have member (b : Bay) (hb : b ∈ bays) : b ∈ s.passing k src bays ↔ s.memberFailure k src b = none := by
    simp [State.passing, hb]
  rw [foldl_filledWith]
  unfold groupRecord
  congr 1
  · unfold State.groupMembers
    rw [List.map_map]
    refine List.map_congr_left fun b hb => ?_
    simp only [Function.comp, member b hb]
    rcases passed b hb with passes | fails
    · cases hr : result b <;> simp [passes]
    · rw [fails]
      cases hr : result b <;> simp
  · have counted (l : List Bay) : l.length - (l.filter fun b => (result b).isSome).length = (l.filter fun b => (result b).isNone).length := by
      induction l with
      | nil => rfl
      | cons b l ih =>
        have bound := List.length_filter_le (fun b => (result b).isSome) l
        cases hb : result b
        · simp only [List.filter_cons, hb, List.length_cons, Option.isSome_none, Option.isNone_none, Bool.false_eq_true, if_false, if_true]
          omega
        · simp only [List.filter_cons, hb, List.length_cons, Option.isSome_some, Option.isNone_some, Bool.false_eq_true, if_false, if_true]
          omega
    rw [counted]
    unfold State.passing
    rw [List.filter_filter]
    refine congrArg List.length (List.filter_congr fun b hb => ?_)
    rcases passed b hb with passes | fails
    · simp [passes]
    · rw [fails]
      cases hr : result b <;> simp

theorem requestGroup_joins (tag : Byte) (nodup : bays.Nodup) (free : s.freeGroup = some g) (passing : s.passing k src bays ≠ [])
    (passed : ∀ b ∈ bays, s.memberFailure k src b = none ∨ s.memberFailure k src b = result b)
    (results : ∀ b ∈ s.passing k src bays, (j b).result = result b) (normal : s.bus.normal = [])
    (own : ∀ b ∈ s.passing k src bays, ∀ x ∈ (j b).exchanges, ∀ d, d ≠ b → x.serves d = false)
    (step : ∀ u, ∀ b ∈ s.passing k src bays, s.Gathers u → u.bay b = s.bay b → (∀ x ∈ u.bus.normal, x.serves b = false) →
      acceptRequest b (entryOf k src tag (some g) []) u = recordResult g b (j b).result (u.joins b (j b))) :
    requestGroup k src tag bays s
      = ((s.passing k src bays).foldl (fun u b => u.joins b (j b)) s).settling g (groupRecord tag bays result) := by
  have recorded (u : State) : (s.passing k src bays).foldl (fun u b => recordResult g b (j b).result u) u
      = (s.passing k src bays).foldl (fun u b => recordResult g b (result b) u) u :=
    List.foldl_ext _ _ _ fun v b hb => by rw [results b hb]
  have joined (rec : GroupRecord) := foldl_accept (s := s) (g := g) (accept := fun u b => acceptRequest b (entryOf k src tag (some g) []) u)
    (s.passing k src bays) (nodup.filter _) own step (s.grouping g rec) rfl fun b _ => ⟨rfl, fun x hx => by
      rw [show (s.grouping g rec).bus.normal = [] from normal] at hx
      cases hx⟩
  rw [requestGroup_taken passing free]
  refine (joined _).trans ?_
  rw [foldl_joins_grouping, recorded]
  exact (foldl_recordResult g result _ _ _ (List.length_filter_le _ _) (List.length_pos_iff.mpr passing)).trans
    (congrArg _ (foldl_groupRecord tag passed))

end Taken

end Sys2Proof.Machine
end

section
/-! PROOFS. Group requests whose members fail, complete at once, or wait (R29, R32, R34, R50 to R52). -/

namespace Sys2Proof.Machine

set_option Elab.async false

/-! ### One member (R29, R32) -/

/-- The queue entry of a pending member, in its phase. -/
def memberEntry (k : ReqKind) (src : Source) (tag : Byte) (g : Fin 8) : Option (Phase × Option Count) → List Request
  | some (p, w) => [{ kind := k, origin := .upstream src tag (some g), payload := [], phase := p, wait := w }]
  | none => []

/-- What the joining of a member leaves that starts no exchange. -/
def BayRecord.gathered (e : BayRecord) (entry : List Request) (q : List AdmEntry) (result : Option Completion) : Joined :=
  { record := { e with restoreIntent := false, queue := e.queue ++ entry }, entries := q, exchanges := [], result := result }

section Member

variable {s u : State} {k : ReqKind} {src : Source} {b : Bay} {g : Fin 8}

/-- The bay's level and the budget decide alike while members join. -/
theorem gathers_decides (gathers : s.Gathers u) (same : u.bay b = s.bay b) (a : AdmKind) :
    u.permits b a = s.permits b a ∧ u.admits { bay := b, kind := a } = s.admits { bay := b, kind := a } := by
  have profiles : u.adm.profiles = s.adm.profiles := by rw [gathers]
  have profile : u.profileOf b = s.profileOf b := by simp only [State.profileOf, same, profiles]
  constructor
  · unfold State.permits State.level
    rw [same, show u.prot = s.prot by rw [gathers]]
  · rw [admits_scene, admits_scene, profile, same, gathers]

theorem acceptRequest_gets {result : Option Completion} {entry : Option (Phase × Option Count)} {q : List AdmEntry} (gathers : s.Gathers u)
    (same : u.bay b = s.bay b) (governed : k.governed = true) (passes : s.memberFailure k src b = none)
    (gets : s.MemberGets k src b result entry q) (tag : Byte) :
    acceptRequest b (entryOf k src tag (some g) []) u
      = recordResult g b result (u.joins b ((s.bay b).gathered (memberEntry k src tag g entry) q result)) := by
  have intent : ((s.bay b).restoreIntent && !(entryOf k src tag (some g) []).kind.governed) = false := by
    show (_ && !k.governed) = false
    rw [governed]
    simp
  have due : u.waitDeadline = s.waitDeadline := by
    rw [gathers]
    rfl
  have first (empty : (s.bay b).queue = []) := staged_acceptRequest_first (s := u) (w := u.scene b) (b := b) (by rw [← same] at empty; exact empty)
    (entryOf k src tag (some g) [])
  rw [staged_scene, show (u.scene b).bay = s.bay b from same, intent, due] at first
  rcases gets with ⟨⟨c, fails, _⟩, _⟩ | ⟨_, ⟨behind, rfl, rfl, rfl⟩ | ⟨empty, ⟨c, ⟨slot, completes⟩, rfl⟩, rfl, rfl⟩ | ⟨empty, rfl, p, waits, rfl⟩⟩
  · rw [passes] at fails
    cases fails
  · have joined := staged_acceptRequest_behind (s := u) (w := u.scene b) (b := b) (by rw [← same] at behind; exact behind)
      (entryOf k src tag (some g) [])
    rw [staged_scene, show (u.scene b).bay = s.bay b from same, intent] at joined
    rw [joined]
    refine Eq.trans ?_ (staged_joins u b _)
    unfold BayRecord.gathered
    dsimp only
    rw [List.append_nil, List.append_nil]
    rfl
  · rw [first empty, staged_check_completes (c := c) rfl rfl slot rfl completes, ← staged_deliver]
    refine congrArg (recordMember g b c) (Eq.trans ?_ (staged_joins u b _))
    unfold BayRecord.gathered memberEntry
    simp only [List.append_nil]
    rw [empty]
    rfl
  · rw [first empty, staged_check_waits (p := p) (q := q) rfl rfl (headWaits_congr (u := s) (by rw [staged_bay]) (by rw [staged_bay]) (fun a => ?_)
      (fun a => ?_) waits)]
    · refine Eq.trans ?_ (staged_joins u b _)
      unfold BayRecord.gathered memberEntry
      dsimp only
      rw [List.append_nil, empty]
      rfl
    · refine Eq.trans ?_ (gathers_decides gathers same a).1
      rw [State.permits, staged_level, State.permits, State.level, same]
      rfl
    · refine Eq.trans ?_ (gathers_decides gathers same a).2
      rw [staged_admits, admits_scene]
      simp only [State.profileOf, same]
      rfl

end Member

/-! ### The whole request -/

theorem groupRecord_results {tag : Byte} {bays : List Bay} {result : Bay → Option Completion} {f : Bay → Completion}
    (h : ∀ b ∈ bays, result b = some (f b)) : (groupRecord tag bays result).results = bays.map fun b => (b, f b) := by
  unfold GroupRecord.results groupRecord
  dsimp only
  rw [List.filterMap_map, ← List.filterMap_eq_map]
  exact List.filterMap_congr fun b hb => by simp [h b hb]

theorem groupRecord_full {tag : Byte} {bays : List Bay} {result : Bay → Option Completion} :
    (groupRecord tag bays result).outstanding = 0 ↔ ∀ b ∈ bays, result b ≠ none := by
  unfold groupRecord
  simp [List.filter_eq_nil_iff]

theorem settling_touches (s : State) (g : Fin 8) (rec : GroupRecord) :
    s.settling g rec = { s with groups := (s.settling g rec).groups, link := (s.settling g rec).link } := by
  unfold State.settling
  split
  · rfl
  · rfl

/-- A free record that is settled with every result known stays free. -/
theorem settling_full {s : State} {g : Fin 8} {rec : GroupRecord} (free : s.groups[g] = none) (full : rec.outstanding = 0) :
    s.settling g rec = placeReply (groupReply rec.tag rec.results) s := by
  have same : s.groups.set g none = s.groups := by
    rw [← free]
    simp
  rw [State.settling, if_pos full, same]

/-- The members of a group request that is refused are recorded as they fail (R50). -/
theorem requestGroup_settles {s : State} {k : ReqKind} {src : Source} {bays : List Bay} {g : Fin 8} {j : Bay → Joined}
    {result : Bay → Option Completion} (tag : Byte) (nodup : bays.Nodup) (free : s.freeGroup = some g) (unused : s.groups[g] = none)
    (passed : ∀ b ∈ bays, s.memberFailure k src b = none ∨ s.memberFailure k src b = result b)
    (results : ∀ b ∈ s.passing k src bays, (j b).result = result b) (normal : s.bus.normal = [])
    (own : ∀ b ∈ s.passing k src bays, ∀ x ∈ (j b).exchanges, ∀ d, d ≠ b → x.serves d = false)
    (step : ∀ u, ∀ b ∈ s.passing k src bays, s.Gathers u → u.bay b = s.bay b → (∀ x ∈ u.bus.normal, x.serves b = false) →
      acceptRequest b (entryOf k src tag (some g) []) u = recordResult g b (j b).result (u.joins b (j b))) :
    requestGroup k src tag bays s
      = ((s.passing k src bays).foldl (fun u b => u.joins b (j b)) s).settling g (groupRecord tag bays result) := by
  by_cases passing : s.passing k src bays = []
  · have fails (b : Bay) (hb : b ∈ bays) : ∃ c, s.memberFailure k src b = some c ∧ result b = some c := by
      have no := List.filter_eq_nil_iff.mp passing b hb
      cases hf : s.memberFailure k src b with
      | none => exact absurd (decide_eq_true hf) no
      | some c => exact ⟨c, rfl, by rw [← hf]; exact ((passed b hb).resolve_left (by rw [hf]; exact fun e => by cases e)).symm⟩
    have full : (groupRecord tag bays result).outstanding = 0 := groupRecord_full.mpr fun b hb => by
      obtain ⟨c, _, hc⟩ := fails b hb
      rw [hc]
      exact fun e => by cases e
    rw [requestGroup_refused (.inl passing), passing, List.foldl_nil, settling_full unused full,
      groupRecord_results (f := fun b => (s.memberFailure k src b).getD { code := .busy, secondary := 0 }) fun b hb => by
        obtain ⟨c, hf, hc⟩ := fails b hb
        rw [hf, hc]
        rfl]
    rfl
  · exact requestGroup_joins tag nodup free passing passed results normal own step

/-- An event that leaves the bus nothing to start and the Admission Unit nothing to grant ends at its port and its alert line. -/
theorem conclude_still {u : State} (s0 : State) (survey : u.survey.running = false) (urgent : u.bus.urgent = []) (normal : u.bus.normal = [])
    (waiting : ∀ b, (u.bay b).waiting = []) (flag : u.FlagFollows)
    (admission : u.adm.queue = [] ∨ ∃ e rest, u.adm.queue = e :: rest ∧ u.admits e = false) : conclude s0 u = close u := by
  have ends := staged_concludes (s := u) (b := 0) (w := u.scene 0) s0 survey waiting urgent normal (waiting 0) (by rw [staged_scene]; exact admission)
  rw [staged_scene] at ends
  rw [ends, evaluateBudget_of_flag u flag]

theorem flatMap_filter {α β : Type} {f : α → List β} {p : α → Bool} {l : List α} (h : ∀ a ∈ l, ¬ p a = true → f a = []) :
    (l.filter p).flatMap f = l.flatMap f := by
  induction l with
  | nil => rfl
  | cons a l ih =>
    have ih := ih fun c hc => h c (List.mem_cons_of_mem a hc)
    by_cases keep : p a = true
    · rw [List.filter_cons_of_pos keep, List.flatMap_cons, List.flatMap_cons, ih]
    · rw [List.filter_cons_of_neg keep, List.flatMap_cons, ih, h a List.mem_cons_self keep, List.nil_append]

/-- A request of governed kind to a row or to all bays, whose members fail, stand behind others, complete at once or wait at the head. -/
theorem exec_group_gets {s : State} {k : ReqKind} {h : Header} {t : ReqTarget} {src : Source} {result : Bay → Option Completion}
    {entry : Bay → Option (Phase × Option Count)} {q : Bay → List AdmEntry} (rest : s.Resting) (hs : s.Hears h t src)
    (governed : k.governed = true) (group : (∃ r, t = .row r) ∨ t = .all) (free : ∃ g : Fin 8, s.groups[g] = none)
    (gets : ∀ b ∈ targetBays t, s.MemberGets k src b (result b) (entry b) (q b)) :
    ∃ (g : Fin 8) (v : State), s.groups[g] = none
      ∧ exec (k.command h []) s = .next (close (v.settling g (groupRecord h.tag (targetBays t) result)))
      ∧ v = { s.heard with bays := v.bays, adm := { s.adm with queue := (targetBays t).flatMap q } }
      ∧ ∀ b, v.bay b = if b ∈ targetBays t ∧ s.memberFailure k src b = none then
          ((s.bay b).gathered (memberEntry k src h.tag g (entry b)) (q b) (result b)).record else s.bay b := by
  obtain ⟨g, chosen, unused⟩ := freeGroup_some free
  have member (b : Bay) : b ∈ s.passing k src (targetBays t) ↔ b ∈ targetBays t ∧ s.memberFailure k src b = none := by simp [State.passing]
  have settled := requestGroup_settles (s := s.heard) (k := k) (src := src) (bays := targetBays t) (g := g) (result := result)
    (j := fun b => (s.bay b).gathered (memberEntry k src h.tag g (entry b)) (q b) (result b)) h.tag (targetBays_nodup t) chosen unused
    (fun b hb => by
      rcases gets b hb with ⟨⟨c, fails, hc⟩, _⟩ | ⟨passes, _⟩
      · exact .inr (fails.trans hc.symm)
      · exact .inl passes)
    (fun _ _ => rfl) rest.normal (fun b _ x hx => by cases hx) fun u b hb gathers same _ => by
      obtain ⟨mem, passes⟩ := (member b).mp hb
      exact acceptRequest_gets gathers same governed passes (gets b mem) h.tag
  obtain ⟨kept, bays⟩ := foldl_joins (fun b => (s.bay b).gathered (memberEntry k src h.tag g (entry b)) (q b) (result b))
    (s.heard.passing k src (targetBays t)) s.heard
  generalize (s.heard.passing k src (targetBays t)).foldl
    (fun u b => u.joins b ((s.bay b).gathered (memberEntry k src h.tag g (entry b)) (q b) (result b))) s.heard = v at settled kept bays
  have entries : (s.passing k src (targetBays t)).flatMap q = (targetBays t).flatMap q :=
    flatMap_filter fun b hb fails => by
      rcases gets b hb with ⟨_, _, none⟩ | ⟨passes, _⟩
      · exact none
      · exact absurd (decide_eq_true passes) fails
  have kept : v = { s.heard with bays := v.bays, adm := { s.adm with queue := (targetBays t).flatMap q } } := by
    rw [← entries]
    conv_lhs => rw [kept]
    have queue : s.heard.adm.queue = [] := rest.admission
    have none : ((s.heard.passing k src (targetBays t)).flatMap fun b =>
      ((s.bay b).gathered (memberEntry k src h.tag g (entry b)) (q b) (result b)).exchanges) = [] := by
      simp [BayRecord.gathered]
    rw [none, queue, List.nil_append, List.append_nil]
    rfl
  refine ⟨g, v, unused, ?_, kept, fun b => ?_⟩
  · rw [exec_group rest hs governed group, settled]
    generalize hu : v.settling g (groupRecord h.tag (targetBays t) result) = u
    have touches : u = { v with groups := u.groups, link := u.link } := by
      rw [← hu]
      exact settling_touches v g _
    have record (b : Bay) : (u.bay b).waiting = [] ∧ (u.bay b).cls = (s.bay b).cls ∧ (u.bay b).reservation = (s.bay b).reservation := by
      rw [show u.bay b = v.bay b by rw [touches]; rfl, bays]
      split
      · exact ⟨rest.waiting b, rfl, rfl⟩
      · exact ⟨rest.waiting b, rfl, rfl⟩
    have adm : u.adm = { s.adm with queue := (targetBays t).flatMap q } := by
      rw [touches, kept]
    refine congrArg Host.Outcome.next (conclude_still s.heard ?_ ?_ ?_ (fun b => (record b).1) ?_ ?_)
    · rw [touches, kept]
      exact rest.survey
    · rw [touches, kept]
      exact rest.urgent
    · rw [touches, kept]
      exact rest.normal
    · unfold State.FlagFollows
      rw [adm]
      exact rest.flag
    · cases hq : (targetBays t).flatMap q with
      | nil => exact .inl (by rw [adm, hq])
      | cons e more =>
        obtain ⟨b, hb, he⟩ := List.mem_flatMap.mp (show e ∈ (targetBays t).flatMap q by rw [hq]; exact List.mem_cons_self)
        have waits : ∃ a, e = { bay := b, kind := a } ∧ s.admits { bay := b, kind := a } = false := by
          rcases gets b hb with ⟨_, _, none⟩ | ⟨_, ⟨_, _, _, none⟩ | ⟨_, _, _, none⟩ | ⟨_, _, p, waits, _⟩⟩
          · rw [none] at he
            cases he
          · rw [none] at he
            cases he
          · rw [none] at he
            cases he
          · rcases headWaits_admission waits with none | ⟨a, one, no⟩
            · rw [none] at he
              cases he
            · rw [one] at he
              exact ⟨a, List.mem_singleton.mp he, no⟩
        obtain ⟨a, rfl, no⟩ := waits
        refine .inr ⟨_, more, by rw [adm, hq], ?_⟩
        have profiles : u.adm.profiles = s.adm.profiles := by rw [adm]
        have profile : u.profileOf b = s.profileOf b := by simp only [State.profileOf, record, profiles]
        rw [admits_scene] at no ⊢
        rw [profile, (record b).2.2, adm]
        exact no
  · rw [bays]
    simp only [show s.heard.passing k src (targetBays t) = s.passing k src (targetBays t) from rfl, member]
    rfl

/-- A request whose every member fails, or that finds no free record, is answered at once (R50). -/
theorem exec_group_refused {s : State} {k : ReqKind} {h : Header} {t : ReqTarget} {src : Source} (rest : s.Resting) (hs : s.Hears h t src)
    (governed : k.governed = true) (group : (∃ r, t = .row r) ∨ t = .all)
    (refused : s.passing k src (targetBays t) = [] ∨ s.freeGroup = none) :
    exec (k.command h []) s = .next (s.answered (groupReply h.tag ((targetBays t).map fun b =>
      (b, (s.memberFailure k src b).getD { code := .busy, secondary := 0 })))) := by
  rw [exec_group rest hs governed group, requestGroup_refused (s := s.heard) refused]
  exact congrArg Host.Outcome.next (conclude_placeReply_heard rest _)

/-- Where every member has its result, the reply is placed (R52). -/
theorem group_full {v : State} {g : Fin 8} {tag : Byte} {bays : List Bay} {result : Bay → Option Completion} (unused : v.groups[g] = none)
    (f : Bay → Completion) (full : ∀ b ∈ bays, result b = some (f b)) :
    v.settling g (groupRecord tag bays result) = placeReply (groupReply tag (bays.map fun b => (b, f b))) v := by
  rw [settling_full unused (groupRecord_full.mpr fun b hb => by rw [full b hb]; exact fun e => by cases e), groupRecord_results full]
  rfl

/-- Where a member is pending, the record stands (R49). -/
theorem group_pending {v : State} {g : Fin 8} {tag : Byte} {bays : List Bay} {result : Bay → Option Completion}
    (pending : ∃ b ∈ bays, result b = none) :
    v.settling g (groupRecord tag bays result) = v.grouping g (groupRecord tag bays result) :=
  if_neg fun full => by
    obtain ⟨b, hb, none⟩ := pending
    exact groupRecord_full.mp full b hb none

/-! ### The reply of a group request (R52) -/

theorem failedMembers_none {ms : List (Bay × Completion)} (h : ∀ m ∈ ms, m.2.code = .done ∨ m.2.code = .already) : failedMembers ms = [] :=
  List.filter_eq_nil_iff.mpr fun m hm => by rcases h m hm with e | e <;> simp [e, Code.success]

theorem failedMembers_first {front back : List (Bay × Completion)} {m : Bay × Completion}
    (before : ∀ x ∈ front, x.2.code = .done ∨ x.2.code = .already) (failed : m.2.code ≠ .done ∧ m.2.code ≠ .already) :
    failedMembers (front ++ m :: back) = m :: back.filter fun x => decide (x.2.code ≠ .done ∧ x.2.code ≠ .already) := by
  have success (c : Code) : (!c.success) = decide (c ≠ .done ∧ c ≠ .already) := by cases c <;> rfl
  have kept : (!m.2.code.success) = true := (success _).trans (decide_eq_true failed)
  have front' : front.filter (fun m => !m.2.code.success) = [] := failedMembers_none before
  unfold failedMembers
  rw [List.filter_append, front', List.nil_append, List.filter_cons_of_pos (p := fun m : Bay × Completion => !m.2.code.success) kept]
  exact congrArg (m :: ·) (List.filter_congr fun x _ => success _)

end Sys2Proof.Machine
end

section
/-! PROOFS. Group requests whose members issue their exchanges (R10, R37, R49, R128). -/

namespace Sys2Proof.Machine

set_option Elab.async false

/-- The exchange that an UNLOAD or a SPIN-DOWN issues (R34). -/
theorem headCheck_issue_down {k : ReqKind} {st : BayState} {x : ExKind} (kinds : k = .unload ∨ k = .spinDown)
    (issue : headCheck k st = .issue x) : x = .unload ∨ x = .stop := by
  rcases headCheck_issue issue with rfl | rfl | down
  · rcases kinds with rfl | rfl <;> cases st <;> cases issue
  · rcases kinds with rfl | rfl <;> cases st <;> cases issue
  · exact down

/-- What the joining of a member leaves that issues its exchange. -/
def State.issues (s : State) (k : ReqKind) (src : Source) (tag : Byte) (g : Fin 8) (x : ExKind) (b : Bay) : Joined :=
  { record := { s.bay b with
      restoreIntent := false
      queue := [{ kind := k, origin := .upstream src tag (some g), payload := [], phase := .issued, wait := s.waitDeadline }] }
    entries := [], exchanges := [s.exchangeFor b x .head []], result := none }

theorem acceptRequest_issues {s u : State} {k : ReqKind} {src : Source} {b : Bay} {g : Fin 8} {x : ExKind} (rest : s.Resting)
    (gathers : s.Gathers u) (same : u.bay b = s.bay b) (apart : ∀ y ∈ u.bus.normal, y.serves b = false) (governed : k.governed = true)
    (empty : (s.bay b).queue = []) (slot : (s.bay b).slot = none) (issue : headCheck k (s.bay b).state = .issue x) (tag : Byte) :
    acceptRequest b (entryOf k src tag (some g) []) u = recordResult g b none (u.joins b (s.issues k src tag g x b)) := by
  have intent : ((s.bay b).restoreIntent && !(entryOf k src tag (some g) []).kind.governed) = false := by
    show (_ && !k.governed) = false
    rw [governed]
    simp
  have due : u.waitDeadline = s.waitDeadline := by
    rw [gathers]
    rfl
  have first := staged_acceptRequest_first (s := u) (w := u.scene b) (b := b) (by rw [← same] at empty; exact empty)
    (entryOf k src tag (some g) [])
  rw [staged_scene, show (u.scene b).bay = s.bay b from same, intent, due] at first
  have urgent : u.bus.urgent = [] := by
    rw [gathers]
    exact rest.urgent
  have current : u.bus.current = none := by
    rw [gathers]
    exact rest.current
  refine (first.trans (staged_check_issues (k := x) rfl rfl slot issue ?_)).trans ?_
  · exact ⟨urgent, apart, fun c hc => (Option.some_ne_none c (hc.symm.trans current)).elim, by rw [staged_bay]; exact rest.waiting b⟩
  refine Eq.trans ?_ (staged_joins u b _)
  unfold State.issues
  dsimp only
  rw [List.append_nil]
  rfl

theorem exec_group_issues {s : State} {k : ReqKind} {h : Header} {t : ReqTarget} {src : Source} {x : Bay → ExKind} (rest : s.Resting)
    (hs : s.Hears h t src) (governed : k.governed = true) (group : (∃ r, t = .row r) ∨ t = .all) (free : ∃ g : Fin 8, s.groups[g] = none)
    (nonempty : targetBays t ≠ [])
    (members : ∀ b ∈ targetBays t, s.memberFailure k src b = none ∧ (s.bay b).queue = [] ∧ (s.bay b).slot = none
      ∧ headCheck k (s.bay b).state = .issue (x b)) :
    ∃ (g : Fin 8) (v : State), s.groups[g] = none
      ∧ exec (k.command h []) s = .next (conclude s.heard (v.grouping g (groupRecord h.tag (targetBays t) fun _ => none)))
      ∧ v = { s.heard with
          bays := v.bays, bus := { idleBus [] with normal := (targetBays t).map fun b => s.exchangeFor b (x b) .head [] } }
      ∧ ∀ b, v.bay b = if b ∈ targetBays t then (s.issues k src h.tag g (x b) b).record else s.bay b := by
  obtain ⟨g, chosen, unused⟩ := freeGroup_some free
  have passing : s.heard.passing k src (targetBays t) = targetBays t :=
    List.filter_eq_self.mpr fun b hb => decide_eq_true (members b hb).1
  have settled := requestGroup_settles (s := s.heard) (k := k) (src := src) (bays := targetBays t) (g := g) (result := fun _ => none)
    (j := fun b => s.issues k src h.tag g (x b) b) h.tag (targetBays_nodup t) chosen unused
    (fun b hb => .inl (members b hb).1) (fun _ _ => rfl) rest.normal
    (fun b _ y hy d other => by
      rw [List.mem_singleton.mp hy]
      exact decide_eq_false (Ne.symm other))
    fun u b hb gathers same apart => by
      obtain ⟨_, empty, slot, issue⟩ := members b (List.mem_filter.mp hb).1
      exact acceptRequest_issues (s := s.heard) ⟨⟨rest.urgent, rest.normal, rest.waiting, rest.admission, rest.flag⟩, rest.survey, rest.current,
        rest.free⟩ gathers same apart governed empty slot issue h.tag
  rw [passing] at settled
  obtain ⟨kept, bays⟩ := foldl_joins (fun b => s.issues k src h.tag g (x b) b) (targetBays t) s.heard
  generalize (targetBays t).foldl (fun u b => u.joins b (s.issues k src h.tag g (x b) b)) s.heard = v at settled kept bays
  have kept : v = { s.heard with
      bays := v.bays, bus := { idleBus [] with normal := (targetBays t).map fun b => s.exchangeFor b (x b) .head [] } } := by
    conv_lhs => rw [kept]
    have entries : ((targetBays t).flatMap fun b => (s.issues k src h.tag g (x b) b).entries) = [] := by simp [State.issues]
    have exchanges : ((targetBays t).flatMap fun b => (s.issues k src h.tag g (x b) b).exchanges)
        = (targetBays t).map fun b => s.exchangeFor b (x b) .head [] := by
      rw [List.map_eq_flatMap]
      rfl
    rw [entries, exchanges, List.append_nil, show s.heard.bus = idleBus [] from Resting.bus rest []]
    rfl
  refine ⟨g, v, unused, ?_, kept, bays⟩
  obtain ⟨b, hb⟩ := List.exists_mem_of_ne_nil _ nonempty
  rw [exec_group rest hs governed group, settled, group_pending ⟨b, hb, rfl⟩]

theorem groupRecord_pending (tag : Byte) (bays : List Bay) : groupRecord tag bays (fun _ => none)
    = { tag := tag, members := bays.map fun b => { bay := b, result := none }, outstanding := bays.length } := by
  unfold groupRecord
  simp

/-- The first member's exchange starts in the event (R10, R128). -/
theorem group_starts {u v : State} {first : Bay} {x : Exchange} {more : List Exchange} {r : Request} {st : BayState} (s0 : State)
    (survey : u.survey.running = false) (waiting : ∀ b, (u.bay b).waiting = []) (admission : u.adm.queue = [])
    (bus : u.bus = { idleBus [] with normal := x :: more }) (unblocked : u.blocked x = false) (emptied : v = u.updBus fun y => { y with normal := more })
    (queue : (u.bay first).queue = [r]) (target : x.target = .bay first) (owner : x.owner = .head) (changing : x.kind.stateChanging = true)
    (row : startState x.kind (u.bay first).state = some st)
    (booked : (u.bay first).reservation = (u.profileOf first).reservation (u.bay first).state) :
    conclude s0 u = close (evaluateBudget (v.staged first ({ v.scene first with
      bay := { u.bay first with queue := [{ r with wait := none }] } }.starting first x st v.now (v.after 50)))) := by
  have vbay (b : Bay) : v.bay b = u.bay b := by rw [emptied]; rfl
  have started := staged_start_head (s := v) (b := first) (w := v.scene first) (x := x) (st := st) (r := r) (more := [])
    (by rw [← vbay] at queue; exact queue) target owner changing (by rw [← vbay] at row; exact row) (by subst emptied; exact booked)
  rw [staged_scene, show (v.scene first).bay = u.bay first from vbay first] at started
  refine conclude_starts s0 survey waiting (by unfold State.mayTake; rw [bus]; rfl)
    (choose_normal (s := u) (x := x) (rest := more) (by rw [bus]; rfl) (by rw [bus]) unblocked) (by rw [← emptied]; exact started) rfl
    (staged_waiting (by exact waiting first) fun b => by rw [vbay]; exact waiting b) ?_
  subst emptied
  exact admission

/-- The part whose members have all issued, with only the exchanges of `rest` still queued. -/
def State.groupIssued (v : State) (g : Fin 8) (rec : GroupRecord) (more : List Exchange) : State :=
  (v.grouping g rec).updBus fun y => { y with normal := more }

/-- An UNLOAD or a SPIN-DOWN whose every member issues its exchange: the first starts in the event (R10, R37, R128). -/
theorem exec_group_starts {s : State} {k : ReqKind} {h : Header} {t : ReqTarget} {src : Source} {first : Bay} {more : List Bay} {x : Bay → ExKind}
    {st : BayState} (rest : s.Resting) (balanced : s.Balanced) (hs : s.Hears h t src) (kinds : k = .unload ∨ k = .spinDown)
    (group : (∃ r, t = .row r) ∨ t = .all) (free : ∃ g : Fin 8, s.groups[g] = none) (order : targetBays t = first :: more)
    (members : ∀ b ∈ targetBays t, s.memberFailure k src b = none ∧ (s.bay b).queue = [] ∧ (s.bay b).slot = none
      ∧ headCheck k (s.bay b).state = .issue (x b)) (row : startState (x first) (s.bay first).state = some st) :
    ∃ (g : Fin 8) (v : State), s.groups[g] = none
      ∧ v = { s.heard with
          bays := v.bays, bus := { idleBus [] with normal := (targetBays t).map fun b => s.exchangeFor b (x b) .head [] } }
      ∧ (∀ b, v.bay b = if b ∈ targetBays t then (s.issues k src h.tag g (x b) b).record else s.bay b)
      ∧ v.profileOf first = s.profileOf first
      ∧ ∀ u, u = v.groupIssued g (groupRecord h.tag (targetBays t) fun _ => none) (more.map fun b => s.exchangeFor b (x b) .head []) →
        exec (k.command h []) s = .next (close (evaluateBudget (u.staged first ({ u.scene first with
          bay := { v.bay first with
            queue := [{ kind := k, origin := .upstream src h.tag (some g), payload := [], phase := .issued, wait := none }] } }.starting first
              (s.exchangeFor first (x first) .head []) st u.now (u.after 50))))) := by
  have governed : k.governed = true := by rcases kinds with rfl | rfl <;> rfl
  have own : first ∈ targetBays t := by
    rw [order]
    exact List.mem_cons_self
  obtain ⟨g, v, unused, ends, kept, bays⟩ := exec_group_issues rest hs governed group free (List.ne_nil_of_mem own) members
  obtain ⟨_, empty, slot, issue⟩ := members first own
  have changing : (x first).stateChanging = true := by rcases headCheck_issue_down kinds issue with e | e <;> rw [e] <;> rfl
  have found : v.bay first = (s.issues k src h.tag g (x first) first).record := by rw [bays, if_pos own]
  have profile : v.profileOf first = s.profileOf first := by
    have profiles : v.adm.profiles = s.adm.profiles := by
      rw [kept]
      rfl
    have cls : (v.bay first).cls = (s.bay first).cls := by
      rw [found]
      rfl
    simp only [State.profileOf, cls, profiles]
  have waiting (b : Bay) : (v.bay b).waiting = [] := by
    rw [bays]
    split
    · exact rest.waiting b
    · exact rest.waiting b
  have booked : (v.bay first).reservation = (v.profileOf first).reservation (v.bay first).state := by
    rw [profile, found]
    exact balanced.1 first
  refine ⟨g, v, unused, kept, bays, profile, fun u hu => ends.trans (congrArg Host.Outcome.next ?_)⟩
  exact group_starts (u := v.grouping g (groupRecord h.tag (targetBays t) fun _ => none)) (first := first)
    (x := s.exchangeFor first (x first) .head []) (more := more.map fun b => s.exchangeFor b (x b) .head []) (st := st)
    (r := { kind := k, origin := .upstream src h.tag (some g), payload := [], phase := .issued, wait := s.waitDeadline })
    s.heard (by rw [kept]; exact rest.survey) waiting (by rw [kept]; exact rest.admission) (by rw [kept, order]; rfl)
    (issued_unblocked issue _ _ rfl) hu (by exact congrArg BayRecord.queue found) rfl rfl changing
    (by show startState _ (v.bay first).state = _; rw [found]; exact row) booked

end Sys2Proof.Machine
end

section
/-! PROOFS. A member of a group request completes (R22, R31, R38, R39, R51, R52). -/

namespace Sys2Proof.Machine

set_option Elab.async false

section Member

variable {s : State} {b : Bay} {w : Scene} {r : Request} {src : Source} {tag : Byte} {g : Fin 8} {rec : GroupRecord}

/-- A member's completion is recorded and not replied to, but with the last (R51, R52). -/
theorem delivered_group (origin : r.origin = .upstream src tag (some g)) (stands : w.groups[g] = some rec) (c : Completion) :
    w.delivered b r c [] = if rec.outstanding - 1 = 0 then
        { w with replies := w.replies ++ [groupReply rec.tag (rec.filled b c).results], groups := w.groups.set g none }
      else { w with groups := w.groups.set g (some (rec.filled b c)) } := by
  unfold Scene.delivered
  rw [origin]
  dsimp only
  rw [stands]
  rfl

theorem delivered_entering (origin : r.origin = .upstream src tag (some g)) (stands : w.groups[g] = some rec) (c : Completion) (e : BayRecord)
    (st : BayState) (now : Count) :
    ({ w.delivered b r c [] with bay := e } : Scene).entering b st now = (({ w with bay := e } : Scene).entering b st now).delivered b r c [] := by
  have stands' : (({ w with bay := e } : Scene).entering b st now).groups[g] = some rec := stands
  rw [delivered_group origin stands, delivered_group origin stands']
  split
  · rfl
  · rfl

/-- The results of a record whose other members are known. -/
theorem filled_results {c : Completion} {f : Bay → Completion} (own : f b = c)
    (known : ∀ m ∈ rec.members, m.bay ≠ b → m.result = some (f m.bay)) :
    (rec.filled b c).results = rec.members.map fun m => (m.bay, f m.bay) := by
  unfold GroupRecord.results GroupRecord.filled
  dsimp only
  rw [List.filterMap_map, ← List.filterMap_eq_map]
  refine List.filterMap_congr fun m hm => ?_
  by_cases here : m.bay = b
  · simp [here, own]
  · simp [here, known m hm here]

/-- What an event leaves and tells whose last work delivers a member's completion. -/
theorem delivered_ends {t : State} {n : Nat} {q : List AdmEntry} {c : Completion}
    (ht : close (evaluateBudget (s.staged b (w.delivered b r c []))) = t) (origin : r.origin = .upstream src tag (some g))
    (stands : s.groups[g] = some rec) (adm : w.adm = { s.adm with committed := n, queue := q }) (groups : w.groups = s.groups)
    (replies : w.replies = []) :
    t.bay b = w.bay ∧ t.adm = { s.adm.committing n with queue := q } ∧ t.bus = w.bus ∧ t.ffr = w.ffr
      ∧ ({ s with groups := t.groups } : State).KeepsBut t b ∧ s.Records t g rec b c (w.notices ++ s.budgetNews t.adm.committed) := by
  have group := delivered_group (w := w) (b := b) origin (by rw [groups]; exact stands) c
  rw [groups, replies, List.nil_append] at group
  have keeps := delivered_keeps w b r c []
  have same : (w.delivered b r c []).adm = { s.adm with committed := n, queue := q } := by
    rw [keeps]
    exact adm
  obtain ⟨bay, hadm, bus, ffr, hgroups, kept, tells⟩ := staged_ends (w := w.delivered b r c []) (by rw [same]) (by rw [same]) t ht.symm
  have e : t.adm = { s.adm.committing n with queue := q } := by
    rw [hadm, same]
    rfl
  have committed : (w.delivered b r c []).adm.committed = t.adm.committed := by
    rw [e, same]
    rfl
  have notices : (w.delivered b r c []).notices = w.notices := by rw [keeps]
  rw [committed, notices] at tells
  refine ⟨bay.trans (by rw [keeps]), e, bus.trans (by rw [keeps]), ffr.trans (by rw [keeps]), kept, fun more => ?_, fun last => ?_⟩
  · rw [if_neg (by omega)] at group
    rw [group] at tells hgroups
    exact ⟨hgroups, tells⟩
  · rw [if_pos (by rw [last])] at group
    rw [group] at tells hgroups
    refine ⟨hgroups, fun f own known => ?_⟩
    rw [filled_results own known] at tells
    exact tells

/-- The bus and the Admission Queue stand as before the delivery. -/
theorem delivered_concludes {c : Completion} (idle : w.Idle) (survey : s.survey.running = false) (others : ∀ d, (s.bay d).waiting = [])
    (admission : w.adm.queue = []) :
    conclude s.begin (s.begin.staged b (w.delivered b r c [])) = close (evaluateBudget (s.begin.staged b (w.delivered b r c []))) := by
  obtain ⟨⟨sent, bus⟩, waiting⟩ := idle
  have keeps := delivered_keeps w b r c []
  have bus' : (w.delivered b r c []).bus = idleBus sent := by
    rw [keeps]
    exact bus
  exact staged_concludes (s := s.begin) s.begin survey others (by rw [bus']; rfl) (by rw [bus']; rfl) (by rw [keeps]; exact waiting)
    (.inl (by rw [keeps]; exact admission))

/-- An operation in flight completes and serves the lone head (R12, R39). -/
theorem completeOperation_serves {st : BayState} (idle : w.Idle) (slot : w.bay.slot = none) (intent : w.bay.restoreIntent = false)
    (booked : w.bay.reservation = (w.adm.profiles[w.bay.cls]).reservation w.bay.state) (hq : w.bay.queue = [r]) (issued : r.phase = .issued)
    (goal : r.kind.goalOf w.bay.state = true) :
    completeOperation b st (s.staged b w) = s.staged b (({ w.entering b st s.now with
      bay := { w.bay with state := st, reservation := (w.adm.profiles[w.bay.cls]).reservation st, deadline := none, queue := [] } }
      : Scene).delivered b r { code := .done, secondary := 0 } []) := by
  have entered : changeState b st (setDeadline b none (s.staged b w))
      = s.staged b ({ w with bay := { w.bay with deadline := none } }.entering b st s.now) := by
    rw [setDeadline, staged_updBay, staged_changeState (by exact booked)]
  have free : (s.staged b ({ w with bay := { w.bay with deadline := none } }.entering b st s.now)).Unbusied b :=
    Scene.Idle.unbusied (w := { w with bay := { w.bay with deadline := none } }.entering b st s.now) idle
  have served : completeServedHead b w.bay.state (s.staged b ({ w with bay := { w.bay with deadline := none } }.entering b st s.now))
      = s.staged b (({ w.entering b st s.now with
          bay := { w.bay with state := st, reservation := (w.adm.profiles[w.bay.cls]).reservation st, deadline := none, queue := [] } }
          : Scene).delivered b r { code := .done, secondary := 0 } []) := by
    unfold completeServedHead
    rw [head_cons (r := r) (more := []) (by rw [staged_bay]; exact hq)]
    dsimp only
    rw [if_pos ⟨issued, goal⟩, takeOut_unbusied free, staged_completeHead_last (by exact hq) (by exact intent)]
    rfl
  have own (v : Scene) (c : Completion) : (v.delivered b r c []).bay = v.bay := by rw [delivered_keeps]
  have noSlot (v : Scene) (h : v.bay.slot = none) : completeServedOperation b w.bay.state (s.staged b v) = s.staged b v := by
    unfold completeServedOperation
    rw [staged_bay, h]
  unfold completeOperation
  dsimp only
  rw [entered, staged_bay, takeOut_unbusied free, disregard_unbusied free, served, noSlot _ (by rw [own]; exact slot)]
  exact recheckHead_none (by rw [staged_bay, own])

/-- The removal of a drive ends the lone request of its bay (R22). -/
theorem removeDrive_serves (idle : w.Idle) (survey : s.survey.running = false) (admission : w.adm.queue = [])
    (booked : w.bay.reservation = (w.adm.profiles[w.bay.cls]).reservation w.bay.state) (hq : w.bay.queue = [r])
    (origin : r.origin = .upstream src tag (some g)) (stands : w.groups[g] = some rec) :
    removeDrive b none (s.staged b w) = s.staged b ((({ w with bay := w.bay.removed } : Scene).entering b .empty s.now).delivered b r
      { code := .bayEmpty, secondary := 0 } []) := by
  have completed : completeRemoved b none (s.staged b w) = s.staged b (w.delivered b r { code := .bayEmpty, secondary := 0 } []) := by
    unfold completeRemoved
    rw [staged_bay, hq]
    exact staged_deliver r _ []
  have keeps := delivered_keeps w b r { code := .bayEmpty, secondary := 0 } []
  generalize hv : w.delivered b r { code := .bayEmpty, secondary := 0 } [] = v at completed keeps
  have bay : v.bay = w.bay := by rw [keeps]
  have adm : v.adm = w.adm := by rw [keeps]
  have free : (s.staged b { v with bay := w.bay.removed }).Unbusied b := by
    obtain ⟨⟨sent, bus⟩, waiting⟩ := idle
    exact Scene.Idle.unbusied (w := { v with bay := w.bay.removed }) ⟨⟨sent, by rw [keeps]; exact bus⟩, waiting⟩
  have left : leaveAdmission b (s.staged b { v with bay := w.bay.removed }) = s.staged b { v with bay := w.bay.removed } := by
    unfold leaveAdmission
    rw [staged_updAdm, adm, admission, List.filter_nil, ← admission, ← adm]
  have uncounted : surveyKnown b (s.staged b { v with bay := w.bay.removed }) = s.staged b { v with bay := w.bay.removed } :=
    if_neg fun h => by
      rw [show s.survey.running = true from h.1] at survey
      cases survey
  unfold removeDrive
  dsimp only
  rw [completed, staged_updBay, bay, left, takeOut_unbusied free, leaveBaySet_unbusied free, disregard_unbusied free, uncounted,
    staged_changeState (by show w.bay.reservation = (v.adm.profiles[w.bay.cls]).reservation w.bay.state; rw [adm]; exact booked), ← hv,
    delivered_entering origin stands]

end Member

end Sys2Proof.Machine
end

section
/-! PROOFS. Group requests, settled. -/

namespace Sys2Proof.Proofs

set_option Elab.async false

open Sys2Proof.Machine

/-- Settles O29: the members that fail, complete, wait or issue, the ends of a member, and the reply. -/
theorem groupRequestsAnswerForEveryMember : Obligations.GroupRequestsAnswerForEveryMember := by
  refine ⟨fun s k h t src f rest hs governed group fails => ?_, fun s k h t src rest hs governed group taken => ?_,
    fun s h t src rest hs group free passes => ?_, fun s k h t src result entry q rest hs governed group free gets => ?_, ?_, ?_, ?_⟩
  · have none : s.passing k src (targetBays t) = [] := List.filter_eq_nil_iff.mpr fun b hb => by simp [fails b hb]
    rw [exec_group_refused rest hs governed group (.inl none)]
    have same : ((targetBays t).map fun b => (b, (s.memberFailure k src b).getD { code := .busy, secondary := 0 }))
        = (targetBays t).map fun b => (b, f b) := List.map_congr_left fun b hb => by rw [fails b hb]; rfl
    rw [same]
  · exact exec_group_refused rest hs governed group (.inr (freeGroup_none taken))
  · obtain ⟨g, v, unused, ends, kept, bays⟩ := exec_group_gets (k := .barrier) (result := fun _ => some { code := .done, secondary := 0 })
      (entry := fun _ => none) (q := fun _ => []) rest hs rfl group free fun b hb => by
        obtain ⟨none, empty, slot⟩ := passes b hb
        exact .inr ⟨none, .inr (.inl ⟨empty, ⟨_, ⟨slot, rfl⟩, rfl⟩, rfl, rfl⟩)⟩
    have heard : v = ({ s with bays := v.bays } : State).heard := by
      have queue : ((targetBays t).flatMap fun _ => ([] : List AdmEntry)) = s.adm.queue := by
        rw [rest.admission]
        simp
      rw [queue] at kept
      exact kept
    rw [show exec (.barrier h []) s = exec (ReqKind.barrier.command h []) s from rfl, ends,
      group_full (by rw [kept]; exact unused) (fun _ => { code := .done, secondary := 0 }) fun _ _ => rfl, heard, close_placeReply_heard]
    refine ⟨_, rfl, fun b => (bays b).trans ?_, rfl, ?_⟩
    · by_cases hb : b ∈ targetBays t
      · obtain ⟨none, empty, slot⟩ := passes b hb
        rw [if_pos ⟨hb, none⟩, if_pos hb]
        unfold BayRecord.gathered memberEntry
        rw [List.append_nil]
      · rw [if_neg fun e => hb e.1, if_neg hb]
    · rw [← Resting.bus rest []]
      rfl
  · obtain ⟨g, v, unused, ends, kept, bays⟩ := exec_group_gets rest hs governed group free gets
    have free : v.groups[g] = none := by
      rw [kept]
      exact unused
    have touches := settling_touches v g (groupRecord h.tag (targetBays t) result)
    generalize hu : v.settling g (groupRecord h.tag (targetBays t) result) = u at ends touches
    have groups : (close u).groups = u.groups := by rw [close_touches]
    refine ⟨g, unused, _, ends, fun b => ?_, ?_, fun pending => ?_, fun f full => ?_, ?_⟩
    · rw [close_bay, show u.bay b = v.bay b by rw [touches]; rfl, bays]
      cases entry b <;> rfl
    · rw [show (close u).adm = u.adm by rw [close_touches], touches, kept]
    · rw [group_pending pending] at hu
      refine ⟨tells_close ?_ ?_, groups.trans ?_⟩
      · rw [← hu, kept]
        rfl
      · rw [← hu, kept]
        rfl
      · rw [← hu, kept]
        rfl
    · rw [group_full free f full] at hu
      refine ⟨⟨u, rfl, ?_, ?_⟩, groups.trans ?_⟩
      · rw [← hu, kept]
        rfl
      · rw [← hu, kept]
        rfl
      · rw [← hu, kept]
        rfl
    · generalize ht : close u = w
      rw [closed_touches ht, touches, kept, ← Resting.bus rest []]
      rfl
  · intro s k h t src first more x st rest balanced hs kinds group free order members row
    have own : first ∈ targetBays t := by
      rw [order]
      exact List.mem_cons_self
    obtain ⟨g, v, unused, kept, bays, profile, ends⟩ := exec_group_starts rest balanced hs kinds group free order members row
    obtain ⟨_, _, _, issue⟩ := members first own
    have kind := headCheck_issue_down kinds issue
    have found : v.bay first = (s.issues k src h.tag g (x first) first).record := by rw [bays, if_pos own]
    have held : v.adm = s.adm := by
      rw [kept]
      rfl
    refine ⟨g, unused, _, ends _ rfl, ?_⟩
    generalize ht : close _ = u
    obtain ⟨bay, adm, bus, ffr, keeps, tells⟩ := moved_ends ht rfl rfl
    have records (b : Bay) (other : b ≠ first) : u.bay b = v.bay b := by
      rw [keeps]
      exact updBay_bay_other v (fun _ => u.bay first) other
    have nodup : (first :: more).Nodup := order ▸ targetBays_nodup t
    refine ⟨?_, ?_, fun b hb => ?_, fun b hb => ?_, ?_, ?_, ?_, ?_⟩
    · rw [keeps]
      show v.groups.set g (some (groupRecord h.tag (targetBays t) fun _ => none)) = _
      rw [groupRecord_pending, show v.groups = s.groups by rw [kept]; rfl]
    · rw [bay]
      show ({ v.bay first with
        state := st, reservation := (v.profileOf first).reservation st, deadline := none
        queue := [{ kind := k, origin := .upstream src h.tag (some g), payload := [], phase := .issued, wait := none }] } : BayRecord) = _
      rw [profile, found]
      rfl
    · rw [records b fun e => (List.nodup_cons.mp nodup).1 (e ▸ hb), bays, if_pos (by rw [order]; exact List.mem_cons_of_mem first hb)]
      rfl
    · rw [records b fun e => hb (e ▸ own), bays, if_neg hb]
    · rw [adm]
      show v.adm.committing (v.adm.committed + (v.profileOf first).reservation st - (v.bay first).reservation) = _
      rw [profile, found, held]
      rfl
    · rw [bus]
      show BusController.trying _ (if x first = .spin ∨ x first = .load then _ else
        { s.exchangeFor first (x first) .head [] with before := (v.bay first).state }) (v.after 50) = _
      rw [if_neg (by rcases kind with e | e <;> rw [e] <;> decide), found, kept]
      rfl
    · obtain ⟨y, closes, link, notices⟩ := tells
      refine ⟨y, closes, link.trans ?_, notices.trans ?_⟩
      · exact congrArg (fun z : State => { z.link with replies := z.link.replies ++ [] }) kept
      · have news : v.budgetNews = s.budgetNews := by
          rw [kept]
          rfl
        show v.notices.handAll (([] ++ if (v.bay first).state = st then [] else
          [.bay first st ((v.profileOf first).reservation st) v.now]) ++ v.budgetNews u.adm.committed) = _
        rw [profile, found, news, kept]
        rfl
    · have ffr : u.ffr = s.ffr := by
        rw [ffr]
        show v.ffr = s.ffr
        rw [kept]
        rfl
      rw [keeps, ffr, kept]
      rfl
  · intro s b r src tag g rec hq origin stands intent
    refine ⟨fun secondary rests due waited => ?_, fun f cond k st rest balanced hf hb hp known completes slot issued goal => ?_,
      fun f rest balanced hf hb hp present => ?_⟩
    · have idle : ({ s.expiring b with bay := { s.bay b with queue := [] } } : Scene).Idle := ⟨⟨[], rfl⟩, rests.waiting b⟩
      rw [exec_expires rests hq due waited, staged_completeHead_last (w := s.expiring b) hq intent]
      refine ⟨_, congrArg Host.Outcome.next (delivered_concludes idle rests.survey rests.waiting rfl), ?_⟩
      generalize ht : close _ = t
      obtain ⟨bay, adm, bus, ffr, keeps, records⟩ := delivered_ends ht origin stands rfl rfl rfl
      have unmoved : t.adm = { s.adm with queue := [] } := by
        rw [adm]
        exact congrArg (fun a : Admission => { a with queue := [] }) (committing_self rests.flag)
      refine ⟨bay, unmoved, bus, ffr, keeps, ?_⟩
      rw [unmoved] at records
      rw [show s.begin.budgetNews s.adm.committed = [] from budgetNews_self rests.flag] at records
      exact records
    · have idle : ({ s.atRest b [] with bus := idleBus [{ destination := f.initiator, kind := 0x40, payload := [] }] } : Scene).Idle :=
        ⟨⟨_, rfl⟩, rest.waiting b⟩
      rw [exec_taken (c := .done f) rfl hf (takenBy_done hf.ofKind hb (hp ▸ reportOf_present known)), acked_atRest rest b,
        staged_takeReport known]
      rw [staged_conditionCompletes (by exact idle) (by exact completes)]
      rw [completeOperation_serves (r := r) (by exact idle) (by exact slot) (by exact intent) (by exact balanced.1 b) (by exact hq) issued (by exact goal)]
      refine ⟨_, congrArg Host.Outcome.next (delivered_concludes ⟨⟨_, rfl⟩, rest.waiting b⟩ rest.survey rest.waiting rest.admission), ?_⟩
      generalize ht : close _ = t
      obtain ⟨bay, adm, bus, ffr, keeps, records⟩ := delivered_ends (q := s.adm.queue) ht origin stands rfl rfl rfl
      exact ⟨bay, adm, bus, ffr, keeps, records⟩
    · have idle : ({ s.atRest b [] with bus := idleBus [{ destination := f.initiator, kind := 0x40, payload := [] }] } : Scene).Idle :=
        ⟨⟨_, rfl⟩, rest.waiting b⟩
      rw [exec_removed hf hb hp, acked_atRest rest b, presenceRemoved, if_neg (by rw [staged_bay]; exact present),
        removeDrive_serves (s := s.begin) (by exact idle) rest.survey rest.admission (balanced.1 b) hq origin stands]
      refine ⟨_, congrArg Host.Outcome.next (delivered_concludes ⟨⟨_, rfl⟩, rest.waiting b⟩ rest.survey rest.waiting rest.admission), ?_⟩
      generalize ht : close _ = t
      obtain ⟨bay, adm, bus, ffr, keeps, records⟩ := delivered_ends (q := s.adm.queue) ht origin stands rfl rfl rfl
      refine ⟨bay.trans ?_, adm, bus, ffr, keeps, records⟩
      exact congrArg (fun i : Bool => ({ s.bay b with
        state := .empty, reservation := 0, queue := [], slot := none, deadline := none, holder := none, sweepLevel := 0, retry := 0
        cache := none, restoreIntent := i } : BayRecord)) intent.symm
  · refine fun tag ms => ⟨rfl, rfl, rfl, fun success => ?_, fun front back m split before failed kept => ?_⟩
    · unfold groupReply
      rw [failedMembers_none success]
      rfl
    · subst split
      unfold groupReply
      rw [failedMembers_first before ⟨failed, kept⟩, List.length_cons, Nat.add_comm]

end Sys2Proof.Proofs
end
